-- ==== Sys2Proof/Word.lean ====
section
/-! DEFINITION. The plain data the whole model shares: characters, the four channels, and one value for each channel. -/

namespace Sys2Proof

/-- A character of the field line, or a byte of the configuration image (file 11, R209, R214). -/
abbrev Byte := BitVec 8

/-- A CRC remainder or a raw converter count (R25, R87). -/
abbrev Word16 := BitVec 16

/-- The four heating channels, 0 the most upstream (file 00, section 1). -/
inductive Chan where
  | c0 | c1 | c2 | c3
deriving DecidableEq, Repr

/-- A channel's number. -/
def Chan.num : Chan → Nat
  | .c0 => 0
  | .c1 => 1
  | .c2 => 2
  | .c3 => 3

/-- The channels in channel order. -/
def Chan.list : List Chan := [.c0, .c1, .c2, .c3]

/-- One value for each channel. -/
structure Four (α : Type) where
  v0 : α
  v1 : α
  v2 : α
  v3 : α
deriving DecidableEq, Repr

/-- The value of one channel. -/
def Four.get {α : Type} (f : Four α) : Chan → α
  | .c0 => f.v0
  | .c1 => f.v1
  | .c2 => f.v2
  | .c3 => f.v3

/-- The same value for every channel. -/
def Four.const {α : Type} (a : α) : Four α := ⟨a, a, a, a⟩

/-- The values a rule gives channel by channel. -/
def Four.of {α : Type} (g : Chan → α) : Four α := ⟨g .c0, g .c1, g .c2, g .c3⟩

/-- Every channel's value changed by one rule. -/
def Four.map {α β : Type} (f : Four α) (g : α → β) : Four β := ⟨g f.v0, g f.v1, g f.v2, g f.v3⟩

/-- One channel's value changed, the others kept. -/
def Four.set {α : Type} (f : Four α) (c : Chan) (a : α) : Four α :=
  match c with
  | .c0 => { f with v0 := a }
  | .c1 => { f with v1 := a }
  | .c2 => { f with v2 := a }
  | .c3 => { f with v3 := a }

/-- The values in channel order. -/
def Four.toList {α : Type} (f : Four α) : List α := [f.v0, f.v1, f.v2, f.v3]

/-- The five temperature inputs T0, T1, T2, T3 and AMB (R86). -/
inductive Sensor where
  | wall (c : Chan)
  | ambient
deriving DecidableEq, Repr

end Sys2Proof
end

