-- ==== Sys2Proof/Syntax.lean ====
section
/-! DEFINITION. The commands: one constructor for each row of spec/opcode_table.json, in the table's order. The table gives a row
no bits and no operands, so each constructor carries what its rule says the event brings. `dt` is the time in microseconds since
the event before it, for an event that comes from outside (log 1). An expiry of one of the part's own timers carries no time. `wave`
is the samples of the line since the last one taken, true for dominant, up to the event (R20; log 27). -/

namespace Sys2Proof

/-- What an accepted zero-cross edge brings (R110, R111, R118): the time, the readback inputs HR0..HR3 (true while the switch
stage conducts), and, for an edge that is a period end, which of the events that fall together there is taken first: the readback
checks or the period end's work, and the sequencer's closing of its period or the control step (R102, R207). For an edge at which
the leakage watch's count reaches 10: whether the watch's decision is taken before the edge's other work, or after it by the row of its
own, LEAKAGE_WATCH_EXPIRY (R181, R207; log 7). -/
structure EdgeIn where
  dt : Nat
  hr : Four Bool
  watchFirst : Bool
  checksFirst : Bool
  closeFirst : Bool
deriving DecidableEq, Repr

/-- What an event of the line brings: the time, and the samples of the line since the last one taken, oldest first, true for dominant,
up to the event (R20; log 27). -/
structure LineIn where
  dt : Nat
  wave : List Bool
deriving DecidableEq, Repr

inductive Instr where
  /-- POWER_ON (R3) -/
  | powerOn
  /-- CONFIG_READ_COMPLETE (R5): the 98 bytes read -/
  | configReadComplete (dt : Nat) (bytes : List Byte)
  /-- CONFIG_PORT_REFUSAL (R4) -/
  | configPortRefusal (dt : Nat)
  /-- CONFIG_READ_TIMEOUT (R4) -/
  | configReadTimeout
  /-- LISTEN_INTERVAL_EXPIRY (R10) -/
  | listenIntervalExpiry
  /-- ISOLATION_TIMEOUT_EXPIRY (R11) -/
  | isolationTimeoutExpiry
  /-- LINE_IDLE (R22): the samples to the one at which the idle count stands at 192 -/
  | lineIdle (e : LineIn)
  /-- FRAME_START (R26): the samples to the dominant one at which the start is detected -/
  | frameStart (e : LineIn)
  /-- FRAME_C0_CHECK (R24): the samples to the end of C0 -/
  | frameC0Check (dt : Nat) (wave : List Bool)
  /-- FRAME_PREFILTER (R26): the samples to the end of C1, and on to the end of C2 -/
  | framePrefilter (dt : Nat) (wave1 wave2 : List Bool)
  /-- FRAMING_ERROR (R21): the samples to sample 8 of the stop bit that is in error, and samples 9 and 10 of it (R20) -/
  | framingError (dt : Nat) (wave : List Bool) (s9 s10 : Bool)
  /-- FRAME_BAD_CRC (R27): the samples to the end of the frame, as in every frame end below -/
  | frameBadCrc (dt : Nat) (wave : List Bool)
  /-- COMPLETED_FRAME_LOST (R27) -/
  | completedFrameLost (dt : Nat) (wave : List Bool)
  /-- REPORT (R70) -/
  | report (dt : Nat) (wave : List Bool)
  /-- FAULT_NOTICE (R73) -/
  | faultNotice (dt : Nat) (wave : List Bool)
  /-- ANSWER (R28) -/
  | answer (dt : Nat) (wave : List Bool)
  /-- SHORT_REQUEST_DISCARD (R46) -/
  | shortRequestDiscard (dt : Nat) (wave : List Bool)
  /-- BAD_REQUEST_CODE (R46) -/
  | badRequestCode (dt : Nat) (wave : List Bool)
  /-- SET_POINT (R53) -/
  | setPoint (dt : Nat) (wave : List Bool)
  /-- HOLD (R54) -/
  | hold (dt : Nat) (wave : List Bool)
  /-- RELEASE (R55) -/
  | release (dt : Nat) (wave : List Bool)
  /-- RESET_TRIP (R56): `residual` is the residual current in mA, which the leakage comparator compares (R106, R183) -/
  | resetTrip (dt residual : Nat) (wave : List Bool)
  /-- LEAK_TEST (R57) -/
  | leakTest (dt : Nat) (wave : List Bool)
  /-- MEASURE (R58) -/
  | measure (dt : Nat) (wave : List Bool)
  /-- RESLOT (R59) -/
  | reslot (dt : Nat) (wave : List Bool)
  /-- STOP_STATION (R60) -/
  | stopStation (dt : Nat) (wave : List Bool)
  /-- RESTART (R16) -/
  | restart (dt : Nat) (wave : List Bool)
  /-- FAULT_POP (R61) -/
  | faultPop (dt : Nat) (wave : List Bool)
  /-- READ_CHANNEL (R62) -/
  | readChannel (dt : Nat) (wave : List Bool)
  /-- READ_STATION (R63) -/
  | readStation (dt : Nat) (wave : List Bool)
  /-- READ_HALT (R64) -/
  | readHalt (dt : Nat) (wave : List Bool)
  /-- READ_PEER (R65) -/
  | readPeer (dt : Nat) (wave : List Bool)
  /-- READ_FAULT_HEAD (R66) -/
  | readFaultHead (dt : Nat) (wave : List Bool)
  /-- READ_IDENT (R67) -/
  | readIdent (dt : Nat) (wave : List Bool)
  /-- TRANSMIT_START (R29) -/
  | transmitStart (dt : Nat)
  /-- ARBITRATION_LOST (R30): the bit of the frame, counted from the start bit of C0, that read dominant -/
  | arbitrationLost (dt : Nat) (bit : Nat)
  /-- BIT_ERROR (R31): the bit of the frame and the level read, true for dominant -/
  | bitError (dt : Nat) (bit : Nat) (dominant : Bool)
  /-- TRANSMIT_COMPLETE (R32): the residual current, for a RESET_TRIP that is taken here (R45, R183) -/
  | transmitComplete (dt residual : Nat)
  /-- REPORT_TIMER_EXPIRY (R38) -/
  | reportTimerExpiry
  /-- STALE_EXPIRY (R76): the entry's station id -/
  | staleExpiry (id : Nat)
  /-- LOST_EXPIRY (R76): the entry's station id -/
  | lostExpiry (id : Nat)
  /-- REMOVAL_EXPIRY (R77): the entry's station id -/
  | removalExpiry (id : Nat)
  /-- FLOW_INPUT_CHANGE (R80): the level the pin FS now has, true for low (active) -/
  | flowInputChange (dt : Nat) (low : Bool)
  /-- FLOW_DEBOUNCE_EXPIRY (R80) -/
  | flowDebounceExpiry
  /-- ROUND_TIMER_EXPIRY (R89) -/
  | roundTimerExpiry
  /-- CONVERSION_END (R88): the raw count -/
  | conversionEnd (raw : Word16)
  /-- ROUND_COMPLETE (R90): the raw count of the kept AMB conversion -/
  | roundComplete (raw : Word16)
  /-- TEMPERATURE_AGE_EXPIRY (R95): the sensor whose value reaches the age limit -/
  | temperatureAgeExpiry (sensor : Sensor)
  /-- HALF_CYCLE_MIDPOINT (R100): the residual current in mA (R106) -/
  | halfCycleMidpoint (residual : Nat)
  /-- CHECK_REQUEST_TIMEOUT (R100): the channel of the check request -/
  | checkRequestTimeout (c : Chan)
  /-- ZERO_CROSS_EDGE (R110) -/
  | zeroCrossEdge (e : EdgeIn)
  /-- PERIOD_END (R111) -/
  | periodEnd (e : EdgeIn)
  /-- MAINS_LOST (R112): the residual current, for a halt check that is asked at this event (R204) -/
  | mainsLost (residual : Nat)
  /-- SLOT_CHOICE_INTERVAL_EXPIRY (R123) -/
  | slotChoiceIntervalExpiry
  /-- HOLD_EXPIRY (R162) -/
  | holdExpiry (c : Chan)
  /-- RECLOSE_TIMER_EXPIRY (R176) -/
  | recloseTimerExpiry (c : Chan)
  /-- TRIAL_TIMER_EXPIRY (R176) -/
  | trialTimerExpiry (c : Chan)
  /-- CLEAN_PERIOD_EXPIRY (R177) -/
  | cleanPeriodExpiry (c : Chan)
  /-- LEAKAGE_WATCH_EXPIRY (R181) -/
  | leakageWatchExpiry
  /-- CONFIRMATION_COUNT_END (R204) -/
  | confirmationCountEnd
  /-- CONFIRMATION_TIMER_EXPIRY (R204): the residual current, compared at once where no period runs -/
  | confirmationTimerExpiry (residual : Nat)
  /-- SKIPPED_FRAME_END (R26): the samples to the end of the frame -/
  | skippedFrameEnd (e : LineIn)
  /-- SUPPLY_FAILURE (R3) -/
  | supplyFailure
deriving DecidableEq, Repr

end Sys2Proof
end

