-- ==== Sys2Proof/Config.lean ====
section
/-! DEFINITION. The configuration image: the working store of the loader, held as its fields (file 11, R214; log 3). What the
image fixes stays fixed until the next power-on (R8). -/

namespace Sys2Proof

/-- The fields of the configuration image, in the order of R214. -/
structure Image where
  /-- station id, 1..239 -/
  id : Nat
  /-- feeder, 0..7 -/
  feeder : Nat
  /-- position, 0..4095 -/
  position : Nat
  /-- N_f, configured stations on the own feeder, 1..15 -/
  nf : Nat
  /-- own weight w_s, 1..15 -/
  weight : Nat
  /-- bit rate code, 1..3 -/
  bitRate : Nat
  /-- channel enables -/
  enables : Four Bool
  /-- mains frequency: true for 60 Hz -/
  mains60 : Bool
  /-- flow input enabled -/
  flowEnabled : Bool
  /-- feeder capacity C_f in 0.1 A, 10..4000 -/
  cf : Nat
  /-- margin m in sixty-fourths, 0..16 -/
  margin : Nat
  /-- report interval R_int in seconds, 1..10 -/
  rInt : Nat
  /-- listen interval in seconds, 5..60 -/
  listen : Nat
  /-- Hold_max in minutes, 1..240 -/
  holdMax : Nat
  /-- leakage threshold code, 0..2 -/
  leakCode : Nat
  /-- command source range, low end -/
  cmdLo : Nat
  /-- command source range, high end -/
  cmdHi : Nat
  /-- low ends lo_0..lo_3 of the group windows -/
  winLo : Four Nat
  /-- high ends hi_0..hi_3 of the group windows -/
  winHi : Four Nat
  /-- T_low_lim, deci-degrees -/
  tLow : Int
  /-- T_high_lim, deci-degrees -/
  tHigh : Int
  /-- T_max, overtemperature limit -/
  tMax : Int
  /-- T_alarm_low -/
  tAlarm : Int
  /-- T_amb_switch -/
  tAmbSwitch : Int
  /-- ColdBand, 0..500 -/
  coldBand : Nat
  /-- RampStep, 1..50 -/
  rampStep : Nat
  /-- SubMargin, 0..100 -/
  subMargin : Nat
  /-- proportional gain Kp -/
  kp : Nat
  /-- integral gain Ki -/
  ki : Nat
  /-- flow gain Kf -/
  kf : Nat
  /-- fallback duty D_fb_cold, 0..1024 -/
  dCold : Nat
  /-- fallback duty D_fb_mild, 0..1024 -/
  dMild : Nat
  /-- I_nom of each channel in 0.1 A, 1..800 -/
  iNom : Four Nat
  /-- configured setpoints -/
  setpoints : Four Int
  /-- trims of T0..T3, -50..+50 -/
  trims : Four Int
  /-- trim of AMB -/
  trimAmb : Int
deriving DecidableEq, Repr

/-- The working store before a load has written it (DESIGN CHOICE, log 3): no block reads it then (R8). -/
def Image.blank : Image where
  id := 0
  feeder := 0
  position := 0
  nf := 0
  weight := 0
  bitRate := 0
  enables := .const false
  mains60 := false
  flowEnabled := false
  cf := 0
  margin := 0
  rInt := 0
  listen := 0
  holdMax := 0
  leakCode := 0
  cmdLo := 0
  cmdHi := 0
  winLo := .const 0
  winHi := .const 0
  tLow := 0
  tHigh := 0
  tMax := 0
  tAlarm := 0
  tAmbSwitch := 0
  coldBand := 0
  rampStep := 0
  subMargin := 0
  kp := 0
  ki := 0
  kf := 0
  dCold := 0
  dMild := 0
  iNom := .const 0
  setpoints := .const 0
  trims := .const 0
  trimAmb := 0

end Sys2Proof
end

