-- ==== Sys2Proof/Machine/State.lean ====
section
/-! DEFINITION. The state of a TH4 station, block by block as file 00 section 3 lists them, as plain data, and the state right
after power-on. Timers are held as the time on the crystal time base (microseconds since power-on) at which they end, none while
stopped (log 1). Temperatures are deci-degrees, none for the invalid code. -/

namespace Sys2Proof.Machine

/-- The one reason a command stops the machine. -/
inductive Fault where
  /-- Raised by CONFIG_READ_COMPLETE for an operand that is not the 98 bytes of R4: no such event exists. Safe (log 26). -/
  | imageLength
deriving DecidableEq, Repr

/-- Refusals. -/
inductive Refusal where
  /-- Raised by exec's arm of a command that has no meaning yet; no arm raises it now. Safe. -/
  | notModelled (mnemonic : String)
deriving DecidableEq, Repr

/-! ## Code tables of R215 -/

/-- Station states (R1). -/
inductive StationState where
  | unconfigured | listening | running | isolated | halting | halted
deriving DecidableEq, Repr

/-- Load status (R8). -/
inductive LoadStatus where
  | inProgress | passed | failed
deriving DecidableEq, Repr

/-- Flow status (R80, R81). -/
inductive FlowStatus where
  | unknown | stagnant | flowing
deriving DecidableEq, Repr

/-- Channel states (R143). -/
inductive ChanState where
  | off | warmup | regulate | substitute | fallback | hold | tripped | locked
deriving DecidableEq, Repr

/-- The source of a control temperature (R141). -/
inductive TempSource where
  | none | own | adjacent | neighbourUp | neighbourDown
deriving DecidableEq, Repr

/-- Fault classes, lowest first (R170). -/
inductive FaultClass where
  | note | trip | lock | halt
deriving DecidableEq, Repr

/-- Fault kinds (R171). -/
inductive FaultKind where
  | earthLeakage | switchStuck | outputReadback | leakagePersists | operatorStop | leakTestFail | duplicateId | overcurrent
  | overtemp | heaterOpen | mainsLost | referenceFault | sensorOpen | sensorShort | lowTemp | holdOverride | ambientSensor
  | feederCrowded
deriving DecidableEq, Repr

/-- Status codes of answers (section 3.8). -/
inductive Status where
  | ok | clamped | deferred | busy | notPermitted | badArg | causePresent | empty | wrongState
deriving DecidableEq, Repr

/-- Halt causes (R199). -/
inductive HaltCause where
  | operatorStop | switchStuck | outputReadback | leakagePersists | contactorFail
deriving DecidableEq, Repr

/-! ## Pins -/

/-- What the input pins show: the level of FS (true = low = active), the residual current in mA, any test drive included (R106,
R107), and the readbacks. -/
structure Pins where
  fs : Bool
  residual : Nat
  hr : Four Bool
deriving DecidableEq, Repr

/-! ## Configuration loader and station state machine -/

structure Loader where
  status : LoadStatus
  clamped : Bool
  crc : Word16
  image : Image
  /-- end of the 250 ms within which the 98th byte must come (R4) -/
  timer : Option Nat
deriving DecidableEq, Repr

structure Station where
  state : StationState
  mute : Bool
  listenTimer : Option Nat
  isolationTimer : Option Nat
  /-- the event uptime is counted from (R3, R16) -/
  uptimeBase : Nat
deriving DecidableEq, Repr

/-! ## Line controller (R17) -/

/-- Receiver states (R22). -/
inductive RxState where
  | awaitIdle | ready | assemble | skip
deriving DecidableEq, Repr

/-- The transmitter: not driving, or driving a frame whose start bit of C0 began at a time (R29). -/
inductive TxState where
  | idle
  | driving (since : Nat)
deriving DecidableEq, Repr

/-- Transmit states (R17). -/
inductive TransmitState where
  | idle | arbitrating | sending
deriving DecidableEq, Repr

/-- The character the receiver is sampling (R20): how many of its samples have come, counted from the dominant sample that began it;
how many of samples 8, 9 and 10 of the present bit time were dominant; and its data bits decided so far, as a number. -/
structure CharIn where
  count : Nat
  votes : Nat
  value : Nat
deriving DecidableEq, Repr

/-- What the latest sample of the line brought: nothing, a start, a character with a recessive stop bit, or a framing error (R20,
R21). -/
inductive Heard where
  | nothing
  | start
  | char (c : Byte)
  | framing
deriving DecidableEq, Repr

/-- The receiver's sampling of the line (R20, R22): the idle count, the character being sampled, and what the latest sample
brought. -/
structure Sampler where
  idle : Nat
  char : Option CharIn
  heard : Heard
deriving DecidableEq, Repr

/-- A completed frame with its own-phase stamp, none for "none" (R26, R27). -/
structure RxFrame where
  c0 : Byte
  c1 : Byte
  c2 : Byte
  payload : List Byte
  stamp : Option Nat
deriving DecidableEq, Repr

/-- REPORT content: the fields made at the report instant (R39). -/
structure ReportContent where
  state : StationState
  flow : FlowStatus
  ownInput : Bool
  level : Nat
  slot : Nat
  q : Nat
  a : Nat
  entry : Option Int
  exit : Option Int
deriving DecidableEq, Repr

/-- An occurrence that is due a notice (R195); its level is the level of its kind. -/
structure Occ where
  kind : FaultKind
  chan : Option Chan
  cls : FaultClass
deriving DecidableEq, Repr

/-- FAULT_NOTICE content (R195). -/
structure NoticeContent where
  occ : Occ
  state : StationState
  q : Nat
  a : Nat
deriving DecidableEq, Repr

/-- An ANSWER frame: target, request number, status and result characters (R42). -/
structure AnswerContent where
  target : Byte
  reqNo : Byte
  status : Status
  result : List Byte
deriving DecidableEq, Repr

/-- A frame of the outgoing queue (section 2.7). -/
inductive OutFrame where
  | report (c : ReportContent)
  | notice (c : NoticeContent)
  | answer (c : AnswerContent)
deriving DecidableEq, Repr

structure Line where
  sampler : Sampler
  rx : RxState
  asm : List Byte
  /-- characters still to come before the receiver's next decision: the check of C0, the pre-filter, the frame end (R22 to R27) -/
  left : Nat
  stamp : Option Nat
  slot : Option RxFrame
  queue : List OutFrame
  hold : Option ReportContent
  tx : TxState
  txChars : List Byte
  discardOnLoss : Bool
  lineErr : Bool
  overrun : Bool
  carriedErr : Bool
  carriedOverrun : Bool
  errAgain : Bool
  overrunAgain : Bool
  reportTimer : Option Nat
  lastQ : Nat
deriving DecidableEq, Repr

/-! ## Command unit (R44) -/

/-- The two deferred commands (R48). -/
inductive Deferred where
  | measure | leakTest
deriving DecidableEq, Repr

inductive CmdState where
  | empty
  | inFlight (name : Deferred) (asker reqNo : Byte) (due : Bool)
  | held (a : AnswerContent)
deriving DecidableEq, Repr

/-! ## Peer table (R68) -/

/-- Age states (R76). -/
inductive AgeState where
  | fresh | stale | lost
deriving DecidableEq, Repr

structure Peer where
  id : Nat
  feeder : Nat
  position : Nat
  weight : Nat
  state : StationState
  flow : FlowStatus
  ownInput : Bool
  level : Nat
  slot : Nat
  q : Nat
  a : Nat
  entry : Option Int
  exit : Option Int
  delta : Option Nat
  age : AgeState
  /-- the time of the last frame, from which the time since last frame is counted -/
  last : Nat
deriving DecidableEq, Repr

structure PeerTable where
  entries : List Peer
  flowTimer : Option Nat
  debounced : FlowStatus
  flow : FlowStatus
  ownInput : Bool
deriving DecidableEq, Repr

/-! ## Measurement sequencer (R86) -/

/-- Sensor conditions (R93). -/
inductive SensorCond where
  | short | opened
deriving DecidableEq, Repr

/-- An accepted temperature and the time of its acceptance (R95). -/
structure Accepted where
  value : Int
  since : Nat
deriving DecidableEq, Repr

structure SensorState where
  accepted : Option Accepted
  reject : Nat
  cond : Option SensorCond
  clear : Nat
  valid : Nat
deriving DecidableEq, Repr

/-- The readings of a temperature round (R90). -/
inductive Reading where
  | refLo | refHi
  | wall (c : Chan)
  | ambient
deriving DecidableEq, Repr

/-- The kinds of current sample (R88, R100). -/
inductive CurrentKind where
  | check | offCheck | onSample
deriving DecidableEq, Repr

/-- A sample of the converter. -/
inductive Sample where
  | reading (r : Reading)
  | current (c : Chan) (k : CurrentKind)
deriving DecidableEq, Repr

/-- What becomes of the sample being converted: counted, dropped because its half-cycle or period ended (R101), or ended with the
conversion in progress at a RESTART (R86). -/
inductive Fate where
  | live | stale | abandoned
deriving DecidableEq, Repr

/-- The conversion in progress (R87): `kept` for the second conversion of the sample, `limit` the 10 ms end that the request of a
check sample had when it was made on the crystal time base (R100), none for every other sample. -/
structure Conversion where
  sample : Sample
  kept : Bool
  fate : Fate
  limit : Option Nat
  ends : Nat
deriving DecidableEq, Repr

/-- A pending halt check request: of a half-cycle, or made on the crystal time base with its 10 ms end (R100). -/
inductive CheckReq where
  | none
  | bound
  | crystal (ends : Nat)
deriving DecidableEq, Repr

structure ChanMeas where
  /-- the output is on in this half-cycle, as the burst timer said at its start (R100) -/
  told : Bool
  reqOn : Bool
  reqOff : Bool
  reqCheck : CheckReq
  onSum : Nat
  onCount : Nat
  /-- half-cycles of the period in which the output was on (R104) -/
  onHalves : Nat
  offAsked : Bool
  offTaken : Bool
  iMeas : Nat
  iEff : Nat
  overCount : Nat
  openCount : Nat
  stuckCount : Nat
  lastOff : Option Nat
deriving DecidableEq, Repr

/-- The MEASURE request (R99). -/
inductive MeasureReq where
  | none | waiting | serving
deriving DecidableEq, Repr

/-- The leak test (R107): `driving n` in test half-cycle n with the drive on. -/
inductive LeakTest where
  | idle
  | waiting
  | driving (n : Nat)
deriving DecidableEq, Repr

structure Meas where
  wall : Four SensorState
  amb : SensorState
  refFault : Bool
  roundTimer : Option Nat
  roundOn : Bool
  remaining : List Reading
  rawLo : Nat
  rawHi : Nat
  rawWall : Four Nat
  measure : MeasureReq
  conv : Option Conversion
  /-- the time of the latest conversion end, for a request that arrives together with it (R88) -/
  convEnd : Option Nat
  chans : Four ChanMeas
  leakCount : Nat
  leakPresent : Bool
  leakTest : LeakTest
  /-- a leak test ended in the half-cycle in progress: sampling of the comparator resumes from the next one (R108) -/
  leakPause : Bool
  midpoint : Option Nat
deriving DecidableEq, Repr

/-! ## Burst timer (R109) -/

/-- Period states (R109). The mains-lost flag is set exactly while the state is `lost`. -/
inductive PeriodState where
  | noPeriod | running | lost
deriving DecidableEq, Repr

/-- An armed readback check: the level to check and the time of the change (R118). -/
structure ReadbackCheck where
  level : Bool
  since : Nat
deriving DecidableEq, Repr

structure ChanBurst where
  h : Nat
  r : Nat
  out : Bool
  check : Option ReadbackCheck
deriving DecidableEq, Repr

structure Burst where
  period : PeriodState
  mainsTimer : Option Nat
  lastEdge : Option Nat
  idx : Option Nat
  len : Nat
  slot : Nat
  pendingSlot : Option Nat
  slotTimer : Option Nat
  chans : Four ChanBurst
  /-- the contactor drive: true for CLOSED (R124) -/
  contactor : Bool
deriving DecidableEq, Repr

/-! ## Budget unit (R126) -/

structure Budget where
  qs : Nat
  u : Nat
  s : Nat
  a : Nat
  k : Nat
deriving DecidableEq, Repr

/-! ## Channel control (R141) -/

structure Channel where
  state : ChanState
  tSet : Int
  ramp : Option Int
  acc : Nat
  d : Nat
  ds : Nat
  ctlTemp : Option Int
  ctlSrc : TempSource
  holdExpiry : Option Nat
  reclose : Option Nat
  trial : Option Nat
  clean : Option Nat
  trips : Nat
deriving DecidableEq, Repr

/-! ## Fault unit (R172) -/

/-- An active condition with its class as taken; its level is the level of its kind. -/
structure Cond where
  kind : FaultKind
  chan : Option Chan
  cls : FaultClass
deriving DecidableEq, Repr

/-- A fault record (R190). -/
structure FaultRecord where
  kind : FaultKind
  chan : Option Chan
  cls : FaultClass
  first : Nat
  latest : Nat
  count : Nat
  value : Option Int
  trial : Bool
deriving DecidableEq, Repr

/-- The placed notice's state (R172); its content is the FAULT_NOTICE of the outgoing queue. -/
inductive Placed where
  | queued | started
deriving DecidableEq, Repr

structure FaultUnit where
  conds : List Cond
  tripCause : Four (Option FaultKind)
  locks : Four (List FaultKind)
  watch : Option Nat
  queue : List FaultRecord
  awaiting : List Occ
  placed : Option Placed
  pendingNotice : Option NoticeContent
deriving DecidableEq, Repr

/-! ## Halt unit (R198) -/

inductive ProcState where
  | idle | confirming | checking | complete
deriving DecidableEq, Repr

inductive ConfirmMode where
  | none
  | halfCycles (n : Nat)
  | crystal (ends : Nat)
deriving DecidableEq, Repr

/-- A channel's check sample (R204): not asked, to be asked from the next half-cycle on, to be asked at the coming mid-point,
requested, counted. -/
inductive CheckState where
  | none | afterEdge | wanted | requested | counted
deriving DecidableEq, Repr

/-- One channel of the halt record (R201). -/
structure HaltChan where
  state : ChanState
  temp : Option Int
  d : Nat
  ds : Nat
deriving DecidableEq, Repr

structure HaltRecord where
  valid : Bool
  first : Option HaltCause
  second : Option HaltCause
  uptime : Nat
  qs : Nat
  a : Nat
  chans : Four HaltChan
deriving DecidableEq, Repr

structure Halt where
  proc : ProcState
  mode : ConfirmMode
  checks : Four CheckState
  compRead : Bool
  currentSeen : Bool
  leakSeen : Bool
  record : HaltRecord
deriving DecidableEq, Repr

/-! ## The whole state -/

structure State where
  powered : Bool
  now : Nat
  pins : Pins
  loader : Loader
  station : Station
  line : Line
  cmd : CmdState
  peers : PeerTable
  meas : Meas
  burst : Burst
  budget : Budget
  chans : Four Channel
  fault : FaultUnit
  halt : Halt
  /-- the commands that wait, first in first out; the model's own -/
  pending : List Instr
deriving DecidableEq, Repr

/-! ## Power-on values -/

def Sampler.powerOn : Sampler where
  idle := 0
  char := none
  heard := .nothing

def Line.powerOn : Line where
  sampler := .powerOn
  rx := .awaitIdle
  asm := []
  left := 0
  stamp := none
  slot := none
  queue := []
  hold := none
  tx := .idle
  txChars := []
  discardOnLoss := false
  lineErr := false
  overrun := false
  carriedErr := false
  carriedOverrun := false
  errAgain := false
  overrunAgain := false
  reportTimer := none
  lastQ := 0

def SensorState.powerOn : SensorState where
  accepted := none
  reject := 0
  cond := none
  clear := 0
  valid := 0

def ChanMeas.powerOn (iNom : Nat) : ChanMeas where
  told := false
  reqOn := false
  reqOff := false
  reqCheck := .none
  onSum := 0
  onCount := 0
  onHalves := 0
  offAsked := false
  offTaken := false
  iMeas := 0
  iEff := iNom
  overCount := 0
  openCount := 0
  stuckCount := 0
  lastOff := none

def Meas.powerOn (iNom : Four Nat) : Meas where
  wall := .const .powerOn
  amb := .powerOn
  refFault := false
  roundTimer := none
  roundOn := false
  remaining := []
  rawLo := 0
  rawHi := 0
  rawWall := .const 0
  measure := .none
  conv := none
  convEnd := none
  chans := iNom.map .powerOn
  leakCount := 0
  leakPresent := false
  leakTest := .idle
  leakPause := false
  midpoint := none

def Burst.powerOn : Burst where
  period := .noPeriod
  mainsTimer := none
  lastEdge := none
  idx := none
  len := 64
  slot := 0
  pendingSlot := none
  slotTimer := none
  chans := .const ⟨0, 0, false, none⟩
  contactor := false

def Channel.powerOn (setpoint : Int) : Channel where
  state := .off
  tSet := setpoint
  ramp := none
  acc := 0
  d := 0
  ds := 0
  ctlTemp := none
  ctlSrc := .none
  holdExpiry := none
  reclose := none
  trial := none
  clean := none
  trips := 0

def FaultUnit.powerOn : FaultUnit where
  conds := []
  tripCause := .const none
  locks := .const []
  watch := none
  queue := []
  awaiting := []
  placed := none
  pendingNotice := none

/-- A record never captured: not valid, every field zero (R64, R198). -/
def HaltRecord.zero : HaltRecord where
  valid := false
  first := none
  second := none
  uptime := 0
  qs := 0
  a := 0
  chans := .const ⟨.off, some 0, 0, 0⟩

def Halt.powerOn : Halt where
  proc := .idle
  mode := .none
  checks := .const .none
  compRead := false
  currentSeen := false
  leakSeen := false
  record := .zero

/-- The part right after power-on (R3): UNCONFIGURED, the configuration load in progress with 250 ms to run (R4). Fields that R3
and the blocks' chapters give no value for are named in log 3, 5 and 31. -/
def State.reset : State where
  powered := true
  now := 0
  pins := ⟨false, 0, .const false⟩
  loader := ⟨.inProgress, false, 0, .blank, some 250000⟩
  station := ⟨.unconfigured, false, none, none, 0⟩
  line := .powerOn
  cmd := .empty
  peers := ⟨[], none, .unknown, .unknown, false⟩
  meas := .powerOn (.const 0)
  burst := .powerOn
  budget := ⟨0, 0, 0, 0, 0⟩
  chans := .const (.powerOn 0)
  fault := .powerOn
  halt := .powerOn
  pending := []

end Sys2Proof.Machine
end

