-- ==== Sys2Proof/Machine/Ops.lean ====
section
/-! DEFINITION. The operations every block shares: arithmetic of file 00 section 6, time, the code tables of R215, and the named
reads and writes of the state. -/

namespace Sys2Proof.Machine

/-! ## Arithmetic (file 00, section 6) -/

/-- "Clamped to lo..hi". -/
def clampNat (lo hi x : Nat) : Nat := if x < lo then lo else if hi < x then hi else x

/-- "Clamped to lo..hi" for a signed value. -/
def clampInt (lo hi x : Int) : Int := if x < lo then lo else if hi < x then hi else x

/-- Division rounded up; every other division is floor division. -/
def ceilDiv (a b : Nat) : Nat := (a + (b - 1)) / b

/-- The distance of two positions (R75), or of two demands (R38). -/
def absDiff (a b : Nat) : Nat := (a - b) + (b - a)

/-! ## Time (file 00, section 6; log 1) -/

/-- Seconds in microseconds. -/
def seconds (n : Nat) : Nat := n * 1000000

/-- An event from outside, `dt` after the event before it. -/
def State.advance (s : State) (dt : Nat) : State := { s with now := s.now + dt }

/-- An expiry at the end `t` of its timer: the clock stands at `t`, or stays where a late delivery finds it. -/
def State.reach (s : State) (t : Nat) : State := { s with now := max s.now t }

/-- The nominal half-cycle time: 10.000 ms or 8.333 ms (R110). -/
def halfCycle (img : Image) : Nat := if img.mains60 then 8333 else 10000

/-- The mid-point of a half-cycle after its edge: 5.000 ms or 4.167 ms (R100). -/
def midTime (img : Image) : Nat := if img.mains60 then 4167 else 5000

/-- Three nominal half-cycle times: 30.0 ms or 25.0 ms (R112). -/
def mainsLostTime (img : Image) : Nat := if img.mains60 then 25000 else 30000

/-- Whole seconds since power-on or restart, held at 16 777 215 (R213). -/
def State.uptime (s : State) : Nat := min ((s.now - s.station.uptimeBase) / 1000000) 16777215

/-! ## Code tables (R215) -/

/-- Station state code; UNCONFIGURED sends no frame and has none (0 names nothing). -/
def StationState.code : StationState → Nat
  | .unconfigured => 0
  | .listening => 1
  | .running => 2
  | .isolated => 3
  | .halting => 4
  | .halted => 5

/-- The station state a code names. -/
def stationStateOf : Nat → Option StationState
  | 1 => some .listening
  | 2 => some .running
  | 3 => some .isolated
  | 4 => some .halting
  | 5 => some .halted
  | _ => none

/-- Flow status code. -/
def FlowStatus.code : FlowStatus → Nat
  | .unknown => 0
  | .stagnant => 1
  | .flowing => 2

/-- The flow status a code names. -/
def flowStatusOf : Nat → Option FlowStatus
  | 0 => some .unknown
  | 1 => some .stagnant
  | 2 => some .flowing
  | _ => none

/-- Channel state code. -/
def ChanState.code : ChanState → Nat
  | .off => 0
  | .warmup => 1
  | .regulate => 2
  | .substitute => 3
  | .fallback => 4
  | .hold => 5
  | .tripped => 6
  | .locked => 7

/-- Temperature source code. -/
def TempSource.code : TempSource → Nat
  | .none => 0
  | .own => 1
  | .adjacent => 2
  | .neighbourUp => 3
  | .neighbourDown => 4

/-- Age state code. -/
def AgeState.code : AgeState → Nat
  | .fresh => 0
  | .stale => 1
  | .lost => 2

/-- Class code; it is also the order of the classes (R170). -/
def FaultClass.code : FaultClass → Nat
  | .note => 0
  | .trip => 1
  | .lock => 2
  | .halt => 3

/-- Fault kind code. -/
def FaultKind.code : FaultKind → Nat
  | .earthLeakage => 1
  | .switchStuck => 2
  | .outputReadback => 3
  | .leakagePersists => 4
  | .operatorStop => 5
  | .leakTestFail => 6
  | .duplicateId => 7
  | .overcurrent => 8
  | .overtemp => 9
  | .heaterOpen => 10
  | .mainsLost => 11
  | .referenceFault => 12
  | .sensorOpen => 13
  | .sensorShort => 14
  | .lowTemp => 15
  | .holdOverride => 16
  | .ambientSensor => 17
  | .feederCrowded => 18

/-- The level of a kind (R171, R215). -/
def FaultKind.level : FaultKind → Nat
  | .earthLeakage => 7
  | .switchStuck => 7
  | .outputReadback => 7
  | .leakagePersists => 7
  | .operatorStop => 7
  | .leakTestFail => 6
  | .duplicateId => 6
  | .overcurrent => 5
  | .overtemp => 5
  | .heaterOpen => 4
  | .mainsLost => 3
  | .referenceFault => 3
  | .sensorOpen => 3
  | .sensorShort => 3
  | .lowTemp => 2
  | .holdOverride => 2
  | .ambientSensor => 2
  | .feederCrowded => 1

/-- The class of a kind (R171, R215). -/
def FaultKind.cls : FaultKind → FaultClass
  | .earthLeakage => .lock
  | .switchStuck => .halt
  | .outputReadback => .halt
  | .leakagePersists => .halt
  | .operatorStop => .halt
  | .leakTestFail => .lock
  | .duplicateId => .note
  | .overcurrent => .trip
  | .overtemp => .trip
  | .heaterOpen => .trip
  | .mainsLost => .note
  | .referenceFault => .note
  | .sensorOpen => .note
  | .sensorShort => .note
  | .lowTemp => .note
  | .holdOverride => .note
  | .ambientSensor => .note
  | .feederCrowded => .note

/-- Status code. -/
def Status.code : Status → Nat
  | .ok => 0
  | .clamped => 1
  | .deferred => 2
  | .busy => 3
  | .notPermitted => 4
  | .badArg => 5
  | .causePresent => 6
  | .empty => 7
  | .wrongState => 8

/-- Halt cause code (R199). -/
def HaltCause.code : HaltCause → Nat
  | .operatorStop => 1
  | .switchStuck => 2
  | .outputReadback => 3
  | .leakagePersists => 4
  | .contactorFail => 8

/-- Halt cause field: 0 for none. -/
def haltCauseCode : Option HaltCause → Nat
  | none => 0
  | some c => c.code

/-- The halt cause a HALT-class fault kind is (R199). -/
def FaultKind.haltCause : FaultKind → Option HaltCause
  | .operatorStop => some .operatorStop
  | .switchStuck => some .switchStuck
  | .outputReadback => some .outputReadback
  | .leakagePersists => some .leakagePersists
  | _ => none

/-! ## Reading the state -/

/-- The station has a passed configuration: the blocks other than the loader run (R8). -/
def State.active (s : State) : Bool := decide (s.station.state ≠ .unconfigured)

/-- RUNNING or ISOLATED: the states in which heaters may fire (R1). -/
def StationState.fires : StationState → Bool
  | .running => true
  | .isolated => true
  | _ => false

/-- A firing channel state (R143). -/
def ChanState.fires : ChanState → Bool
  | .warmup => true
  | .regulate => true
  | .substitute => true
  | .fallback => true
  | _ => false

/-- The channel is enabled in the configuration. -/
def State.enabled (s : State) (c : Chan) : Bool := s.loader.image.enables.get c

/-- The enabled channels in channel order. -/
def State.enabledList (s : State) : List Chan := Chan.list.filter s.enabled

/-- Mains is lost (R109, R112). -/
def State.mainsIsLost (s : State) : Bool := decide (s.burst.period = .lost)

/-- The half-cycle index while a period runs, none otherwise: the own-phase stamp (R26, R110). -/
def State.phase? (s : State) : Option Nat := if s.burst.period = .running then s.burst.idx else none

/-- The reported phase: 0 while no period is running (R39, R63). -/
def State.phase (s : State) : Nat := s.phase?.getD 0

/-- A sensor's temperature as given out: valid, or none for the invalid code (R95). -/
def SensorState.temp (x : SensorState) : Option Int :=
  if x.cond.isSome then none else x.accepted.map (·.value)

/-- A channel's own temperature; a disabled channel has none (R95). -/
def State.ownTemp (s : State) (c : Chan) : Option Int :=
  if s.enabled c then (s.meas.wall.get c).temp else none

/-- The ambient temperature (R97). -/
def State.ambTemp (s : State) : Option Int := s.meas.amb.temp

/-- A condition is active for its channel or the station (R172, R173). -/
def State.hasCond (s : State) (k : FaultKind) (c : Option Chan) : Bool :=
  s.fault.conds.any fun x => decide (x.kind = k ∧ x.chan = c)

/-- The earth-leakage lock: some lock list holds EARTH_LEAKAGE (R172). -/
def State.earthLock (s : State) : Bool :=
  s.fault.locks.toList.any fun l => l.contains .earthLeakage

/-- The highest active level: the greatest level among the conditions and the lock lists, 0 with none (R194). -/
def State.highestLevel (s : State) : Nat :=
  ((s.fault.conds.map (·.kind)) ++ s.fault.locks.toList.flatten).foldl (fun m k => max m k.level) 0

/-- The leakage threshold of a code, in mA (R106, R214). -/
def leakThreshold : Nat → Nat
  | 0 => 30
  | 1 => 100
  | _ => 300

/-- The leakage comparator's present output, true for ABOVE: the residual current is over the threshold (R106; log 37). -/
def State.comparator (s : State) : Bool := decide (leakThreshold s.loader.image.leakCode < s.pins.residual)

/-! ## Writing the state -/

/-- One channel record changed. -/
def State.modChan (s : State) (c : Chan) (f : Channel → Channel) : State :=
  { s with chans := s.chans.set c (f (s.chans.get c)) }

/-- One channel of the burst timer changed. -/
def State.modBurst (s : State) (c : Chan) (f : ChanBurst → ChanBurst) : State :=
  { s with burst := { s.burst with chans := s.burst.chans.set c (f (s.burst.chans.get c)) } }

/-- One channel of the sequencer changed. -/
def State.modMeas (s : State) (c : Chan) (f : ChanMeas → ChanMeas) : State :=
  { s with meas := { s.meas with chans := s.meas.chans.set c (f (s.meas.chans.get c)) } }

/-- One operation for each channel of a list, in its order. -/
def State.each (s : State) (cs : List Chan) (f : Chan → State → State) : State :=
  cs.foldl (fun s c => f c s) s

/-- A condition added to the condition list. -/
def State.addCond (s : State) (x : Cond) : State :=
  { s with fault := { s.fault with conds := s.fault.conds ++ [x] } }

/-- The conditions a test keeps. -/
def State.keepConds (s : State) (keep : Cond → Bool) : State :=
  { s with fault := { s.fault with conds := s.fault.conds.filter keep } }

/-- A condition has cleared: it is removed from the list (R173). -/
def State.clearCond (s : State) (k : FaultKind) (c : Option Chan) : State :=
  s.keepConds fun x => !decide (x.kind = k ∧ x.chan = c)

/-- The residual current shown at an event (log 5). -/
def State.showResidual (s : State) (residual : Nat) : State := { s with pins := { s.pins with residual := residual } }

/-- The output pins: HO0..HO3, CN and LT (file 06, section 6.7; R124). -/
def State.heaterPin (s : State) (c : Chan) : Bool := (s.burst.chans.get c).out

def State.contactorPin (s : State) : Bool := s.burst.contactor

def State.leakDrivePin (s : State) : Bool :=
  match s.meas.leakTest with
  | .driving _ => true
  | _ => false

end Sys2Proof.Machine
end

