-- ==== Sys2Proof/Machine/Operands.lean ====
section
/-! DEFINITION. The layouts of chapter 11: the CRC, packing and unpacking of fields, the characters of every frame and answer, and
the operands of requests. -/

namespace Sys2Proof.Machine

/-! ## CRC (R25) -/

/-- One of the eight shifts of the CRC. -/
def crcShift (r : Word16) : Word16 :=
  if r.msb then (r <<< 1) ^^^ 0x1021#16 else r <<< 1

/-- One character taken into the remainder. -/
def crcStep (r : Word16) (b : Byte) : Word16 :=
  let r := r ^^^ ((b.setWidth 16) <<< 8)
  crcShift (crcShift (crcShift (crcShift (crcShift (crcShift (crcShift (crcShift r)))))))

/-- The CRC of a sequence of characters. -/
def crc16 (bs : List Byte) : Word16 := bs.foldl crcStep 0xFFFF#16

/-- The two CRC characters, high character first. -/
def crcChars (r : Word16) : List Byte := [(r >>> 8).setWidth 8, r.setWidth 8]

/-! ## Fields (R210) -/

/-- A field: its width in bits and its value. -/
structure Field where
  width : Nat
  value : Nat
deriving DecidableEq, Repr

/-- The fields as one number, the first field most significant. -/
def packNat (fs : List Field) : Nat := fs.foldl (fun acc f => acc * 2 ^ f.width + f.value % 2 ^ f.width) 0

/-- The total width of the fields. -/
def widthOf (fs : List Field) : Nat := fs.foldl (fun acc f => acc + f.width) 0

/-- A number as `n` characters, the most significant first. -/
def natToChars (n v : Nat) : List Byte :=
  (List.range n).map fun i => BitVec.ofNat 8 (v / 2 ^ (8 * (n - 1 - i)))

/-- The characters of a sequence of fields packed without gaps. -/
def packChars (fs : List Field) : List Byte := natToChars (widthOf fs / 8) (packNat fs)

/-- Characters as one number, the first most significant. -/
def charsToNat (bs : List Byte) : Nat := bs.foldl (fun acc b => acc * 256 + b.toNat) 0

/-- The field of `width` bits that begins `off` bits after the most significant bit of the first character. -/
def fieldAt (bs : List Byte) (off width : Nat) : Nat :=
  charsToNat bs / 2 ^ (8 * bs.length - off - width) % 2 ^ width

/-- A flag as a field value. -/
def flag (b : Bool) : Nat := if b then 1 else 0

/-- A number below 2 ^ bits read in two's complement. -/
def twosComplement (bits v : Nat) : Int := if v < 2 ^ (bits - 1) then (v : Int) else (v : Int) - 2 ^ bits

/-- A temperature or measured value as its 12-bit field: -2048 (800h) for the invalid code. -/
def tempField : Option Int → Nat
  | none => 0x800
  | some t => (t % 4096).toNat

/-- A received temperature field: values outside -500..+2000 are the invalid code (R70). -/
def tempOf (v : Nat) : Option Int :=
  let t := twosComplement 12 v
  if -500 ≤ t ∧ t ≤ 2000 then some t else none

/-- A channel field: 0..3, 7 for absent. -/
def chanField : Option Chan → Nat
  | none => 7
  | some c => c.num

/-- The character at an index of a payload, 0 beyond its end. -/
def charAt (bs : List Byte) (i : Nat) : Nat := (bs.getD i 0).toNat

/-! ## Frames (R209, R211) -/

/-- Kind codes. -/
def kindNotice : Nat := 1
def kindAnswer : Nat := 2
def kindCommand : Nat := 3
def kindQuery : Nat := 4
def kindReport : Nat := 6

/-- The kind code of a C0. -/
def kindOf (c0 : Byte) : Nat := c0.toNat / 16

/-- The payload length of a C0. -/
def lenOf (c0 : Byte) : Nat := c0.toNat % 16

/-- A kind that R24 names. -/
def kindKnown (k : Nat) : Bool := k == 1 || k == 2 || k == 3 || k == 4 || k == 6

/-- A whole frame: C0, sender id, target, payload, CRC. -/
def frameChars (kind id : Nat) (target : Byte) (payload : List Byte) : List Byte :=
  let body := BitVec.ofNat 8 (16 * kind + payload.length) :: BitVec.ofNat 8 id :: target :: payload
  body ++ crcChars (crc16 body)

/-- A REPORT payload: the content and the three fields filled at the start of transmission (R39, R211). -/
def reportPayload (img : Image) (c : ReportContent) (phase : Nat) (lineErr overrun : Bool) : List Byte :=
  packChars [⟨12, img.position⟩, ⟨3, img.feeder⟩, ⟨4, img.weight⟩, ⟨3, c.state.code⟩, ⟨2, c.flow.code⟩, ⟨1, flag c.ownInput⟩,
    ⟨3, c.level⟩, ⟨3, c.slot⟩, ⟨6, phase⟩, ⟨12, c.q⟩, ⟨12, c.a⟩, ⟨12, tempField c.entry⟩, ⟨12, tempField c.exit⟩,
    ⟨1, flag lineErr⟩, ⟨1, flag overrun⟩, ⟨9, 0⟩]

/-- A FAULT_NOTICE payload (R211). -/
def noticePayload (c : NoticeContent) : List Byte :=
  packChars [⟨5, c.occ.kind.code⟩, ⟨3, chanField c.occ.chan⟩, ⟨2, c.occ.cls.code⟩, ⟨3, c.occ.kind.level⟩, ⟨3, c.state.code⟩,
    ⟨12, c.q⟩, ⟨12, c.a⟩]

/-- An ANSWER payload: request number, status, result (R42). -/
def answerPayload (a : AnswerContent) : List Byte :=
  a.reqNo :: BitVec.ofNat 8 a.status.code :: a.result

/-- The fields of a received REPORT. -/
structure ReportFields where
  position : Nat
  feeder : Nat
  weight : Nat
  state : StationState
  flow : FlowStatus
  ownInput : Bool
  level : Nat
  slot : Nat
  phase : Nat
  q : Nat
  a : Nat
  entry : Option Int
  exit : Option Int
deriving DecidableEq, Repr

/-- A REPORT payload read; none when its length is not 12 (log 10) or a state or flow code names nothing (R70 step 3). -/
def readReport (p : List Byte) : Option ReportFields :=
  if p.length = 12 then
    match stationStateOf (fieldAt p 19 3), flowStatusOf (fieldAt p 22 2) with
    | some st, some fl =>
      some { position := fieldAt p 0 12, feeder := fieldAt p 12 3, weight := fieldAt p 15 4, state := st, flow := fl,
             ownInput := decide (fieldAt p 24 1 = 1), level := fieldAt p 25 3, slot := fieldAt p 28 3, phase := fieldAt p 31 6,
             q := fieldAt p 37 12, a := fieldAt p 49 12, entry := tempOf (fieldAt p 61 12), exit := tempOf (fieldAt p 73 12) }
    | _, _ => none
  else none

/-- The fields of a received FAULT_NOTICE that the peer table reads (R73). -/
structure NoticeFields where
  level : Nat
  state : StationState
  q : Nat
  a : Nat
deriving DecidableEq, Repr

/-- A FAULT_NOTICE payload read; none when its length is not 5 (log 10) or the state code names nothing. -/
def readNotice (p : List Byte) : Option NoticeFields :=
  if p.length = 5 then
    (stationStateOf (fieldAt p 13 3)).map fun st =>
      { level := fieldAt p 10 3, state := st, q := fieldAt p 16 12, a := fieldAt p 28 12 }
  else none

/-! ## Bits on the line (R18, R19) -/

/-- The ten bit times of a character, true for dominant: start, eight data bits most significant first, stop. -/
def charBits (b : Byte) : List Bool :=
  true :: ((List.range 8).map fun i => !b.getLsbD (7 - i)) ++ [false]

/-- The bits of a frame, character after character. -/
def frameBits (cs : List Byte) : List Bool := cs.flatMap charBits

/-- The bit sent at a bit time of the frame, true for dominant; recessive beyond its end. -/
def sentBit (cs : List Byte) (i : Nat) : Bool := (frameBits cs).getD i false

/-- Bit times 1..8 of a character carry its data bits. -/
def isDataBit (i : Nat) : Bool := 1 ≤ i % 10 && i % 10 ≤ 8

/-! ## Requests (R41, R212) -/

/-- The requests. -/
inductive Request where
  | setPoint | hold | release | resetTrip | leakTest | measure | reslot | stopStation | restart | faultPop
  | readChannel | readStation | readHalt | readPeer | readFaultHead | readIdent
deriving DecidableEq, Repr

/-- A request's kind code. -/
def Request.kind : Request → Nat
  | .setPoint => kindCommand
  | .hold => kindCommand
  | .release => kindCommand
  | .resetTrip => kindCommand
  | .leakTest => kindCommand
  | .measure => kindCommand
  | .reslot => kindCommand
  | .stopStation => kindCommand
  | .restart => kindCommand
  | .faultPop => kindCommand
  | .readChannel => kindQuery
  | .readStation => kindQuery
  | .readHalt => kindQuery
  | .readPeer => kindQuery
  | .readFaultHead => kindQuery
  | .readIdent => kindQuery

/-- The request a code character names, of either kind. -/
def requestOfCode : Nat → Option Request
  | 0x11 => some .setPoint
  | 0x12 => some .hold
  | 0x13 => some .release
  | 0x14 => some .resetTrip
  | 0x15 => some .leakTest
  | 0x16 => some .measure
  | 0x17 => some .reslot
  | 0x18 => some .stopStation
  | 0x19 => some .restart
  | 0x1A => some .faultPop
  | 0x21 => some .readChannel
  | 0x22 => some .readStation
  | 0x23 => some .readHalt
  | 0x24 => some .readPeer
  | 0x25 => some .readFaultHead
  | 0x26 => some .readIdent
  | _ => none

/-- The payload length of a request. -/
def Request.length : Request → Nat
  | .setPoint => 5
  | .hold => 4
  | .release => 3
  | .resetTrip => 3
  | .leakTest => 2
  | .measure => 2
  | .reslot => 2
  | .stopStation => 2
  | .restart => 2
  | .faultPop => 2
  | .readChannel => 3
  | .readStation => 2
  | .readHalt => 3
  | .readPeer => 4
  | .readFaultHead => 2
  | .readIdent => 2

/-- The request of a COMMAND or QUERY frame: none when the code names no request of the frame's kind or the length is wrong
(R46 step 3). -/
def requestOf (f : RxFrame) : Option Request :=
  match requestOfCode (charAt f.payload 0) with
  | some r => if r.kind = kindOf f.c0 ∧ r.length = f.payload.length then some r else none
  | none => none

/-- A target names the station with this configuration (R41). -/
def targetMatches (img : Image) (t : Nat) : Bool :=
  if t = 255 then true
  else if 248 ≤ t ∧ t ≤ 251 then
    let n : Chan := if t = 248 then .c0 else if t = 249 then .c1 else if t = 250 then .c2 else .c3
    decide (img.winLo.get n ≤ img.id ∧ img.id ≤ img.winHi.get n)
  else if 240 ≤ t ∧ t ≤ 247 then decide (img.feeder = t - 240)
  else decide (1 ≤ t ∧ t ≤ 239 ∧ t = img.id)

/-- Channel n's bit of a channel mask. -/
def maskBit (m : Nat) (c : Chan) : Bool := decide (m / 2 ^ c.num % 2 = 1)

/-- A mask of channels, bits 3..0. -/
def maskOf (cs : List Chan) : Nat := cs.foldl (fun m c => m + 2 ^ c.num) 0

end Sys2Proof.Machine
end

