-- ==== Sys2Proof/Machine/Sampling.lean ====
section
/-! DEFINITION. The receiver's sampling of the line (chapter 2, sections 2.2 and 2.3): the bit rate, starts, bits by the majority of
three samples, characters, and the idle count. A command that the line brings carries a wave: the samples since the last one taken,
oldest first, true for dominant (log 27). -/

namespace Sys2Proof.Machine

/-! ## Bit rate (R19) -/

/-- The bit rate of a code, in bit/s (R19). -/
def bitRate : Nat → Nat
  | 1 => 9600
  | 2 => 19200
  | _ => 38400

/-- Whole bit times in a number of microseconds. -/
def bitsIn (code us : Nat) : Nat := us * bitRate code / 1000000

/-- The time of a number of bit times, in microseconds rounded up. -/
def bitTimes (code n : Nat) : Nat := ceilDiv (n * 1000000) (bitRate code)

/-- Samples in a bit time (R20). -/
def samplesPerBit : Nat := 16

/-- The idle count at which the line is idle: the samples of 12 bit times (R22). -/
def idleFull : Nat := 12 * samplesPerBit

/-! ## Characters (R19, R20) -/

/-- The first sample of a character: the dominant sample at which its start is detected. -/
def CharIn.first : CharIn := ⟨1, 0, 0⟩

/-- The place of the next sample in its bit time, 1..16. -/
def CharIn.place (x : CharIn) : Nat := x.count % samplesPerBit + 1

/-- One more sample: samples 8, 9 and 10 of a bit time are its votes. -/
def CharIn.add (x : CharIn) (dominant : Bool) : CharIn :=
  { x with count := x.count + 1,
           votes := (if x.place = 8 then 0 else x.votes) + (if 8 ≤ x.place ∧ x.place ≤ 10 ∧ dominant = true then 1 else 0) }

/-- The bit time in which the latest sample lies: 0 for the start bit, 1..8 for the data bits, 9 for the stop bit. -/
def CharIn.bit (x : CharIn) : Nat := (x.count - 1) / samplesPerBit

/-- The majority of samples 8, 9 and 10. -/
def CharIn.dominant (x : CharIn) : Bool := decide (2 ≤ x.votes)

/-- A data bit taken, dominant for 0, the most significant first. -/
def CharIn.push (x : CharIn) : CharIn := { x with value := 2 * x.value + if x.dominant then 0 else 1 }

/-- The receiver at sample 10 of a bit time: a recessive start bit is a false start, a data bit is taken, and the stop bit ends the
character (R20, R21; log 36). -/
def CharIn.decided (x : CharIn) : Option CharIn × Heard :=
  if x.bit = 0 then (if x.dominant then (some x, .nothing) else (none, .nothing))
  else if x.bit ≤ 8 then (some x.push, .nothing)
  else (none, if x.dominant then .framing else .char (BitVec.ofNat 8 x.value))

/-- A character after one more of its samples. -/
def CharIn.sample (x : CharIn) (dominant : Bool) : Option CharIn × Heard :=
  if x.place = 10 then (x.add dominant).decided else (some (x.add dominant), .nothing)

/-! ## The receiver -/

/-- The idle count after a sample (R22). -/
def idleAfter (idle : Nat) (dominant : Bool) : Nat := if dominant then 0 else min (idle + 1) idleFull

/-- A start: a dominant sample that follows at least three recessive ones (R20). -/
def Sampler.starts (x : Sampler) (dominant : Bool) : Bool := dominant && decide (3 ≤ x.idle)

/-- One sample of the line (R20, R22). -/
def Sampler.take (x : Sampler) (dominant : Bool) : Sampler :=
  match x.char with
  | some c => ⟨idleAfter x.idle dominant, (c.sample dominant).1, (c.sample dominant).2⟩
  | none =>
    if x.starts dominant then ⟨idleAfter x.idle dominant, some .first, .start⟩
    else ⟨idleAfter x.idle dominant, none, .nothing⟩

/-- A character taken by the receiver: stored in ASSEMBLE and counted in SKIP, up to the receiver's next decision (R22; log 27). -/
def Line.takeChar (l : Line) (c : Byte) : Line :=
  if l.left = 0 then l
  else
    match l.rx with
    | .assemble => { l with asm := l.asm ++ [c], left := l.left - 1 }
    | .skip => { l with left := l.left - 1 }
    | .awaitIdle => l
    | .ready => l

/-- The line controller after one sample of the line. -/
def Line.sample (l : Line) (dominant : Bool) : Line :=
  match (l.sampler.take dominant).heard with
  | .char c => ({ l with sampler := l.sampler.take dominant } : Line).takeChar c
  | .nothing => { l with sampler := l.sampler.take dominant }
  | .start => { l with sampler := l.sampler.take dominant }
  | .framing => { l with sampler := l.sampler.take dominant }

/-- The line controller after the samples of a wave. -/
def Line.hear (l : Line) (wave : List Bool) : Line := wave.foldl Line.sample l

/-- An event of the line: its time has come and its samples have been taken; a station without a passed configuration samples
nothing (R8, R17). -/
def State.hear (s : State) (dt : Nat) (wave : List Bool) : State :=
  { s with now := s.now + dt, line := if s.active then s.line.hear wave else s.line }

end Sys2Proof.Machine
end

