-- ==== Sys2Proof/Machine/Flags.lean ====
section
/-! DEFINITION. The two line flags (R40): set by their causes, sampled by a REPORT that starts, cleared when it completes. -/

namespace Sys2Proof.Machine

/-- The line-error flag set (R40); `errAgain` remembers that it was set after the sample of a REPORT in transmission. -/
def Line.setErr (l : Line) : Line := { l with lineErr := true, errAgain := true }

/-- The answer-overrun flag set (R36, R40). -/
def Line.setOverrun (l : Line) : Line := { l with overrun := true, overrunAgain := true }

/-- The flags as a REPORT carries them from the sample at its start (R39). -/
def Line.sampleFlags (l : Line) : Line :=
  { l with carriedErr := l.lineErr, carriedOverrun := l.overrun, errAgain := false, overrunAgain := false }

/-- A REPORT completed: each flag it carried as set is cleared, unless it was set again (R40). -/
def Line.clearCarried (l : Line) : Line :=
  { l with lineErr := l.lineErr && (!l.carriedErr || l.errAgain),
           overrun := l.overrun && (!l.carriedOverrun || l.overrunAgain) }

end Sys2Proof.Machine
end

