-- ==== Sys2Proof/Machine/Peers.lean ====
section
/-! DEFINITION. The peer table's own operations (chapter 4): order, search, admission and displacement, neighbours, adopted flow
status, loads of the slots. -/

namespace Sys2Proof.Machine

/-- Table order: ascending position, then ascending id (R69). -/
def Peer.before (a b : Peer) : Bool :=
  decide (a.position < b.position ∨ (a.position = b.position ∧ a.id < b.id))

/-- A new entry at its place in the order (R69). -/
def insertPeer (p : Peer) : List Peer → List Peer
  | [] => [p]
  | q :: qs => if p.before q then p :: q :: qs else q :: insertPeer p qs

/-- The entry of a station. -/
def findPeer (id : Nat) (l : List Peer) : Option Peer := l.find? fun p => decide (p.id = id)

/-- The entry of a station taken out; those behind it move up (R77). -/
def removePeer (id : Nat) (l : List Peer) : List Peer := l.filter fun p => !decide (p.id = id)

/-- The entry of a station changed in place. -/
def modPeer (id : Nat) (f : Peer → Peer) (l : List Peer) : List Peer := l.map fun p => if p.id = id then f p else p

/-- The entry that is better than every other, the first of several that are equal. -/
def pickPeer (better : Peer → Peer → Bool) : List Peer → Option Peer
  | [] => none
  | p :: ps =>
    match pickPeer better ps with
    | none => some p
    | some q => if better q p then some q else some p

/-- An entry on the own feeder. -/
def onFeeder (img : Image) (p : Peer) : Bool := decide (p.feeder = img.feeder)

/-- The table holds a same-feeder entry in FRESH or STALE (R11). -/
def liveSame (img : Image) (l : List Peer) : Bool := l.any fun p => onFeeder img p && !decide (p.age = .lost)

/-- Nearest upstream first: greater position, then lower id (R78, R81). -/
def nearerUp (a b : Peer) : Bool := decide (b.position < a.position ∨ (a.position = b.position ∧ a.id < b.id))

/-- Nearest downstream first: lesser position, then lower id. -/
def nearerDown (a b : Peer) : Bool := decide (a.position < b.position ∨ (a.position = b.position ∧ a.id < b.id))

/-- The upstream neighbour (R78). -/
def upNeighbour (s : State) : Option Peer :=
  pickPeer nearerUp (s.peers.entries.filter fun p => decide (p.age = .fresh ∧ p.position < s.loader.image.position))

/-- The downstream neighbour (R78). -/
def downNeighbour (s : State) : Option Peer :=
  pickPeer nearerDown (s.peers.entries.filter fun p => decide (p.age = .fresh ∧ s.loader.image.position < p.position))

/-- The upstream neighbour's exit temperature. -/
def upExit (s : State) : Option Int := (upNeighbour s).bind (·.exit)

/-- The downstream neighbour's entry temperature. -/
def downEntry (s : State) : Option Int := (downNeighbour s).bind (·.entry)

/-- An entry whose flow status may be adopted (R81). -/
def lendsFlow (p : Peer) : Bool := decide (p.age ≠ .lost ∧ p.ownInput = true ∧ p.flow ≠ .unknown)

/-- The adopted flow status (R81). -/
def adoptedFlow (s : State) : FlowStatus :=
  match pickPeer nearerUp (s.peers.entries.filter fun p => lendsFlow p && decide (p.position < s.loader.image.position)) with
  | some p => p.flow
  | none =>
    match pickPeer nearerDown (s.peers.entries.filter fun p => lendsFlow p && decide (s.loader.image.position < p.position)) with
    | some p => p.flow
    | none => .unknown

/-- The flow status and own-input flag set at a control step (R81). -/
def setFlow (s : State) : State :=
  if s.loader.image.flowEnabled then
    { s with peers := { s.peers with flow := s.peers.debounced, ownInput := true } }
  else { s with peers := { s.peers with flow := adoptedFlow s, ownInput := false } }

/-- The distance of a position from the own position (R75). -/
def distance (img : Image) (position : Nat) : Nat := absDiff position img.position

/-- R75 step 1: the LOST entry with the greatest time since its last frame, on equal time the higher id. -/
def lostVictim (img : Image) (newSame : Bool) (l : List Peer) : Option Peer :=
  pickPeer (fun a b => decide (a.last < b.last ∨ (a.last = b.last ∧ b.id < a.id)))
    (l.filter fun p => decide (p.age = .lost) && (newSame || !onFeeder img p))

/-- R75 step 2: the farthest entry of another feeder, on equal distance the higher id. -/
def farVictim (img : Image) (l : List Peer) : Option Peer :=
  pickPeer (fun a b => decide (distance img b.position < distance img a.position ∨
      (distance img a.position = distance img b.position ∧ b.id < a.id)))
    (l.filter fun p => !onFeeder img p)

/-- The entry a newcomer displaces from a full table, none when it is refused (R75). -/
def victim (img : Image) (feeder position : Nat) (l : List Peer) : Option Peer :=
  let newSame := decide (feeder = img.feeder)
  match lostVictim img newSame l with
  | some p => some p
  | none =>
    match farVictim img l with
    | some p =>
      if newSame || decide (distance img position < distance img p.position) then some p else none
    | none => none

/-- The entry a REPORT writes: every reported field, FRESH, time since last frame 0, no phase difference yet (R72, R74). -/
def newPeer (id now : Nat) (f : ReportFields) : Peer where
  id := id
  feeder := f.feeder
  position := f.position
  weight := f.weight
  state := f.state
  flow := f.flow
  ownInput := f.ownInput
  level := f.level
  slot := f.slot
  q := f.q
  a := f.a
  entry := f.entry
  exit := f.exit
  delta := none
  age := .fresh
  last := now

/-- The phase difference (φ_peer - φ_own) mod 64 (R82). -/
def phaseDiff (peer own : Nat) : Nat := (peer % 64 + 64 - own % 64) % 64

/-- R82: the difference recorded in an entry of the own feeder when the stamp is not "none". -/
def recordPhase (img : Image) (stamp : Option Nat) (phase : Nat) (p : Peer) : Peer :=
  match stamp with
  | some own => if onFeeder img p then { p with delta := some (phaseDiff phase own) } else p
  | none => p

/-- The table after a REPORT from another station's id, none when the newcomer is refused (R71, R72, R74, R75, R82). -/
def takeReport (img : Image) (now : Nat) (stamp : Option Nat) (id : Nat) (f : ReportFields) (l : List Peer) : Option (List Peer) :=
  let fresh := recordPhase img stamp f.phase (newPeer id now f)
  match findPeer id l with
  | some p =>
    if p.feeder = f.feeder ∧ p.position = f.position then
      some (modPeer id (fun p => recordPhase img stamp f.phase { newPeer id now f with delta := p.delta }) l)
    else some (insertPeer fresh (removePeer id l))
  | none =>
    if l.length < 16 then some (insertPeer fresh l)
    else (victim img f.feeder f.position l).map fun v => insertPeer fresh (removePeer v.id l)

/-- The table after a FAULT_NOTICE from a station that has an entry (R73). -/
def takeNotice (now id : Nat) (f : NoticeFields) (l : List Peer) : List Peer :=
  modPeer id (fun p => { p with state := f.state, level := f.level, q := f.q, a := f.a, age := .fresh, last := now }) l

/-- Every recorded phase difference cleared (R83). -/
def clearPhases (s : State) : State :=
  { s with peers := { s.peers with entries := s.peers.entries.map fun p => { p with delta := none } } }

/-- The load L_n of a slot (R122). -/
def slotLoad (s : State) (n : Nat) : Nat :=
  ((s.peers.entries.filter fun p => onFeeder s.loader.image p && decide (p.age ≠ .lost ∧ p.slot = n)).map (·.q)).sum

/-- The slot choice: the least load, own id mod 8 among equals, else the lowest number (R122). -/
def chooseSlot (s : State) : Nat :=
  let loads := (List.range 8).map (slotLoad s)
  let least := loads.foldl min (slotLoad s 0)
  let own := s.loader.image.id % 8
  if slotLoad s own = least then own
  else ((List.range 8).find? fun n => decide (slotLoad s n = least)).getD own

/-- A slot choice made: the chosen slot becomes the pending slot (R121, R122). -/
def makeSlotChoice (s : State) : State :=
  { s with burst := { s.burst with pendingSlot := some (chooseSlot s) } }

end Sys2Proof.Machine
end

