-- ==== Sys2Proof/Machine/Channels.lean ====
section
/-! DEFINITION. Channel control's state changes (chapter 8): substitution, the start choice, entries to the states that do not
fire. Each also stops the firing of the burst timer for the channel (R115). -/

namespace Sys2Proof.Machine

/-- Channel c - 1, none for channel 0 (R155). -/
def channelBefore : Chan → Option Chan
  | .c0 => none
  | .c1 => some .c0
  | .c2 => some .c1
  | .c3 => some .c2

/-- A temperature with its source, where there is one. -/
def withSource (t : Option Int) (src : TempSource) : Option (Int × TempSource) := t.map fun v => (v, src)

/-- The first of two. -/
def firstOf {α : Type} (a b : Option α) : Option α := if a.isSome then a else b

/-- The middle channels' rule: floor mean of both neighbours, else whichever is valid, else the upstream neighbour (R149). -/
def middleSubstitute (s : State) (a b : Option Int) : Option (Int × TempSource) :=
  match a, b with
  | some x, some y => some ((x + y) / 2, .adjacent)
  | some x, none => some (x, .adjacent)
  | none, some y => some (y, .adjacent)
  | none, none => withSource (upExit s) .neighbourUp

/-- The substitute temperature of a channel (R149). -/
def substitute (s : State) : Chan → Option (Int × TempSource)
  | .c0 => firstOf (withSource (upExit s) .neighbourUp) (withSource (s.ownTemp .c1) .adjacent)
  | .c1 => middleSubstitute s (s.ownTemp .c0) (s.ownTemp .c2)
  | .c2 => middleSubstitute s (s.ownTemp .c1) (s.ownTemp .c3)
  | .c3 => firstOf (withSource (downEntry s) .neighbourDown) (withSource (s.ownTemp .c2) .adjacent)

/-- A channel's temperature and source as READ_CHANNEL shows them (R62). -/
def shownTemp (s : State) (c : Chan) : Option Int × TempSource :=
  match s.ownTemp c with
  | some t => (some t, .own)
  | none =>
    if (s.chans.get c).state = .substitute then ((s.chans.get c).ctlTemp, (s.chans.get c).ctlSrc) else (none, .none)

/-- The clean-period timer at an entry to a firing state: 3600 s with a trip count of 1 or more (R177). -/
def cleanStart (now trips : Nat) : Option Nat := if 1 ≤ trips then some (now + seconds 3600) else none

/-- A channel record at the start choice (R146, R162). -/
def Channel.started (ch : Channel) (now : Nat) (st : ChanState) (ramp temp : Option Int) (src : TempSource) : Channel :=
  { ch with state := st, ramp := ramp, ctlTemp := temp, ctlSrc := src, holdExpiry := none, clean := cleanStart now ch.trips }

/-- The record the start choice gives (R146). -/
def startRecord (s : State) (c : Chan) (ch : Channel) : Channel :=
  if !s.station.state.fires then
    { ch with state := .off, d := 0, ds := 0, ramp := none, ctlTemp := none, ctlSrc := .none, holdExpiry := none, clean := none }
  else
    match s.ownTemp c with
    | some t =>
      if t < ch.tSet - s.loader.image.coldBand then ch.started s.now .warmup (some t) (some t) .own
      else ch.started s.now .regulate none (some t) .own
    | none =>
      match substitute s c with
      | some (t, src) => ch.started s.now .substitute none (some t) src
      | none => ch.started s.now .fallback none none .none

/-- The start choice of a channel (R146). -/
def startChoice (c : Chan) (s : State) : State := s.modChan c (startRecord s c)

/-- Firing count and remainder 0 (R115). -/
def stopFiring (c : Chan) (s : State) : State := s.modBurst c fun b => { b with h := 0, r := 0 }

/-- A firing channel returned to OFF when the station leaves RUNNING or ISOLATED; its control temperature and source stay as they
were (R147; log 23). -/
def chanToOff (c : Chan) (s : State) : State :=
  stopFiring c (s.modChan c fun ch => { ch with state := .off, ramp := none, d := 0, ds := 0, clean := none })

/-- The record on entry to HOLD, TRIPPED or LOCKED (R161, R167). -/
def Channel.stopped (ch : Channel) (st : ChanState) (hold : Option Nat) : Channel :=
  { ch with state := st, d := 0, ds := 0, ramp := none, ctlTemp := none, ctlSrc := .none, holdExpiry := hold, clean := none }

/-- An output driven to a level: a change arms a readback check with the new level (R118). -/
def ChanBurst.drive (b : ChanBurst) (now : Nat) (level : Bool) : ChanBurst :=
  if b.out = level then b else { b with out := level, check := some ⟨level, now⟩ }

/-- The first half-cycle of a period begins at this very moment (R111, R145). -/
def State.atPeriodStart (s : State) : Bool :=
  decide (s.burst.period = .running ∧ s.burst.idx = some 0 ∧ s.burst.lastEdge = some s.now)

/-- The sequencer told that an output is off after all in the half-cycle that has just begun (R100, R145; log 49). -/
def ChanMeas.untell (m : ChanMeas) : ChanMeas :=
  { m with told := false, onHalves := if m.told then m.onHalves - 1 else m.onHalves }

/-- A channel that stops at the moment at which a period began does not fire in its first half-cycle either; at any other moment its
output stays to the end of the half-cycle (R117, R118, R145; log 49). -/
def cutFirst (c : Chan) (s : State) : State :=
  if s.atPeriodStart && (s.burst.chans.get c).out then
    (s.modBurst c fun b => b.drive s.now false).modMeas c .untell
  else s

/-- Entry to HOLD, TRIPPED or LOCKED; a hold has its expiry. -/
def stopChan (c : Chan) (st : ChanState) (hold : Option Nat) (s : State) : State :=
  cutFirst c (stopFiring c (s.modChan c fun ch => ch.stopped st hold))

/-- A HOLD taken for a channel until `expiry` (R161). -/
def holdChan (expiry : Nat) (c : Chan) (s : State) : State :=
  match (s.chans.get c).state with
  | .hold => s.modChan c fun ch => { ch with holdExpiry := some expiry }
  | .tripped => s
  | .locked => s
  | _ => stopChan c .hold (some expiry) s

/-- The station leaves RUNNING or ISOLATED: its firing channels go to OFF (R147). -/
def firingToOff (s : State) : State :=
  s.each Chan.list fun c s => if (s.chans.get c).state.fires then chanToOff c s else s

/-- On entry to RUNNING each enabled channel in OFF makes its start choice (R10, R146). -/
def startOffChannels (s : State) : State :=
  s.each Chan.list fun c s =>
    if s.enabled c && decide ((s.chans.get c).state = .off) then startChoice c s else s

end Sys2Proof.Machine
end

