-- ==== Sys2Proof/Machine/Burst.lean ====
section
/-! DEFINITION. The burst timer's operations (chapter 6): windows, outputs and readback checks, alignment, firing counts, contactor. -/

namespace Sys2Proof.Machine

/-- Where a channel's window begins: b_c = (8 s + 16 c) mod 64 (R116). -/
def windowStart (slot : Nat) (c : Chan) : Nat := (8 * slot + 16 * c.num) % 64

/-- A position lies in the window of h positions from its start, passing from 63 to 0 (R116). -/
def inWindow (slot : Nat) (c : Chan) (h pos : Nat) : Bool :=
  decide ((pos + 64 - windowStart slot c) % 64 < h)

/-- The commanded output of a channel at a half-cycle start (R117). -/
def outputDue (s : State) (c : Chan) : Bool :=
  match s.burst.idx with
  | some i =>
    s.enabled c && inWindow s.burst.slot c (s.burst.chans.get c).h i && s.station.state.fires &&
      (s.chans.get c).state.fires && decide (s.burst.period = .running) &&
      !(decide (s.halt.proc = .confirming) || decide (s.halt.proc = .checking))
  | none => false

/-- All outputs off at once; pending on-sample requests are withdrawn (R100, R117, R118). -/
def outputsOff (s : State) : State :=
  { s with burst := { s.burst with chans := s.burst.chans.map fun b => b.drive s.now false },
           meas := { s.meas with chans := s.meas.chans.map fun m => { m with reqOn := false } } }

/-- Armed readback checks discarded (R118). -/
def discardChecks (s : State) : State :=
  { s with burst := { s.burst with chans := s.burst.chans.map fun b => { b with check := none } } }

/-- The sequencer is told whether an output is on in the half-cycle that begins; such half-cycles are counted (R100, R104). -/
def ChanMeas.tell (m : ChanMeas) (on : Bool) : ChanMeas :=
  { m with told := on, onHalves := if on then m.onHalves + 1 else m.onHalves }

/-- A channel's output at a half-cycle start (R117, R118). -/
def settledOutput (s : State) (c : Chan) : ChanBurst := (s.burst.chans.get c).drive s.now (outputDue s c)

/-- The outputs of a half-cycle settled, the sequencer told of them, its mid-point set, and the comparator sampled again (R100, R108,
R110, R117; log 46). A mid-point of the half-cycle before that has not come yet does not come any more (log 48). -/
def settleOutputs (s : State) : State :=
  { s with burst := { s.burst with chans := .of (settledOutput s) },
           meas := { s.meas with chans := .of (fun c => (s.meas.chans.get c).tell (outputDue s c)),
                                 midpoint := some (s.now + midTime s.loader.image), leakPause := false } }

/-- A check falls due at the first half-cycle start at least half a nominal half-cycle time after the change (R118). -/
def checkDue (img : Image) (now : Nat) (k : ReadbackCheck) : Bool := decide (halfCycle img ≤ 2 * (now - k.since))

/-- The firing count and new remainder of a firing channel (R114). -/
def firing (r ds : Nat) : Nat × Nat := ((r + ds) / 16, (r + ds) - 16 * ((r + ds) / 16))

/-- The largest phase difference in 2..31 of the own feeder's entries, none without one (R119). -/
def deltaMax (img : Image) (l : List Peer) : Option Nat :=
  l.foldl (fun m p =>
    match p.delta with
    | some d => if onFeeder img p && decide (2 ≤ d ∧ d ≤ 31) then some (max (m.getD 0) d) else m
    | none => m) none

/-- The length of the period that begins (R119). -/
def alignedLength (img : Image) (l : List Peer) : Nat :=
  match deltaMax img l with
  | some d => 64 - min d 4
  | none => 64

/-- The alignment step: the length of the next period, and every recorded difference cleared (R83, R111, R119). -/
def alignment (s : State) : State :=
  clearPhases { s with burst := { s.burst with len := alignedLength s.loader.image s.peers.entries } }

/-- A pending slot becomes the slot in force (R111, R113, R121). -/
def applySlot (s : State) : State :=
  match s.burst.pendingSlot with
  | some n => { s with burst := { s.burst with slot := n, pendingSlot := none } }
  | none => s

/-- A new period at index 0 with length 64 and nothing to fire (R110, R113). -/
def freshPeriod (s : State) : State :=
  { s with burst := { s.burst with period := .running, idx := some 0, len := 64, chans := s.burst.chans.map fun b => { b with h := 0 } } }

/-- The contactor drive (R124). -/
def setContactor (closed : Bool) (s : State) : State := { s with burst := { s.burst with contactor := closed } }

/-- Every channel's firing count and remainder 0: the station leaves RUNNING or ISOLATED (R115). -/
def stopAllFiring (s : State) : State :=
  { s with burst := { s.burst with chans := s.burst.chans.map fun b => { b with h := 0, r := 0 } } }

end Sys2Proof.Machine
end

