-- ==== Sys2Proof/Machine/LineQueue.lean ====
section
/-! DEFINITION. The outgoing queue and the report timing (chapter 2, sections 2.7 and 2.8): how REPORT and FAULT_NOTICE content and
ANSWER frames are offered, and how REPORT content is made. -/

namespace Sys2Proof.Machine

def OutFrame.isReport : OutFrame → Bool
  | .report _ => true
  | _ => false

def OutFrame.isNotice : OutFrame → Bool
  | .notice _ => true
  | _ => false

/-- The head frame is started (R33). -/
def Line.busy (l : Line) : Bool := decide (l.tx ≠ .idle)

/-- The frame in transmission, if one is. -/
def Line.started (l : Line) : Option OutFrame := if l.busy then l.queue.head? else none

/-- A REPORT is queued and started. -/
def Line.reportStarted (l : Line) : Bool := (l.started.map OutFrame.isReport).getD false

/-- A FAULT_NOTICE is queued and started. -/
def Line.noticeStarted (l : Line) : Bool := (l.started.map OutFrame.isNotice).getD false

/-- The queued REPORT's content replaced in place (R34). -/
def replaceReport (c : ReportContent) (q : List OutFrame) : List OutFrame :=
  q.map fun f => if f.isReport then .report c else f

/-- The queued FAULT_NOTICE's content replaced in place (R35). -/
def replaceNotice (c : NoticeContent) (q : List OutFrame) : List OutFrame :=
  q.map fun f => if f.isNotice then .notice c else f

/-- The content of the queued FAULT_NOTICE. -/
def queuedNotice (q : List OutFrame) : Option NoticeContent :=
  match q with
  | [] => none
  | .notice c :: _ => some c
  | _ :: rest => queuedNotice rest

/-- REPORT content offered to the line controller: the first case of R34 that applies. The last reported Q_s follows R38. -/
def Line.offerReport (l : Line) (c : ReportContent) : Line :=
  if l.queue.any OutFrame.isReport then
    if l.reportStarted then { l with hold := some c, lastQ := c.q }
    else { l with queue := replaceReport c l.queue, lastQ := c.q }
  else if l.queue.length < 4 then { l with queue := l.queue ++ [.report c], lastQ := c.q }
  else l

/-- Demand and allowance as a REPORT carries them: 0 outside RUNNING and ISOLATED and while mains is lost (R39, R139). -/
def State.reported (s : State) (v : Nat) : Nat :=
  if s.station.state.fires && !s.mainsIsLost then min v 4095 else 0

/-- The accepted temperature of the first of some channels, none without one. -/
def State.tempOfFirst (s : State) (cs : List Chan) : Option Int := cs.head?.bind s.ownTemp

/-- REPORT content from the values the blocks hold at the event (R39). -/
def State.reportContent (s : State) : ReportContent where
  state := s.station.state
  flow := s.peers.flow
  ownInput := s.peers.ownInput
  level := s.highestLevel
  slot := s.burst.slot
  q := s.reported s.budget.qs
  a := s.reported s.budget.a
  entry := s.tempOfFirst s.enabledList
  exit := s.tempOfFirst s.enabledList.reverse

/-- A report instant: the report timer restarts, and content is made and offered, or discarded while mute (R14, R38; log 11). -/
def reportInstant (s : State) : State :=
  let c := s.reportContent
  let l := { s.line with reportTimer := some (s.now + seconds s.loader.image.rInt) }
  { s with line := if s.station.mute then { l with lastQ := c.q } else l.offerReport c }

/-- An ANSWER appended to the queue (R36). -/
def Line.append (l : Line) (f : OutFrame) : Line := { l with queue := l.queue ++ [f] }

/-- The queue has room (R36). -/
def Line.hasRoom (l : Line) : Bool := decide (l.queue.length < 4)

/-- A REPORT in the queue that is not started is removed to make room (R35). -/
def dropReport (q : List OutFrame) : List OutFrame := q.filter fun f => !f.isReport

/-- FAULT_NOTICE content in the queue: it is the placed notice, QUEUED (R196). -/
def placeNotice (q : List OutFrame) (s : State) : State :=
  { s with line := { s.line with queue := q }, fault := { s.fault with placed := some .queued, pendingNotice := none } }

/-- FAULT_NOTICE content that stays pending in the fault unit (R35). -/
def keepPending (c : NoticeContent) (s : State) : State := { s with fault := { s.fault with pendingNotice := some c } }

/-- FAULT_NOTICE content offered: the first case of R35 that applies, or discarded while mute (R14). -/
def offerNotice (c : NoticeContent) (s : State) : State :=
  if s.station.mute then { s with fault := { s.fault with pendingNotice := none } }
  else if s.line.queue.any OutFrame.isNotice then
    if s.line.noticeStarted then keepPending c s else placeNotice (replaceNotice c s.line.queue) s
  else if s.line.hasRoom then placeNotice (s.line.queue ++ [.notice c]) s
  else if s.line.queue.any OutFrame.isReport && !s.line.reportStarted then
    placeNotice (dropReport s.line.queue ++ [.notice c]) s
  else keepPending c s

/-- FAULT_NOTICE content made from an occurrence at the event it is offered (R195). -/
def State.notice (s : State) (o : Occ) : NoticeContent := ⟨o, s.station.state, s.budget.qs, s.budget.a⟩

/-- An entry of the awaiting list is of an occurrence's kind and channel. -/
def Occ.sameAs (x o : Occ) : Bool := decide (x.kind = o.kind ∧ x.chan = o.chan)

/-- The awaiting list at an occurrence: the entry of its kind and channel takes its class where that is higher, and keeps its place;
the level is the kind's (R196). -/
def raiseAwaiting (o : Occ) (l : List Occ) : List Occ :=
  l.map fun x => if x.sameAs o && decide (x.cls.code < o.cls.code) then { x with cls := o.cls } else x

/-- The fault unit's awaiting list takes an occurrence: one entry for each kind and channel (R196). -/
def addAwaiting (o : Occ) (l : List Occ) : List Occ :=
  if l.any fun x => x.sameAs o then raiseAwaiting o l else l ++ [o]

/-- The awaiting occurrence of highest level, of several the one that has waited longest (R197). -/
def nextAwaiting : List Occ → Option Occ
  | [] => none
  | o :: os =>
    match nextAwaiting os with
    | none => some o
    | some x => if o.kind.level < x.kind.level then some x else some o

/-- An occurrence taken out of the awaiting list. -/
def dropAwaiting (o : Occ) (l : List Occ) : List Occ := l.filter fun x => !x.sameAs o

/-- The placed notice has completed or been discarded: the pending notice or the next awaiting one is offered (R32, R197). -/
def nextNotice (s : State) : State :=
  let s := { s with fault := { s.fault with placed := none } }
  match s.fault.pendingNotice with
  | some c => offerNotice c s
  | none =>
    match nextAwaiting s.fault.awaiting with
    | some o => offerNotice (s.notice o) { s with fault := { s.fault with awaiting := dropAwaiting o s.fault.awaiting } }
    | none => s

/-- The pending notice offered again (R35, R37, R197). -/
def offerPending (s : State) : State :=
  match s.fault.pendingNotice with
  | some c => offerNotice c s
  | none => s

/-- The report hold's content offered when a place is free, else dropped (R34, R37). -/
def offerHold (s : State) : State :=
  match s.line.hold with
  | some c => { s with line := ({ s.line with hold := none } : Line).offerReport c }
  | none => s

/-- A held completion answer placed when a place is free; the unit becomes EMPTY (R37, R45, R49). -/
def offerCompletion (s : State) : State :=
  match s.cmd with
  | .held a =>
    if s.line.hasRoom then { s with line := s.line.append (.answer a), cmd := .empty } else s
  | _ => s

/-- A place in the queue is freed: pending notice, report hold, held completion, in that order (R37). -/
def placeFreed (s : State) : State := offerCompletion (offerHold (offerPending s))

/-- The work of the deferred command `name` ends with a status and result: the completion answer is discarded, appended or held
(R49). -/
def completeDeferred (name : Deferred) (st : Status) (result : List Byte) (s : State) : State :=
  match s.cmd with
  | .inFlight n asker reqNo due =>
    if n ≠ name then s
    else if !due || s.station.mute then { s with cmd := .empty }
    else if s.line.hasRoom then
      { s with line := s.line.append (.answer ⟨asker, reqNo, st, result⟩), cmd := .empty }
    else { s with cmd := .held ⟨asker, reqNo, st, result⟩ }
  | _ => s

end Sys2Proof.Machine
end

