-- ==== Sys2Proof/Machine/HaltUnit.lean ====
section
/-! DEFINITION. The halt procedure (chapter 10): what the halt unit does with a cause, the capture of the halt record, the entry to
HALTING, and the check decision. -/

namespace Sys2Proof.Machine

/-- What the halt unit makes of a cause handed to it (R200). -/
inductive CauseTaken where
  | first | second | notTaken
deriving DecidableEq, Repr

/-- LISTENING, RUNNING or ISOLATED. -/
def StationState.serves : StationState → Bool
  | .listening => true
  | .running => true
  | .isolated => true
  | _ => false

/-- R200: settled by the procedure state, which follows the station state, and the second cause field. -/
def causeTaken (st : StationState) (h : Halt) : CauseTaken :=
  match h.proc with
  | .idle => if st.serves then .first else .notTaken
  | .confirming => if h.record.second.isNone then .second else .notTaken
  | .checking => if h.record.second.isNone then .second else .notTaken
  | .complete => .notTaken

/-- One channel as the halt record captures it (R201). -/
def captureChan (s : State) (c : Chan) : HaltChan :=
  if s.enabled c then
    ⟨(s.chans.get c).state, (shownTemp s c).1, (s.chans.get c).d, (s.chans.get c).ds⟩
  else ⟨.off, none, 0, 0⟩

/-- The halt record captured at the event of a first cause (R201). -/
def captureRecord (s : State) (cause : HaltCause) : HaltRecord where
  valid := true
  first := some cause
  second := none
  uptime := s.uptime
  qs := s.budget.qs
  a := s.budget.a
  chans := .of (captureChan s)

/-- The mode of the confirmation time (R204). -/
def confirmMode (s : State) : ConfirmMode :=
  if s.burst.period = .running then .halfCycles 0 else .crystal (s.now + 100000)

/-- Steps 1 to 3 of R202: outputs off at once, the record captured, the contactor opened; the confirmation time begins (R204). -/
def beginHalt (cause : HaltCause) (s : State) : State :=
  let s := outputsOff s
  let s := { s with halt := { s.halt with record := captureRecord s cause, mode := confirmMode s, checks := .const .none,
                                          compRead := false, currentSeen := false, leakSeen := false } }
  setContactor false s

/-- The leak test ends: drive off, IDLE, leakage count 0, and the comparator is not sampled again in the half-cycle of this event
(R108; log 46). -/
def endLeakTest (s : State) : State :=
  { s with meas := { s.meas with leakTest := .idle, leakCount := 0, leakPause := true } }

/-- A leak test in progress ends with completion WRONG_STATE and no result: mains loss or halt procedure (R57, R108). -/
def abortLeakTest (s : State) : State :=
  if s.meas.leakTest = .idle then s else completeDeferred .leakTest .wrongState [] (endLeakTest s)

/-- Step 5 of R202: the entry to HALTING with the effects of R203. A leak test in progress ends before the change of state makes its
REPORT, so its completion goes ahead of it (R57, R108; log 43). -/
def enterHalting (s : State) : State :=
  let s := stopAllFiring (firingToOff s)
  let s := { s with burst := { s.burst with slotTimer := none },
                    station := { s.station with state := .halting, listenTimer := none, isolationTimer := none } }
  let s := abortLeakTest s
  reportInstant { s with halt := { s.halt with proc := .confirming } }

/-- A second cause is written into the record (R205). -/
def writeSecond (cause : HaltCause) (s : State) : State :=
  { s with halt := { s.halt with record := { s.halt.record with second := some cause } } }

/-- Every enabled channel's check sample has been counted (R204). -/
def checksDone (s : State) : Bool :=
  Chan.list.all fun c => !s.enabled c || decide (s.halt.checks.get c = .counted)

/-- The check decision (R204): CONTACTOR_FAIL where current or leakage was seen and the second cause is none; then HALTED. -/
def checkDecision (s : State) : State :=
  let s := if (s.halt.currentSeen || s.halt.leakSeen) && s.halt.record.second.isNone then writeSecond .contactorFail s else s
  reportInstant { s with halt := { s.halt with proc := .complete, mode := .none }, station := { s.station with state := .halted } }

end Sys2Proof.Machine
end

