-- ==== Sys2Proof/Machine/FaultUnit.lean ====
section
/-! DEFINITION. The fault unit (chapter 9): what an occurrence of each class does, trips and locks and their ends, the fault queue,
and the settling of notices. -/

namespace Sys2Proof.Machine

/-- A detection handed to the fault unit: kind, channel where it names one, measured value where it carries one. -/
structure Detection where
  kind : FaultKind
  chan : Option Chan
  value : Option Int
deriving DecidableEq, Repr

/-! ## The fault queue (R190 to R193) -/

/-- A record is of a kind and channel. -/
def FaultRecord.isOf (r : FaultRecord) (k : FaultKind) (c : Option Chan) : Bool := decide (r.kind = k ∧ r.chan = c)

/-- An occurrence written into an existing record (R191). -/
def FaultRecord.again (r : FaultRecord) (now : Nat) (cls : FaultClass) (value : Option Int) (trial : Bool) : FaultRecord :=
  { r with latest := now, count := min (r.count + 1) 255, value := if value.isSome then value else r.value,
           cls := if r.cls.code < cls.code then cls else r.cls, trial := r.trial || trial }

/-- Lower class, or the same class and lower level (R192). -/
def ranksBelow (ca : FaultClass) (la : Nat) (cb : FaultClass) (lb : Nat) : Bool :=
  decide (ca.code < cb.code ∨ (ca.code = cb.code ∧ la < lb))

/-- The candidate for displacement: lowest class, lowest level, oldest (R192). -/
def displaceCandidate : List FaultRecord → Option FaultRecord
  | [] => none
  | r :: rs =>
    match displaceCandidate rs with
    | none => some r
    | some x => if ranksBelow x.cls x.kind.level r.cls r.kind.level then some x else some r

/-- The fault queue after an occurrence (R191, R192). -/
def queueAfter (q : List FaultRecord) (now : Nat) (d : Detection) (cls : FaultClass) (trial : Bool) : List FaultRecord :=
  let r : FaultRecord := ⟨d.kind, d.chan, cls, now, now, 1, d.value, trial⟩
  if q.any fun x => x.isOf d.kind d.chan then
    q.map fun x => if x.isOf d.kind d.chan then x.again now cls d.value trial else x
  else if q.length < 8 then q ++ [r]
  else
    match displaceCandidate q with
    | some x =>
      if ranksBelow x.cls x.kind.level cls d.kind.level then (q.filter fun y => !y.isOf x.kind x.chan) ++ [r] else q
    | none => q

/-- The fault unit writes an occurrence into the queue (R173 step 3). -/
def writeQueue (d : Detection) (cls : FaultClass) (trial : Bool) (s : State) : State :=
  { s with fault := { s.fault with queue := queueAfter s.fault.queue s.uptime d cls trial } }

/-! ## Notices (R195, R196) -/

/-- A notice's class raised to an occurrence's, if higher. -/
def NoticeContent.raise (n : NoticeContent) (cls : FaultClass) : NoticeContent :=
  if n.occ.cls.code < cls.code then { n with occ := { n.occ with cls := cls } } else n

/-- A notice names a kind and channel. -/
def NoticeContent.isOf (n : NoticeContent) (o : Occ) : Bool := decide (n.occ.kind = o.kind ∧ n.occ.chan = o.chan)

/-- The content of the placed notice while it is QUEUED. -/
def State.placedContent (s : State) : Option NoticeContent :=
  if s.fault.placed = some .queued then queuedNotice s.line.queue else none

/-- An occurrence goes to the awaiting list. -/
def awaitNotice (o : Occ) (s : State) : State :=
  { s with fault := { s.fault with awaiting := addAwaiting o s.fault.awaiting } }

/-- The entry of an occurrence's kind and channel raised in the awaiting list (R196). -/
def raiseEntry (o : Occ) (s : State) : State :=
  { s with fault := { s.fault with awaiting := raiseAwaiting o s.fault.awaiting } }

/-- The table of R196: the first case that applies. -/
def noticeRow (o : Occ) (s : State) : State :=
  match s.fault.pendingNotice, s.placedContent with
  | some p, some q =>
    if p.isOf o then { s with fault := { s.fault with pendingNotice := some (p.raise o.cls) } }
    else if q.isOf o then { s with line := { s.line with queue := replaceNotice (q.raise o.cls) s.line.queue } }
    else if p.occ.kind.level < o.kind.level then awaitNotice p.occ (keepPending (s.notice o) s)
    else awaitNotice o s
  | some p, none =>
    if p.isOf o then { s with fault := { s.fault with pendingNotice := some (p.raise o.cls) } }
    else if p.occ.kind.level < o.kind.level then awaitNotice p.occ (keepPending (s.notice o) s)
    else awaitNotice o s
  | none, some q =>
    if q.isOf o then { s with line := { s.line with queue := replaceNotice (q.raise o.cls) s.line.queue } }
    else if q.occ.kind.level < o.kind.level then awaitNotice q.occ (offerNotice (s.notice o) s)
    else awaitNotice o s
  | none, none => offerNotice (s.notice o) s

/-- The notice of a due occurrence settled: an entry of its kind and channel that waits is raised, and the table of R196 applies (log
44); while mute the offer is discarded and counts as sent (R14, R197). -/
def settleNotice (o : Occ) (s : State) : State := if s.station.mute then s else noticeRow o (raiseEntry o s)

/-- Steps 3 and 4 of R173: the queue, and for an occurrence that is due one the notice. -/
def recordOccurrence (d : Detection) (cls : FaultClass) (trial due : Bool) (s : State) : State :=
  let s := writeQueue d cls trial s
  if due then settleNotice ⟨d.kind, d.chan, cls⟩ s else s

/-! ## Trips and locks -/

/-- OVERCURRENT or HEATER_OPEN: the kinds whose condition lasts as long as the trip (R174). -/
def FaultKind.endsWithTrip : FaultKind → Bool
  | .overcurrent => true
  | .heaterOpen => true
  | _ => false

/-- The OVERCURRENT and HEATER_OPEN conditions of a channel end (R171, R174; log 17). -/
def endTripConds (c : Chan) (s : State) : State :=
  s.keepConds fun x => !(x.kind.endsWithTrip && decide (x.chan = some c))

/-- A kind joins a lock list, which holds each kind once (R178). -/
def joinLock (k : FaultKind) (l : List FaultKind) : List FaultKind := if l.contains k then l else l ++ [k]

/-- The lock list with a trip cause joined to it (R178). -/
def joinCause (cause : Option FaultKind) (l : List FaultKind) : List FaultKind :=
  match cause with
  | some k => joinLock k l
  | none => l

/-- LOCKED asked for a channel by a kind (R167, R174, R178, R180, R182). -/
def lockChan (k : FaultKind) (c : Chan) (s : State) : State :=
  let cause := s.fault.tripCause.get c
  let s := { s with fault := { s.fault with locks := s.fault.locks.set c (joinLock k (joinCause cause (s.fault.locks.get c))),
                                            tripCause := s.fault.tripCause.set c none } }
  if (s.chans.get c).state = .locked then s
  else (stopChan c .locked none (endTripConds c s)).modChan c fun ch => { ch with reclose := none, trial := none }

/-- TRIPPED asked for a channel, with its cause and reclose timer (R167, R174, R175). -/
def tripChan (k : FaultKind) (reclose : Option Nat) (c : Chan) (s : State) : State :=
  let s := { s with fault := { s.fault with tripCause := s.fault.tripCause.set c (some k) } }
  (stopChan c .tripped none s).modChan c fun ch => { ch with reclose := reclose }

/-- The channel is in service: neither TRIPPED nor LOCKED. -/
def ChanState.inService : ChanState → Bool
  | .tripped => false
  | .locked => false
  | _ => true

/-- An OVERCURRENT or HEATER_OPEN occurrence for a channel (R174, R178). -/
def occurCounted (d : Detection) (c : Chan) (s : State) : State :=
  if d.kind = .heaterOpen ∧ s.burst.contactor = false then s
  else
    let isNew := !s.hasCond d.kind (some c)
    let ch := s.chans.get c
    if !isNew then recordOccurrence d .trip false false s
    else if !ch.state.inService then recordOccurrence d .trip false true (s.addCond ⟨d.kind, some c, .trip⟩)
    else
      let n := min (ch.trips + 1) 3
      let s := s.modChan c fun ch => { ch with trips := n }
      if ch.trial.isSome then recordOccurrence d .lock true true (lockChan d.kind c s)
      else if n = 3 then recordOccurrence d .lock false true (lockChan d.kind c s)
      else recordOccurrence d .trip false true
        (tripChan d.kind (some (s.now + seconds 600)) c (s.addCond ⟨d.kind, some c, .trip⟩))

/-- A new OVERTEMP occurrence for a channel (R175, R178). -/
def occurOvertemp (d : Detection) (c : Chan) (s : State) : State :=
  let ch := s.chans.get c
  if s.hasCond .overtemp (some c) then recordOccurrence d .trip false false s
  else if !ch.state.inService then recordOccurrence d .trip false true (s.addCond ⟨.overtemp, some c, .trip⟩)
  else if ch.trial.isSome then
    recordOccurrence d .lock true true (lockChan .overtemp c (s.addCond ⟨.overtemp, some c, .lock⟩))
  else recordOccurrence d .trip false true (tripChan .overtemp none c (s.addCond ⟨.overtemp, some c, .trip⟩))

/-- The leakage watch starts if it is IDLE (R181). -/
def startWatch (s : State) : State :=
  match s.fault.watch with
  | none => { s with fault := { s.fault with watch := some 0 } }
  | some _ => s

/-- Every enabled channel asked into LOCKED by a kind. -/
def lockAll (k : FaultKind) (s : State) : State := s.each s.enabledList (lockChan k)

/-- An EARTH_LEAKAGE occurrence (R180). -/
def occurEarth (d : Detection) (s : State) : State :=
  if s.hasCond .earthLeakage none then recordOccurrence d .lock false false (startWatch s)
  else
    let s := lockAll .earthLeakage (setContactor false (outputsOff s))
    recordOccurrence d .lock false true (startWatch (s.addCond ⟨.earthLeakage, none, .lock⟩))

/-- A LEAK_TEST_FAIL occurrence (R182). -/
def occurTestFail (d : Detection) (s : State) : State :=
  if s.hasCond .leakTestFail none then recordOccurrence d .lock false false s
  else recordOccurrence d .lock false true ((lockAll .leakTestFail s).addCond ⟨.leakTestFail, none, .lock⟩)

/-- A NOTE-class occurrence (R189): due a notice at level 3 and above (R195). -/
def occurNote (d : Detection) (s : State) : State :=
  if s.hasCond d.kind d.chan then recordOccurrence d .note false false s
  else recordOccurrence d .note false (decide (3 ≤ d.kind.level)) (s.addCond ⟨d.kind, d.chan, .note⟩)

/-- A HALT-class occurrence (R188, R200, R202): a first cause begins the halt procedure, whose notice is made before HALTING is
entered; a second cause is written into the record; a cause not taken is queued only. -/
def occurHalt (d : Detection) (cause : HaltCause) (s : State) : State :=
  if s.hasCond d.kind d.chan then recordOccurrence d .halt false false s
  else
    let s := s.addCond ⟨d.kind, d.chan, .halt⟩
    match causeTaken s.station.state s.halt with
    | .first => enterHalting (recordOccurrence d .halt false true (beginHalt cause s))
    | .second => recordOccurrence d .halt false true (writeSecond cause s)
    | .notTaken => recordOccurrence d .halt false false s

/-- A detection taken by the fault unit (R170, R173). -/
def occur (d : Detection) (s : State) : State :=
  match d.kind, d.chan with
  | .earthLeakage, _ => occurEarth d s
  | .leakTestFail, _ => occurTestFail d s
  | .overcurrent, some c => occurCounted d c s
  | .heaterOpen, some c => occurCounted d c s
  | .overtemp, some c => occurOvertemp d c s
  | .overcurrent, none => s
  | .heaterOpen, none => s
  | .overtemp, none => s
  | .switchStuck, _ => occurHalt d .switchStuck s
  | .outputReadback, _ => occurHalt d .outputReadback s
  | .leakagePersists, _ => occurHalt d .leakagePersists s
  | .operatorStop, _ => occurHalt d .operatorStop s
  | .duplicateId, _ => occurNote d s
  | .mainsLost, _ => occurNote d s
  | .referenceFault, _ => occurNote d s
  | .sensorOpen, _ => occurNote d s
  | .sensorShort, _ => occurNote d s
  | .lowTemp, _ => occurNote d s
  | .holdOverride, _ => occurNote d s
  | .ambientSensor, _ => occurNote d s
  | .feederCrowded, _ => occurNote d s

/-- Detections taken one after another. -/
def occurAll (ds : List Detection) (s : State) : State := ds.foldl (fun s d => occur d s) s

/-! ## Ends of trips and locks -/

/-- A trip ends (R168, R176, R184): cause none, its condition removed, reclose stopped, a trial of 30 s where one follows, and the
start choice. -/
def endTrip (trial : Bool) (c : Chan) (s : State) : State :=
  let s := endTripConds c { s with fault := { s.fault with tripCause := s.fault.tripCause.set c none } }
  startChoice c (s.modChan c fun ch => { ch with reclose := none, trial := if trial then some (s.now + seconds 30) else ch.trial })

/-- A channel is unlocked (R185). -/
def unlockChan (c : Chan) (s : State) : State :=
  let s := endTripConds c { s with fault := { s.fault with locks := s.fault.locks.set c [] } }
  startChoice c (s.modChan c fun ch => { ch with trips := 0, trial := none, clean := none })

/-- R186: with no lock list left that holds EARTH_LEAKAGE, the lock and the condition end and the contactor closes. -/
def endEarthLock (s : State) : State := setContactor true (s.clearCond .earthLeakage none)

/-- A cause of a channel is absent (R183). -/
def causeAbsent (s : State) (c : Chan) : FaultKind → Bool
  | .overtemp => !s.hasCond .overtemp (some c)
  | .earthLeakage => !s.comparator
  | .leakTestFail => !s.hasCond .leakTestFail none
  | _ => true

/-- Every cause of a TRIPPED or LOCKED channel is absent (R183). -/
def causesAbsent (s : State) (c : Chan) : Bool :=
  !s.hasCond .overtemp (some c) &&
    match (s.chans.get c).state with
    | .tripped => ((s.fault.tripCause.get c).map (causeAbsent s c)).getD true
    | .locked => (s.fault.locks.get c).all (causeAbsent s c)
    | _ => true

end Sys2Proof.Machine
end

