-- ==== Sys2Proof/Machine/BudgetUnit.lean ====
section
/-! DEFINITION. The feeder share computation (chapter 7). -/

namespace Sys2Proof.Machine

/-- U, the usable feeder capacity (R128). -/
def usable (img : Image) : Nat := img.cf - img.cf * img.margin / 64

/-- F, the fallback share (R128). -/
def fallbackShare (img : Image) : Nat := usable img / img.nf

/-- Q_c, a channel's current demand (R127). -/
def chanDemand (fires : Bool) (d iEff : Nat) : Nat := if fires then ceilDiv (d * iEff) 1024 else 0

/-- The heard feeder peers (R129). -/
def heardPeers (s : State) : List Peer := s.peers.entries.filter (onFeeder s.loader.image)

/-- u, the unheard stations of the feeder (R129). -/
def unheard (s : State) : Nat := (s.loader.image.nf - 1) - (heardPeers s).length

/-- S, the feeder demand as this station sees it with its own demand `qs` (R130). -/
def feederDemand (s : State) (qs : Nat) : Nat :=
  qs + ((heardPeers s).map (·.q)).sum + unheard s * fallbackShare s.loader.image

/-- W, the weighted demand of the feeder (R134). -/
def weightedDemand (s : State) (qs : Nat) : Nat :=
  s.loader.image.weight * qs + ((heardPeers s).map fun p => p.weight * p.q).sum

/-- The three cases of R131. -/
inductive ShareCase where
  | isolatedShare | shared | curtailed
deriving DecidableEq, Repr

/-- R131: chosen from the station state and the mute flag, then from S and U. -/
def shareCase (s : State) (qs : Nat) : ShareCase :=
  if s.station.state = .isolated ∨ s.station.mute = true then .isolatedShare
  else if feederDemand s qs ≤ usable s.loader.image then .shared
  else .curtailed

/-- U', the capacity left by the fallback shares of the unheard stations (R134). -/
def leftCapacity (s : State) : Nat := usable s.loader.image - unheard s * fallbackShare s.loader.image

/-- A_s, the station allowance (R132, R133, R134). -/
def allowance (s : State) (qs : Nat) : Nat :=
  match shareCase s qs with
  | .isolatedShare => min qs (fallbackShare s.loader.image)
  | .shared => qs
  | .curtailed =>
    if weightedDemand s qs = 0 then 0
    else min qs (leftCapacity s * s.loader.image.weight * qs / weightedDemand s qs)

/-- k, the scale factor (R135). -/
def scaleFactor (qs a : Nat) : Nat := if qs = 0 then 1024 else 1024 * a / qs

/-- The record a control step writes in RUNNING and ISOLATED (R131 to R135). -/
def shareRecord (s : State) (qs : Nat) : Budget :=
  ⟨qs, usable s.loader.image, feederDemand s qs, allowance s qs, scaleFactor qs (allowance s qs)⟩

/-- The record a control step writes in the other states (R137). -/
def idleRecord (s : State) : Budget := ⟨0, usable s.loader.image, feederDemand s 0, 0, 0⟩

/-- The station demand Q_s from the four demands and states (R127). -/
def stationDemand (s : State) (d : Four Nat) : Nat :=
  (Chan.list.map fun c =>
    chanDemand (s.enabled c && (s.chans.get c).state.fires) (d.get c) (s.meas.chans.get c).iEff).sum

end Sys2Proof.Machine
end

