-- ==== Sys2Proof/Machine/ControlStep.lean ====
section
/-! DEFINITION. The control step (chapter 8, section 8.5): states settled, demands computed, the budget share taken, demands scaled,
integrals updated, firing counts formed. -/

namespace Sys2Proof.Machine

/-- The own temperature is usable at a control step (R148). -/
def ownUsable (s : State) (c : Chan) : Bool :=
  (s.ownTemp c).isSome &&
    match (s.chans.get c).state with
    | .warmup => true
    | .regulate => true
    | _ => decide ((s.meas.wall.get c).valid = 3)

/-- What a step settles and computes for a channel before k is known. -/
structure StepCalc where
  state : ChanState
  ramp : Option Int
  ctlTemp : Option Int
  ctlSrc : TempSource
  d : Nat
  e : Int
  raw : Int
  /-- the integral is updated in this state (R143) -/
  integrates : Bool
deriving DecidableEq, Repr

/-- The error, clamped (R154). -/
def stepError (target t : Int) : Int := clampInt (-1000) 1000 (target - t)

/-- The proportional term (R154). -/
def propTerm (kp : Nat) (e : Int) : Int := (kp : Int) * e / 16

/-- The upstream temperature of the flow term (R155). -/
def upstreamTemp (s : State) (c : Chan) : Option Int :=
  match channelBefore c with
  | none => upExit s
  | some p => s.ownTemp p

/-- The flow term (R155). -/
def flowTerm (s : State) (c : Chan) (target : Int) : Int :=
  if s.peers.flow = .flowing then
    match upstreamTemp s c with
    | some t => (s.loader.image.kf : Int) * max 0 (target - t) / 16
    | none => 0
  else 0

/-- The raw demand p + i + f (R154, R155, R156). -/
def rawDemand (s : State) (c : Chan) (acc : Nat) (target t : Int) : Int :=
  propTerm s.loader.image.kp (stepError target t) + ((acc / 64 : Nat) : Int) + flowTerm s c target

/-- A computed demand for a state, temperature and target (R153 to R156). -/
def computed (s : State) (c : Chan) (st : ChanState) (ramp : Option Int) (t : Int) (src : TempSource) (target : Int) : StepCalc :=
  let raw := rawDemand s c (s.chans.get c).acc target t
  { state := st, ramp := ramp, ctlTemp := some t, ctlSrc := src, d := (clampInt 0 1024 raw).toNat, e := stepError target t, raw := raw,
    integrates := true }

/-- The fallback duty (R151). -/
def fallbackDuty (s : State) : Nat :=
  match s.ambTemp with
  | some t => if t < s.loader.image.tAmbSwitch then s.loader.image.dCold else s.loader.image.dMild
  | none => s.loader.image.dCold

/-- A channel in WARMUP with its own temperature usable (R153). -/
def warmupStep (s : State) (c : Chan) (t : Int) : StepCalc :=
  let ch := s.chans.get c
  let ramp := ch.ramp.getD ch.tSet + s.loader.image.rampStep
  if ch.tSet ≤ ramp then computed s c .regulate none t .own ch.tSet
  else computed s c .warmup (some ramp) t .own ramp

/-- A channel in a firing state without a usable own temperature (R149, R150, R151). -/
def borrowedStep (s : State) (c : Chan) : StepCalc :=
  let ch := s.chans.get c
  match substitute s c with
  | some (t, src) => computed s c .substitute none t src (ch.tSet + s.loader.image.subMargin)
  | none =>
    { state := .fallback, ramp := none, ctlTemp := none, ctlSrc := .none, d := fallbackDuty s, e := 0, raw := 0, integrates := false }

/-- The state for the step and the demand of a channel (R150 to R156); a channel that does not fire has d 0 (R159). -/
def stepCalc (s : State) (c : Chan) : StepCalc :=
  let ch := s.chans.get c
  if !ch.state.fires then
    { state := ch.state, ramp := ch.ramp, ctlTemp := ch.ctlTemp, ctlSrc := ch.ctlSrc, d := 0, e := 0, raw := 0, integrates := false }
  else
    match ownUsable s c, s.ownTemp c with
    | true, some t =>
      if ch.state = .warmup then warmupStep s c t else computed s c .regulate none t .own ch.tSet
    | _, _ => borrowedStep s c

/-- The integral accumulator after the step (R158). -/
def nextAcc (acc ki k : Nat) (e raw : Int) : Nat :=
  if 0 < e ∧ (k < 1024 ∨ 1024 < raw) then acc
  else (clampInt 0 65535 ((acc : Int) + (ki : Int) * e)).toNat

/-- The scaled demand (R136, R157). -/
def scaled (d k : Nat) : Nat := d * k / 1024

/-- A channel record with the state, demand and temperature of the step (R152 step 1 and 2). -/
def Channel.withCalc (ch : Channel) (x : StepCalc) : Channel :=
  { ch with state := x.state, ramp := x.ramp, ctlTemp := x.ctlTemp, ctlSrc := x.ctlSrc, d := x.d }

/-- Scaling and the integral update (R152 step 4). -/
def Channel.withShare (ch : Channel) (x : StepCalc) (ki k : Nat) : Channel :=
  { ch with ds := scaled ch.d k, acc := if x.integrates then nextAcc ch.acc ki k x.e x.raw else ch.acc }

/-- A channel's firing count and remainder for the next period (R114, R115). -/
def firingOf (s : State) (c : Chan) : ChanBurst :=
  let b := s.burst.chans.get c
  if s.enabled c && s.station.state.fires && (s.chans.get c).state.fires then
    { b with h := (firing b.r (s.chans.get c).ds).1, r := (firing b.r (s.chans.get c).ds).2 }
  else { b with h := 0, r := 0 }

/-- The firing counts and remainders of the next period (R114, R152 step 5). -/
def setFiring (s : State) : State := { s with burst := { s.burst with chans := .of (firingOf s) } }

/-- The control step in RUNNING and ISOLATED (R152). -/
def firingStep (s : State) : State :=
  let xs : Four StepCalc := .of (stepCalc s)
  let s := { s with chans := .of fun c => (s.chans.get c).withCalc (xs.get c) }
  let b := shareRecord s (stationDemand s (.of fun c => (s.chans.get c).d))
  let s := { s with budget := b }
  setFiring { s with chans := .of fun c => (s.chans.get c).withShare (xs.get c) s.loader.image.ki b.k }

/-- The control step in LISTENING, HALTING and HALTED (R137, R159). -/
def idleStep (s : State) : State :=
  setFiring { s with chans := s.chans.map fun ch => { ch with d := 0, ds := 0 }, budget := idleRecord s }

/-- The control step (R152, R159), with the flow status set first (R81). -/
def controlStep (s : State) : State :=
  let s := setFlow s
  if s.station.state.fires then firingStep s else idleStep s

/-- The new Q_s makes a report instant: it differs from the last reported by 64 or more (R38). -/
def demandMoved (s : State) : Bool := decide (64 ≤ absDiff s.budget.qs s.line.lastQ)

end Sys2Proof.Machine
end

