-- ==== Sys2Proof/Machine/Measurement.lean ====
section
/-! DEFINITION. The measurement sequencer (chapter 5): the converter and its arbiter, temperature rounds, current samples, the
closing of a period, the leakage comparator and the leak test. -/

namespace Sys2Proof.Machine

/-! ## The converter and its arbiter (R87, R88) -/

/-- A pending current request of a channel, a check before an off-check (R88): its kind, and the end it has when it was made on the
crystal time base. -/
def ChanMeas.request (m : ChanMeas) : Option (CurrentKind × Option Nat) :=
  match m.reqCheck with
  | .bound => some (.check, none)
  | .crystal e => some (.check, some e)
  | .none => if m.reqOff then some (.offCheck, none) else if m.reqOn then some (.onSample, none) else none

/-- A request taken by the converter is no longer pending. -/
def ChanMeas.takeRequest (m : ChanMeas) : CurrentKind → ChanMeas
  | .check => { m with reqCheck := .none }
  | .offCheck => { m with reqOff := false }
  | .onSample => { m with reqOn := false }

/-- A check request with the end of one made on the crystal time base, none for one of a half-cycle. -/
def checkRequest : Option Nat → CheckReq
  | none => .bound
  | some e => .crystal e

/-- A request that gives way is pending again. -/
def ChanMeas.putRequest (m : ChanMeas) (limit : Option Nat) : CurrentKind → ChanMeas
  | .check => { m with reqCheck := checkRequest limit }
  | .offCheck => { m with reqOff := true }
  | .onSample => { m with reqOn := true }

/-- The first channel, in channel order, with a pending current request. -/
def pendingChan (s : State) : Option Chan := Chan.list.find? fun c => (s.meas.chans.get c).request.isSome

/-- The first conversion of a sample, 250 µs long (R87). -/
def State.convert (s : State) (sample : Sample) (limit : Option Nat) : State :=
  { s with meas := { s.meas with conv := some ⟨sample, false, .live, limit, s.now + 250⟩ } }

/-- The arbiter chooses the next sample while the converter is idle (R88). -/
def startNext (s : State) : State :=
  if s.meas.conv.isSome then s
  else
    match pendingChan s with
    | some c =>
      match (s.meas.chans.get c).request with
      | some (k, limit) => (s.modMeas c fun m => m.takeRequest k).convert (.current c k) limit
      | none => s
    | none =>
      if s.meas.roundOn then
        match s.meas.remaining with
        | r :: _ => s.convert (.reading r) none
        | [] => s
      else s

/-- A sample that gives way to a current request: a temperature reading, or a current sample before its second conversion. -/
def Conversion.yields (cv : Conversion) : Bool :=
  decide (cv.fate ≠ .abandoned) &&
    match cv.sample with
    | .reading _ => true
    | .current _ _ => !cv.kept

/-- The conversion began at this very moment, at the end of the conversion before it. -/
def State.justBegun (s : State) (cv : Conversion) : Bool := decide (s.meas.convEnd = some s.now ∧ cv.ends = s.now + 250)

/-- The request of a sample that gives way is pending again; a reading is still the next one of its round. -/
def putBack (cv : Conversion) (s : State) : State :=
  match cv.sample with
  | .current c k => if cv.fate = .live then s.modMeas c fun m => m.putRequest cv.limit k else s
  | .reading _ => s

/-- The arbiter at current requests. A request that arrives together with a conversion end is served as if it had come before it: the
sample that began at that end gives way (R88; log 38). -/
def startRequested (s : State) : State :=
  match s.meas.conv with
  | some cv =>
    if s.justBegun cv && cv.yields && (pendingChan s).isSome then startNext (putBack cv { s with meas := { s.meas with conv := none } })
    else s
  | none => startNext s

/-! ## Temperature rounds (R89 to R97) -/

/-- The readings of a round in their order, disabled channels left out (R90). -/
def roundReadings (s : State) : List Reading :=
  [.refLo, .refHi] ++ s.enabledList.map .wall ++ [.ambient]

/-- A round begins if none is in progress; a MEASURE that waits is served by it (R89, R99). -/
def beginRound (s : State) : State :=
  if s.meas.roundOn then s
  else startNext { s with meas := { s.meas with roundOn := true, remaining := roundReadings s,
                                                measure := if s.meas.measure = .waiting then .serving else s.meas.measure } }

/-- The reference span of the round is good (R91). -/
def spanGood (lo hi : Nat) : Bool := decide (3000 ≤ (hi : Int) - lo ∧ (hi : Int) - lo ≤ 6000)

/-- The temperature of a sensor (R92). -/
def temperature (lo hi raw : Nat) (trim : Int) : Int := ((raw : Int) - lo) * 1000 / ((hi : Int) - lo) + trim

/-- A reading outside the sensor range (R93). -/
def outOfRange (t : Int) : Option SensorCond := if t < -600 then some .short else if 2500 < t then some .opened else none

/-- A reading accepted: it replaces the accepted temperature, and three in a row clear a condition (R94, R95, R96). -/
def SensorState.accept (x : SensorState) (now : Nat) (t : Int) : SensorState :=
  { x with accepted := some ⟨t, now⟩, reject := 0, clear := min (x.clear + 1) 3,
           cond := if min (x.clear + 1) 3 = 3 then none else x.cond }

/-- The rate check of a reading within the sensor range (R94). -/
def SensorState.rateCheck (x : SensorState) (now : Nat) (t : Int) : SensorState :=
  match x.accepted with
  | none => x.accept now t
  | some a =>
    if -50 ≤ t - a.value ∧ t - a.value ≤ 50 then x.accept now t
    else if 3 ≤ x.reject + 1 then x.accept now t
    else { x with reject := x.reject + 1, clear := 0 }

/-- A computed temperature taken (R93, R94). -/
def SensorState.take (x : SensorState) (now : Nat) (t : Int) : SensorState :=
  match outOfRange t with
  | some k => { x with cond := some k, clear := 0 }
  | none => x.rateCheck now (clampInt (-500) 2000 t)

/-- The valid-round count at a round-complete event (R95). -/
def SensorState.countRound (x : SensorState) : SensorState :=
  { x with valid := if x.temp.isSome then min (x.valid + 1) 3 else 0 }

/-- The fault kind of a wall sensor's condition (R93). -/
def SensorCond.kind : SensorCond → FaultKind
  | .short => .sensorShort
  | .opened => .sensorOpen

/-- What the fault unit is told of a wall sensor: a raised or repeated condition, the other of the pair cleared first, or a
clearing (R93, R96). -/
def wallFaults (c : Chan) (old new : SensorState) (raised : Option SensorCond) (s : State) : State :=
  match raised, old.cond with
  | some k, some o => occur ⟨k.kind, some c, none⟩ (if o = k then s else s.clearCond o.kind (some c))
  | some k, none => occur ⟨k.kind, some c, none⟩ s
  | none, some o => if new.cond.isNone then s.clearCond o.kind (some c) else s
  | none, none => s

/-- What the fault unit is told of AMB, whose one condition is AMBIENT_SENSOR (R93, R97). -/
def ambientFaults (old new : SensorState) (raised : Option SensorCond) (s : State) : State :=
  match raised, old.cond with
  | some _, _ => occur ⟨.ambientSensor, none, none⟩ s
  | none, some _ => if new.cond.isNone then s.clearCond .ambientSensor none else s
  | none, none => s

/-- A wall sensor's reading of the round taken (R92 to R96). -/
def takeWall (c : Chan) (s : State) : State :=
  let t := temperature s.meas.rawLo s.meas.rawHi (s.meas.rawWall.get c) (s.loader.image.trims.get c)
  let old := s.meas.wall.get c
  let new := (old.take s.now t).countRound
  wallFaults c old new (outOfRange t) { s with meas := { s.meas with wall := s.meas.wall.set c new } }

/-- The ambient reading of the round taken (R97). -/
def takeAmbient (raw : Nat) (s : State) : State :=
  let t := temperature s.meas.rawLo s.meas.rawHi raw s.loader.image.trimAmb
  let old := s.meas.amb
  let new := (old.take s.now t).countRound
  ambientFaults old new (outOfRange t) { s with meas := { s.meas with amb := new } }

/-- A round with a good span (R91). -/
def goodRound (raw : Nat) (s : State) : State :=
  let s := ({ s with meas := { s.meas with refFault := false } }).clearCond .referenceFault none
  takeAmbient raw (s.each s.enabledList takeWall)

/-- A round with a bad span: clear counts 0, REFERENCE_FAULT raised or repeated (R91). -/
def badRound (s : State) : State :=
  occur ⟨.referenceFault, none, none⟩
    { s with meas := { s.meas with refFault := true,
                                   wall := s.meas.wall.map fun x => ({ x with clear := 0 } : SensorState).countRound,
                                   amb := ({ s.meas.amb with clear := 0 } : SensorState).countRound } }

/-- The hold override and the low-temperature alarm of a channel (R163, R166; log 16). -/
def alarmCheck (c : Chan) (s : State) : State :=
  match s.ownTemp c with
  | none => s
  | some t =>
    let alarm := s.loader.image.tAlarm
    if t < alarm then
      if (s.chans.get c).state = .hold then occur ⟨.holdOverride, some c, some t⟩ (startChoice c s)
      else if (s.chans.get c).state.fires && !s.hasCond .lowTemp (some c) then occur ⟨.lowTemp, some c, some t⟩ s
      else s
    else if alarm + 20 ≤ t then (s.clearCond .holdOverride (some c)).clearCond .lowTemp (some c)
    else s

/-- The overtemperature check of a channel (R175). -/
def overtempCheck (c : Chan) (s : State) : State :=
  match s.ownTemp c with
  | none => s
  | some t =>
    if s.loader.image.tMax < t then
      if s.hasCond .overtemp (some c) then s else occur ⟨.overtemp, some c, some t⟩ s
    else if t < s.loader.image.tMax - 50 ∧ s.hasCond .overtemp (some c) then
      let s := s.clearCond .overtemp (some c)
      if (s.chans.get c).state = .tripped ∧ s.fault.tripCause.get c = some .overtemp then endTrip false c s else s
    else s

/-- The five temperatures of a MEASURE result, 12 bits each, and 4 spare (R99, R213). -/
def measureResult (s : State) : List Byte :=
  packChars ((Chan.list.map fun c => (⟨12, tempField (s.ownTemp c)⟩ : Field)) ++ [⟨12, tempField s.ambTemp⟩, ⟨4, 0⟩])

/-- A MEASURE that is served completes (R58, R99). -/
def finishMeasure (s : State) : State :=
  if s.meas.measure = .serving then
    completeDeferred .measure .ok (measureResult s) { s with meas := { s.meas with measure := .none } }
  else s

/-- The round-complete event (R90, R98): sensors, then alarms, then overtemperature, then MEASURE (log 15). -/
def finishRound (raw : Nat) (s : State) : State :=
  let s := if spanGood s.meas.rawLo s.meas.rawHi then goodRound raw s else badRound s
  finishMeasure (((s.each Chan.list alarmCheck)).each Chan.list overtempCheck)

/-- A kept reading stored; the kept AMB conversion completes the round (R90). -/
def storeReading (r : Reading) (raw : Nat) (s : State) : State :=
  let s := { s with meas := { s.meas with remaining := s.meas.remaining.tail } }
  match r with
  | .refLo => startNext { s with meas := { s.meas with rawLo := raw } }
  | .refHi => startNext { s with meas := { s.meas with rawHi := raw } }
  | .wall c => startNext { s with meas := { s.meas with rawWall := s.meas.rawWall.set c raw } }
  | .ambient => finishRound raw (startNext { s with meas := { s.meas with roundOn := false } })

/-! ## Current samples (R101, R103, R204) -/

/-- The overcurrent threshold (R103). -/
def overThreshold (iNom : Nat) : Nat := iNom * 5 / 4

/-- A counted on-sample: sum, count and overcurrent count (R101, R103). -/
def ChanMeas.addOn (m : ChanMeas) (iNom v : Nat) : ChanMeas :=
  { m with onSum := m.onSum + v, onCount := m.onCount + 1,
           overCount := if overThreshold iNom < v then (if m.overCount + 1 = 2 then 0 else m.overCount + 1) else 0 }

/-- The second sample over the threshold in a row is a detection (R103). -/
def ChanMeas.overDue (m : ChanMeas) (iNom v : Nat) : Bool := decide (overThreshold iNom < v ∧ m.overCount + 1 = 2)

/-- A counted current sample (R101, R204). -/
def countSample (c : Chan) (k : CurrentKind) (raw : Nat) (s : State) : State :=
  let v := raw / 32
  let iNom := s.loader.image.iNom.get c
  match k with
  | .onSample =>
    let due := (s.meas.chans.get c).overDue iNom v
    let s := s.modMeas c fun m => m.addOn iNom v
    if due then occur ⟨.overcurrent, some c, some v⟩ s else s
  | .offCheck => s.modMeas c fun m => { m with lastOff := some v, offTaken := true }
  | .check =>
    let s := { s with halt := { s.halt with checks := s.halt.checks.set c .counted,
                                            currentSeen := s.halt.currentSeen || decide (iNom / 8 < v) } }
    if s.halt.proc = .checking ∧ checksDone s = true then checkDecision s else s

/-- The second conversion of a sample (R87). -/
def State.convertKept (s : State) (cv : Conversion) : State :=
  { s with meas := { s.meas with conv := some { cv with kept := true, ends := s.now + 250 } } }

/-- A conversion ends: the first is discarded, the second kept (R87, R88, R101). -/
def endConversion (cv : Conversion) (raw : Nat) (s : State) : State :=
  let s := { s with meas := { s.meas with conv := none, convEnd := some s.now } }
  if cv.fate = .abandoned then startNext s
  else if cv.kept then
    match cv.sample with
    | .reading r => storeReading r raw s
    | .current c k => startNext (if cv.fate = .live then countSample c k raw s else s)
  else
    match cv.sample with
    | .reading _ => if (pendingChan s).isSome then startNext s else s.convertKept cv
    | .current _ _ => s.convertKept cv

/-! ## The half-cycle's requests (R100) -/

/-- A channel's on-sample or off-check request at the mid-point: the output as told at the half-cycle start, and the request of an
output turned off since then withdrawn (R100; log 35). -/
def ChanMeas.midRequest (m : ChanMeas) (out : Bool) : ChanMeas :=
  if m.told then { m with reqOn := out }
  else if m.offAsked then m
  else { m with reqOff := true, offAsked := true }

/-- The comparator read for the halt check, once, at the first check (R204). -/
def readForHalt (s : State) : State :=
  if s.halt.compRead then s
  else { s with halt := { s.halt with compRead := true, leakSeen := s.comparator } }

/-- A check sample is asked at the coming mid-point. -/
def checkWanted (s : State) : Bool := Chan.list.any fun c => decide (s.halt.checks.get c = .wanted)

/-- The halt unit's check requests of the mid-point (R100, R204). -/
def askChecks (s : State) : State :=
  if s.halt.proc = .checking ∧ checkWanted s = true then
    let s := readForHalt s
    s.each Chan.list fun c s =>
      if s.halt.checks.get c = .wanted then
        { (s.modMeas c fun m => { m with reqCheck := .bound }) with
          halt := { s.halt with checks := s.halt.checks.set c .requested } }
      else s
  else s

/-- The mid-point's current requests (R100). -/
def midRequests (s : State) : State :=
  let s := s.each s.enabledList fun c s => s.modMeas c fun m => m.midRequest (s.burst.chans.get c).out
  startRequested (askChecks s)

/-- A check request made at once on the crystal time base, dropped if not started within 10 ms (R100, R204). -/
def askCrystal (c : Chan) (s : State) : State :=
  { (s.modMeas c fun m => { m with reqCheck := .crystal (s.now + 10000) }) with
    halt := { s.halt with checks := s.halt.checks.set c .requested } }

/-- The check of a channel is outstanding. -/
def CheckState.outstanding : CheckState → Bool
  | .afterEdge => true
  | .wanted => true
  | .requested => true
  | _ => false

/-- With no mains, every outstanding check sample is asked at once and the comparator read (R204). -/
def askAllCrystal (s : State) : State :=
  let s := readForHalt s
  startRequested (s.each Chan.list fun c s => if (s.halt.checks.get c).outstanding then askCrystal c s else s)

/-- A check request that no half-cycle bounds is still pending or being converted. -/
def crystalPending (s : State) (c : Chan) : Bool :=
  (match (s.meas.chans.get c).reqCheck with
   | .crystal _ => true
   | _ => false) ||
  (match s.meas.conv with
   | some cv => decide (cv.sample = .current c .check ∧ cv.limit ≠ none ∧ cv.fate = .live)
   | none => false)

/-- A channel's check at the end of a half-cycle: a request of the half-cycle, pending or being converted, is dropped and wanted
again at the mid-point of the half-cycle that begins (R88, R101, R204; log 39). -/
def checkAfterEdge (s : State) (c : Chan) : CheckState :=
  match s.halt.checks.get c with
  | .afterEdge => .wanted
  | .requested => if crystalPending s c then .requested else .wanted
  | x => x

/-- A half-cycle's pending requests dropped (R88). -/
def ChanMeas.dropHalf (m : ChanMeas) : ChanMeas :=
  { m with reqOn := false, reqOff := false, reqCheck := if m.reqCheck = .bound then .none else m.reqCheck }

/-- A current sample in progress whose half-cycle ends is not counted (R101). A check sample asked on the crystal time base belongs to
no half-cycle: one in progress at the edge of a mains return goes on and is counted (R204; log 45). -/
def Conversion.outlive (cv : Conversion) : Conversion :=
  match cv.sample with
  | .current _ _ => if cv.limit = none ∧ cv.fate = .live then { cv with fate := .stale } else cv
  | .reading _ => cv

/-- The half-cycle ends at an accepted edge (R88, R101). -/
def endHalfCycle (s : State) : State :=
  { s with meas := { s.meas with chans := s.meas.chans.map .dropHalf, conv := s.meas.conv.map .outlive },
           halt := { s.halt with checks := .of (checkAfterEdge s) } }

/-! ## Leakage (R106 to R108) -/

/-- The comparator sampled at a mid-point outside a leak test (R106). -/
def leakSample (s : State) : State :=
  if s.comparator then
    if s.meas.leakCount < 2 then { s with meas := { s.meas with leakCount := s.meas.leakCount + 1 } }
    else if s.meas.leakCount = 2 then
      occur ⟨.earthLeakage, none, none⟩ { s with meas := { s.meas with leakCount := 3, leakPresent := true } }
    else s
  else { s with meas := { s.meas with leakCount := 0, leakPresent := false } }

/-- The leak test ends with PASS (R108, R213). -/
def passLeakTest (s : State) : State :=
  (completeDeferred .leakTest .ok [1#8] (endLeakTest s)).clearCond .leakTestFail none

/-- The leak test ends with FAIL (R108, R213). -/
def failLeakTest (s : State) : State :=
  occur ⟨.leakTestFail, none, none⟩ (completeDeferred .leakTest .ok [2#8] (endLeakTest s))

/-- The comparator at a mid-point: ordinary sampling, none in the half-cycle in which a leak test ended, or the sample that decides a
leak test (R106, R107, R108). -/
def sampleLeakage (s : State) : State :=
  match s.meas.leakTest with
  | .idle => if s.meas.leakPause then s else leakSample s
  | .waiting => s
  | .driving _ => if s.comparator then passLeakTest s else s

/-- The leak test at an accepted edge: the drive starts, counts its half-cycles, and fails at the end of the eighth (R107, R108). -/
def leakTestEdge (s : State) : State :=
  match s.meas.leakTest with
  | .idle => s
  | .waiting => { s with meas := { s.meas with leakTest := .driving 1 } }
  | .driving n => if n < 8 then { s with meas := { s.meas with leakTest := .driving (n + 1) } } else failLeakTest s

/-- A LEAK_TEST taken: WAITING, leakage count and flag cleared, the watch back to IDLE (R107, R181). -/
def startLeakTest (s : State) : State :=
  { s with meas := { s.meas with leakTest := .waiting, leakCount := 0, leakPresent := false },
           fault := { s.fault with watch := none } }

/-! ## The closing of a period (R102 to R105) -/

/-- I_meas of the period (R102). -/
def ChanMeas.meanCurrent (m : ChanMeas) : Nat := if 1 ≤ m.onCount then m.onSum / m.onCount else m.iMeas

/-- The open-heater count after the period, before a detection sets it back (R104). -/
def ChanMeas.openAfter (m : ChanMeas) (iNom : Nat) : Nat :=
  if 8 ≤ m.onHalves ∧ 1 ≤ m.onCount then (if m.meanCurrent < iNom / 4 then m.openCount + 1 else 0) else m.openCount

/-- The stuck-switch count after the period, before a detection sets it back (R105). -/
def ChanMeas.stuckAfter (m : ChanMeas) (iNom : Nat) : Nat :=
  if m.offTaken then (if iNom / 8 < m.lastOff.getD 0 then m.stuckCount + 1 else 0) else m.stuckCount

/-- The open-heater count reaches 3 (R104). -/
def ChanMeas.openDue (m : ChanMeas) (iNom : Nat) : Bool :=
  decide (8 ≤ m.onHalves ∧ 1 ≤ m.onCount ∧ m.meanCurrent < iNom / 4 ∧ 2 ≤ m.openCount)

/-- The stuck-switch count reaches 3 (R105). -/
def ChanMeas.stuckDue (m : ChanMeas) (iNom : Nat) : Bool :=
  decide (m.offTaken = true ∧ iNom / 8 < m.lastOff.getD 0 ∧ 2 ≤ m.stuckCount)

/-- A channel's period closed (R102). -/
def ChanMeas.close (m : ChanMeas) (iNom : Nat) : ChanMeas :=
  { m with iMeas := m.meanCurrent,
           iEff := if 8 ≤ m.onCount then clampNat 1 1000 m.meanCurrent else m.iEff,
           openCount := if m.openDue iNom then 0 else m.openAfter iNom,
           stuckCount := if m.stuckDue iNom then 0 else m.stuckAfter iNom,
           onSum := 0, onCount := 0, onHalves := 0, offAsked := false, offTaken := false }

/-- The detections a channel's closing makes (R104, R105). -/
def ChanMeas.closeFaults (m : ChanMeas) (iNom : Nat) (c : Chan) : List Detection :=
  (if m.openDue iNom then [⟨.heaterOpen, some c, some m.meanCurrent⟩] else []) ++
  (if m.stuckDue iNom then [⟨.switchStuck, some c, some (m.lastOff.getD 0)⟩] else [])

/-- A channel's record after its period is closed; a disabled channel is left alone (R102). -/
def closedChan (s : State) (c : Chan) : ChanMeas :=
  if s.enabled c then (s.meas.chans.get c).close (s.loader.image.iNom.get c) else s.meas.chans.get c

/-- The sequencer closes the period for every enabled channel; the detections are taken in channel order, HEATER_OPEN before
SWITCH_STUCK of a channel (R102, R104, R105, R188, R207; log 40). -/
def closePeriod (s : State) : State :=
  let ds := s.enabledList.flatMap fun c => (s.meas.chans.get c).closeFaults (s.loader.image.iNom.get c) c
  occurAll ds { s with meas := { s.meas with chans := .of (closedChan s) } }

/-- What the sequencer discards when a period is abandoned by a mains loss (R102, R103, R106, R112). -/
def ChanMeas.abandon (m : ChanMeas) : ChanMeas :=
  { m with told := false, reqOn := false, reqOff := false, reqCheck := .none, onSum := 0, onCount := 0, onHalves := 0, offAsked := false,
           offTaken := false, overCount := 0 }

/-- A current sample in progress when the period is abandoned is not counted. -/
def Conversion.abandonSample (cv : Conversion) : Conversion :=
  match cv.sample with
  | .current _ _ => if cv.fate = .live then { cv with fate := .stale } else cv
  | .reading _ => cv

end Sys2Proof.Machine
end

