-- ==== Sys2Proof/Machine/Loader.lean ====
section
/-! DEFINITION. The configuration loader (chapter 1, sections 1.2 and 1.3): the image read, refused or clamped, and the entry to
LISTENING that a passed load and a RESTART share. -/

namespace Sys2Proof.Machine

/-! ## The image (R214) -/

/-- An unsigned field of two bytes, most significant first. -/
def u16 (bs : List Byte) (i : Nat) : Nat := charAt bs i * 256 + charAt bs (i + 1)

/-- A two's complement field of two bytes. -/
def s16 (bs : List Byte) (i : Nat) : Int := twosComplement 16 (u16 bs i)

/-- A two's complement field of one byte. -/
def s8 (bs : List Byte) (i : Nat) : Int := twosComplement 8 (charAt bs i)

/-- A bit of a byte. -/
def bitOf (bs : List Byte) (i bit : Nat) : Bool := decide (charAt bs i / 2 ^ bit % 2 = 1)

/-- The fields as written in the image, before any check (R214). -/
def readImage (bs : List Byte) : Image where
  id := charAt bs 0
  feeder := charAt bs 1
  position := u16 bs 2 % 4096
  nf := charAt bs 4
  weight := charAt bs 5
  bitRate := charAt bs 6
  enables := ⟨bitOf bs 7 0, bitOf bs 7 1, bitOf bs 7 2, bitOf bs 7 3⟩
  mains60 := bitOf bs 8 0
  flowEnabled := bitOf bs 8 1
  cf := u16 bs 9
  margin := charAt bs 11
  rInt := charAt bs 12
  listen := charAt bs 13
  holdMax := charAt bs 14
  leakCode := charAt bs 15
  cmdLo := charAt bs 16
  cmdHi := charAt bs 17
  winLo := ⟨charAt bs 18, charAt bs 20, charAt bs 22, charAt bs 24⟩
  winHi := ⟨charAt bs 19, charAt bs 21, charAt bs 23, charAt bs 25⟩
  tLow := s16 bs 26
  tHigh := s16 bs 28
  tMax := s16 bs 30
  tAlarm := s16 bs 32
  tAmbSwitch := s16 bs 34
  coldBand := u16 bs 36
  rampStep := charAt bs 38
  subMargin := charAt bs 39
  kp := charAt bs 40
  ki := charAt bs 41
  kf := charAt bs 42
  dCold := u16 bs 43
  dMild := u16 bs 45
  iNom := ⟨u16 bs 47, u16 bs 49, u16 bs 51, u16 bs 53⟩
  setpoints := ⟨s16 bs 55, s16 bs 57, s16 bs 59, s16 bs 61⟩
  trims := ⟨s8 bs 63, s8 bs 64, s8 bs 65, s8 bs 66⟩
  trimAmb := s8 bs 67

/-- An identity field is out of range (R6). -/
def identityRefused (img : Image) : Bool :=
  decide (img.id < 1 ∨ 239 < img.id) || decide (7 < img.feeder) || decide (img.nf < 1 ∨ 15 < img.nf) ||
    decide (img.bitRate < 1 ∨ 3 < img.bitRate) || img.enables.toList.all (!·)

/-- A temperature or limit of the image clamped to -500..+2000. -/
def clampTemp (t : Int) : Int := clampInt (-500) 2000 t

/-- Every clamped field replaced by the nearer limit of its range (R7, R214). -/
def clampFields (img : Image) : Image :=
  { img with
    weight := clampNat 1 15 img.weight
    cf := clampNat 10 4000 img.cf
    margin := clampNat 0 16 img.margin
    rInt := clampNat 1 10 img.rInt
    listen := clampNat 5 60 img.listen
    holdMax := clampNat 1 240 img.holdMax
    leakCode := clampNat 0 2 img.leakCode
    winLo := img.winLo.map (clampNat 1 239)
    winHi := img.winHi.map (clampNat 1 239)
    tLow := clampTemp img.tLow
    tHigh := clampTemp img.tHigh
    tMax := clampTemp img.tMax
    tAlarm := clampTemp img.tAlarm
    tAmbSwitch := clampTemp img.tAmbSwitch
    coldBand := clampNat 0 500 img.coldBand
    rampStep := clampNat 1 50 img.rampStep
    subMargin := clampNat 0 100 img.subMargin
    dCold := clampNat 0 1024 img.dCold
    dMild := clampNat 0 1024 img.dMild
    iNom := img.iNom.map (clampNat 1 800)
    setpoints := img.setpoints.map clampTemp
    trims := img.trims.map (clampInt (-50) 50)
    trimAmb := clampInt (-50) 50 img.trimAmb }

/-- T_high_lim raised to T_low_lim where it is below it (R7, relation 1). -/
def relateLimits (img : Image) : Image := { img with tHigh := if img.tHigh < img.tLow then img.tLow else img.tHigh }

/-- Each setpoint brought inside the limits (R7, relation 2). -/
def relateSetpoints (img : Image) : Image := { img with setpoints := img.setpoints.map (clampInt img.tLow img.tHigh) }

/-- The working store after the checks of R7. -/
def clampImage (img : Image) : Image := relateSetpoints (relateLimits (clampFields img))

/-- The CRC over bytes 0..95 equals the stored CRC of bytes 96 and 97 (R5). -/
def imageCrcGood (bs : List Byte) : Bool := decide ((crc16 (bs.take 96)).toNat = u16 bs 96)

/-- The image passes: its CRC is good and no identity field is refused (R5, R6, R8). -/
def imagePasses (bs : List Byte) : Bool := imageCrcGood bs && !identityRefused (readImage bs)

/-! ## The entry to LISTENING (R9) -/

/-- The receiver at the entry to LISTENING: AWAIT_IDLE, or as a frame in transmission leaves it (R17, R22). -/
def Line.listen (l : Line) : Line := { l with rx := if l.busy then l.rx else .awaitIdle }

/-- The timers that start at the entry to LISTENING: listen interval, mains-lost, round timer, and the debounce of the own flow
input where it is enabled (R9, R80, R89, R109). -/
def startTimers (s : State) : State :=
  { s with station := { s.station with state := .listening, listenTimer := some (s.now + seconds s.loader.image.listen) },
           burst := { s.burst with mainsTimer := some (s.now + mainsLostTime s.loader.image) },
           meas := { s.meas with roundTimer := some (s.now + 500000) },
           peers := { s.peers with flowTimer := if s.loader.image.flowEnabled then some (s.now + seconds 2) else none },
           line := s.line.listen }

/-- The entry to LISTENING (R9): the contactor closes unless the earth-leakage lock holds it open, the timers start, the first
round begins, and the first REPORT is offered. -/
def enterListening (s : State) : State :=
  reportInstant (beginRound (startTimers (setContactor (!s.earthLock) s)))

/-- What a passed load gives the blocks: the working store, the runtime setpoints, I_eff, the slot of the own id and the own-input
flag (R8, R9, R81, R86, R121). -/
def takeImage (img : Image) (clamped : Bool) (crc : Word16) (s : State) : State :=
  { s with loader := ⟨.passed, clamped, crc, img, none⟩,
           chans := img.setpoints.map .powerOn,
           meas := .powerOn img.iNom,
           burst := { s.burst with slot := img.id % 8 },
           peers := { s.peers with ownInput := img.flowEnabled } }

/-- The load fails: the station stays UNCONFIGURED. The working store and the stored CRC stay as they were before the load, whatever
bytes were read (R4, R8; log 3). -/
def failLoad (s : State) : State := { s with loader := { s.loader with status := .failed, timer := none } }

/-- The 98th byte has come (R5 to R9). -/
def loadImage (bs : List Byte) (s : State) : State :=
  if imagePasses bs then
    let raw := readImage bs
    let img := clampImage raw
    enterListening (takeImage img (decide (img ≠ raw)) (BitVec.ofNat 16 (u16 bs 96)) s)
  else failLoad s

/-- The load is in progress on a powered part. -/
def State.loading (s : State) : Bool := s.powered && decide (s.loader.status = .inProgress)

/-! ## Supply (R3) -/

/-- Power-on: every piece of state takes its power-on value; the levels on the input pins and the queue of commands are not the
part's (R3; log 5). -/
def powerUp (s : State) : State := { State.reset with pins := s.pins, pending := s.pending }

/-- Supply failure: all activity ends; the state holds power-on values with no load running (R3; log 4). -/
def powerDown (s : State) : State :=
  { powerUp s with powered := false, loader := { State.reset.loader with timer := none } }

end Sys2Proof.Machine
end

