-- ==== Sys2Proof/Machine/Commands.lean ====
section
/-! DEFINITION. The command unit (chapter 3): the checks of R46, answers, and each COMMAND and QUERY by its own rule. -/

namespace Sys2Proof.Machine

/-! ## Answers (R42, R47) -/

/-- The frame was addressed by id to this station: an answer is due (R41, R42). -/
def answerDue (img : Image) (f : RxFrame) : Bool := decide (1 ≤ f.c2.toNat ∧ f.c2.toNat ≤ 239 ∧ f.c2.toNat = img.id)

/-- The request number of a frame. -/
def reqNo (f : RxFrame) : Byte := f.payload.getD 1 0

/-- The answer to a frame. -/
def answerTo (f : RxFrame) (st : Status) (result : List Byte) : AnswerContent := ⟨f.c1, reqNo f, st, result⟩

/-- The answer offered and then the request carried out: appended and carried out; carried out with no answer due or, while mute,
with the answer discarded; or, with the queue full, neither (R14, R36, R47). -/
def reply (f : RxFrame) (st : Status) (result : List Byte) (act : State → State) (s : State) : State :=
  if !answerDue s.loader.image f || s.station.mute then act s
  else if s.line.hasRoom then act { s with line := s.line.append (.answer (answerTo f st result)) }
  else { s with line := s.line.setOverrun }

/-- A refusal or another answer that carries nothing out. -/
def answerOnly (f : RxFrame) (st : Status) (result : List Byte) (s : State) : State := reply f st result id s

/-- A refusal: it carries no result (R42). -/
def refuse (f : RxFrame) (st : Status) (s : State) : State := answerOnly f st [] s

/-! ## Arguments (R52, R212) -/

/-- A channel mask's enabled channels; none for a malformed mask or when no enabled channel is left (R52). -/
def selection (s : State) (mask : Nat) : Option (List Chan) :=
  if 16 ≤ mask then none
  else
    match s.enabledList.filter (maskBit mask) with
    | [] => none
    | cs => some cs

/-- The channels a frame's mask character selects. -/
def selected (s : State) (f : RxFrame) : Option (List Chan) := selection s (charAt f.payload 2)

/-- A character as a result. -/
def oneChar (n : Nat) : List Byte := [BitVec.ofNat 8 n]

/-! ## Commands -/

/-- The runtime setpoint set for a channel (R53). -/
def putSetpoint (t : Int) (c : Chan) (s : State) : State := s.modChan c fun ch => { ch with tSet := t }

/-- SET_POINT (R53). -/
def takeSetPoint (f : RxFrame) (s : State) : State :=
  let v := twosComplement 12 (fieldAt f.payload 24 12)
  match selected s f with
  | none => refuse f .badArg s
  | some cs =>
    if v = -2048 then refuse f .badArg s
    else
      let t := clampInt s.loader.image.tLow s.loader.image.tHigh v
      reply f (if t = v then .ok else .clamped) (packChars [⟨12, tempField (some t)⟩, ⟨4, 0⟩])
        (fun s => s.each cs (putSetpoint t)) s

/-- HOLD (R54). -/
def takeHold (f : RxFrame) (s : State) : State :=
  let asked := charAt f.payload 3
  match selected s f with
  | none => refuse f .badArg s
  | some cs =>
    if asked = 0 then refuse f .badArg s
    else
      let minutes := min asked s.loader.image.holdMax
      let takers := cs.filter fun c => (s.chans.get c).state.inService
      if takers = [] then refuse f .wrongState s
      else
        reply f (if asked ≤ s.loader.image.holdMax then .ok else .clamped) (oneChar minutes)
          (fun s => s.each takers (holdChan (s.now + seconds (60 * minutes)))) s

/-- RELEASE (R55). -/
def takeRelease (f : RxFrame) (s : State) : State :=
  match selected s f with
  | none => refuse f .badArg s
  | some cs =>
    let held := cs.filter fun c => decide ((s.chans.get c).state = .hold)
    reply f .ok (oneChar (maskOf held)) (fun s => s.each held startChoice) s

/-- The trial follows a trip by OVERCURRENT or HEATER_OPEN that a RESET_TRIP ends (R184). -/
def trialFollows (s : State) (c : Chan) : Bool := ((s.fault.tripCause.get c).map FaultKind.endsWithTrip).getD false

/-- A channel cleared by RESET_TRIP: its trip ended or its lock removed (R184, R185). -/
def clearChan (c : Chan) (s : State) : State :=
  if (s.chans.get c).state = .locked then unlockChan c s else endTrip (trialFollows s c) c s

/-- The channels cleared, and the earth-leakage lock ended with the last lock list that held it (R186). -/
def clearChans (cs : List Chan) (s : State) : State :=
  let t := s.each cs clearChan
  if s.earthLock && !t.earthLock then endEarthLock t else t

/-- RESET_TRIP (R56). -/
def takeResetTrip (f : RxFrame) (s : State) : State :=
  match selected s f with
  | none => refuse f .badArg s
  | some cs =>
    let out := cs.filter fun c => !(s.chans.get c).state.inService
    let cleared := out.filter (causesAbsent s)
    let refused := out.filter fun c => !causesAbsent s c
    reply f (if refused = [] then .ok else .causePresent) (oneChar (16 * maskOf refused + maskOf cleared)) (clearChans cleared) s

/-- A deferred command enters IN_FLIGHT (R48). -/
def putInFlight (name : Deferred) (f : RxFrame) (s : State) : State :=
  { s with cmd := .inFlight name f.c1 (reqNo f) (answerDue s.loader.image f) }

/-- LEAK_TEST (R57). -/
def takeLeakTest (f : RxFrame) (s : State) : State :=
  if s.mainsIsLost then refuse f .wrongState s
  else reply f .deferred [] (fun s => startLeakTest (putInFlight .leakTest f s)) s

/-- A MEASURE request WAITING for the next round (R99). -/
def startMeasure (s : State) : State := { s with meas := { s.meas with measure := .waiting } }

/-- MEASURE (R58). -/
def takeMeasure (f : RxFrame) (s : State) : State :=
  reply f .deferred [] (fun s => startMeasure (putInFlight .measure f s)) s

/-- The listen interval or a slot-choice interval started from its full length (R59, R123). -/
def startReslot (s : State) : State :=
  let due := some (s.now + seconds s.loader.image.listen)
  if s.station.state = .listening then { s with station := { s.station with listenTimer := due } }
  else { s with burst := { s.burst with slotTimer := due } }

/-- RESLOT (R59). -/
def takeReslot (f : RxFrame) (s : State) : State := reply f .ok [] startReslot s

/-- STOP_STATION (R60). -/
def takeStopStation (f : RxFrame) (s : State) : State := reply f .ok [] (occur ⟨.operatorStop, none, none⟩) s

/-- The head record removed (R193). -/
def popFault (s : State) : State := { s with fault := { s.fault with queue := s.fault.queue.tail } }

/-- A fault record's 80 bits (R213). -/
def recordChars (r : FaultRecord) : List Byte :=
  packChars [⟨5, r.kind.code⟩, ⟨3, chanField r.chan⟩, ⟨2, r.cls.code⟩, ⟨1, flag r.trial⟩, ⟨8, r.count⟩, ⟨12, tempField r.value⟩,
    ⟨24, r.first⟩, ⟨24, r.latest⟩, ⟨1, 0⟩]

/-- FAULT_POP (R61). -/
def takeFaultPop (f : RxFrame) (s : State) : State :=
  match s.fault.queue with
  | [] => answerOnly f .empty [] s
  | r :: _ => reply f .ok (recordChars r) popFault s

/-! ## RESTART (R15, R16) -/

/-- The line controller's restart values (R17). -/
def Line.restart (l : Line) : Line :=
  { l with asm := [], left := 0, stamp := none, slot := none, queue := if l.busy then l.queue.take 1 else [], hold := none,
           discardOnLoss := l.busy, lineErr := false, overrun := false, errAgain := false, overrunAgain := false,
           reportTimer := none, lastQ := 0 }

/-- A channel record's restart values (R141). -/
def Channel.restart (ch : Channel) : Channel :=
  { ch with state := if ch.state = .locked then .locked else .off, ramp := none, acc := 0, d := 0, ds := 0, ctlTemp := none,
            ctlSrc := .none, holdExpiry := none, reclose := none, trial := none, clean := none }

/-- The burst timer's restart values: the slot, the contactor drive and the time of the last edge stand (R109). -/
def Burst.restart (b : Burst) : Burst := { Burst.powerOn with lastEdge := b.lastEdge, slot := b.slot, contactor := b.contactor }

/-- The sequencer's restart values; a conversion in progress ends and its result is discarded (R86). -/
def Meas.restart (m : Meas) (iNom : Four Nat) : Meas :=
  { Meas.powerOn iNom with conv := m.conv.map fun cv => { cv with fate := .abandoned } }

/-- A condition that a RESTART keeps (R172). -/
def Cond.kept (x : Cond) : Bool := decide (x.kind = .earthLeakage ∨ x.kind = .leakTestFail)

/-- The fault unit's restart values (R172). -/
def FaultUnit.restart (u : FaultUnit) : FaultUnit :=
  { FaultUnit.powerOn with conds := u.conds.filter Cond.kept, locks := u.locks, queue := u.queue }

/-- The halt unit's restart values: the record's contents stay, its valid flag is cleared (R198). -/
def Halt.restart (h : Halt) : Halt := { Halt.powerOn with record := { h.record with valid := false } }

/-- The peer table's restart values: entries kept, phase differences cleared, flow status UNKNOWN (R16, R80, R81, R83). -/
def PeerTable.restart (p : PeerTable) (flowEnabled : Bool) : PeerTable :=
  ⟨p.entries.map fun q => { q with delta := none }, none, .unknown, .unknown, flowEnabled⟩

/-- What a RESTART sets and clears before the entry to LISTENING (R16). -/
def restartBlocks (s : State) : State :=
  { s with
    station := ⟨s.station.state, false, none, none, s.now⟩
    line := s.line.restart
    cmd := .empty
    peers := s.peers.restart s.loader.image.flowEnabled
    meas := s.meas.restart s.loader.image.iNom
    burst := s.burst.restart
    budget := ⟨0, 0, 0, 0, 0⟩
    chans := s.chans.map .restart
    fault := s.fault.restart
    halt := s.halt.restart }

/-- RESTART (R15, R16): the answer, when due, goes into the emptied queue ahead of the REPORT of the entry to LISTENING (log 12). -/
def takeRestart (f : RxFrame) (s : State) : State :=
  let s := restartBlocks s
  enterListening
    (if answerDue s.loader.image f then { s with line := s.line.append (.answer (answerTo f .ok [])) } else s)

/-! ## Queries -/

/-- Whole minutes left of a hold, rounded up (R62). -/
def holdMinutes (s : State) (ch : Channel) : Nat :=
  match ch.state, ch.holdExpiry with
  | .hold, some t => ceilDiv (t - s.now) (seconds 60)
  | _, _ => 0

/-- The 9 result characters of READ_CHANNEL (R62, R213). -/
def channelChars (s : State) (c : Chan) : List Byte :=
  let ch := s.chans.get c
  packChars [⟨3, ch.state.code⟩, ⟨3, (shownTemp s c).2.code⟩, ⟨2, ch.trips⟩, ⟨12, tempField (shownTemp s c).1⟩,
    ⟨12, tempField (some ch.tSet)⟩, ⟨11, ch.d⟩, ⟨11, ch.ds⟩, ⟨10, (s.meas.chans.get c).iEff⟩, ⟨8, holdMinutes s ch⟩]

/-- The channel a number names. -/
def chanOf : Nat → Option Chan
  | 0 => some .c0
  | 1 => some .c1
  | 2 => some .c2
  | 3 => some .c3
  | _ => none

/-- READ_CHANNEL (R62). -/
def takeReadChannel (f : RxFrame) (s : State) : State :=
  match chanOf (charAt f.payload 2) with
  | some c => if s.enabled c then answerOnly f .ok (channelChars s c) s else refuse f .badArg s
  | none => refuse f .badArg s

/-- The 10 result characters of READ_STATION (R63, R213). -/
def stationChars (s : State) : List Byte :=
  packChars [⟨3, s.station.state.code⟩, ⟨1, 0⟩, ⟨1, flag s.loader.clamped⟩, ⟨1, flag s.line.lineErr⟩, ⟨1, flag s.line.overrun⟩,
    ⟨1, flag s.mainsIsLost⟩, ⟨12, s.budget.u⟩, ⟨16, min s.budget.s 65535⟩, ⟨12, s.budget.a⟩, ⟨11, s.budget.k⟩, ⟨3, s.burst.slot⟩,
    ⟨6, s.phase⟩, ⟨2, s.peers.flow.code⟩, ⟨1, flag s.peers.ownInput⟩, ⟨3, s.highestLevel⟩, ⟨6, 0⟩]

/-- READ_STATION (R63). -/
def takeReadStation (f : RxFrame) (s : State) : State := answerOnly f .ok (stationChars s) s

/-- Part 0 of the halt record (R64, R213). -/
def haltChars (r : HaltRecord) : List Byte :=
  packChars [⟨1, flag r.valid⟩, ⟨4, haltCauseCode r.first⟩, ⟨4, haltCauseCode r.second⟩, ⟨24, r.uptime⟩, ⟨12, r.qs⟩, ⟨12, r.a⟩,
    ⟨7, 0⟩]

/-- A channel's part of the halt record (R64, R213). -/
def haltChanChars (x : HaltChan) : List Byte :=
  packChars [⟨3, x.state.code⟩, ⟨12, tempField x.temp⟩, ⟨11, x.d⟩, ⟨11, x.ds⟩, ⟨3, 0⟩]

/-- A part of the halt record, none for a part number above 4 (R64). -/
def haltPart (r : HaltRecord) : Nat → Option (List Byte)
  | 0 => some (haltChars r)
  | n + 1 => (chanOf n).map fun c => haltChanChars (r.chans.get c)

/-- READ_HALT (R64). -/
def takeReadHalt (f : RxFrame) (s : State) : State :=
  match haltPart s.halt.record (charAt f.payload 2) with
  | some cs => answerOnly f .ok cs s
  | none => refuse f .badArg s

/-- Whole seconds since the last frame, at most 30 R_int (R76, R213; log 32). -/
def peerSeconds (s : State) (p : Peer) : Nat := min ((s.now - p.last) / 1000000) (30 * s.loader.image.rInt)

/-- A phase difference's value field. -/
def deltaField (d : Option Nat) : Nat := d.getD 0

/-- A part of a peer entry, none for a part number above 1 (R65, R213). -/
def peerPart (s : State) (p : Peer) : Nat → Option (List Byte)
  | 0 => some (packChars [⟨8, p.id⟩, ⟨12, p.position⟩, ⟨3, p.feeder⟩, ⟨4, p.weight⟩, ⟨3, p.state.code⟩, ⟨2, p.flow.code⟩,
      ⟨1, flag p.ownInput⟩, ⟨3, p.level⟩, ⟨3, p.slot⟩, ⟨2, p.age.code⟩, ⟨9, peerSeconds s p⟩, ⟨6, 0⟩])
  | 1 => some (packChars [⟨8, p.id⟩, ⟨12, p.q⟩, ⟨12, p.a⟩, ⟨12, tempField p.entry⟩, ⟨12, tempField p.exit⟩,
      ⟨1, flag p.delta.isSome⟩, ⟨6, deltaField p.delta⟩, ⟨1, 0⟩])
  | _ => none

/-- READ_PEER (R65). -/
def takeReadPeer (f : RxFrame) (s : State) : State :=
  let index := charAt f.payload 2
  let part := charAt f.payload 3
  if 15 < index ∨ 1 < part then refuse f .badArg s
  else
    match s.peers.entries[index]? with
    | none => answerOnly f .empty [] s
    | some p => answerOnly f .ok ((peerPart s p part).getD []) s

/-- READ_FAULT_HEAD (R66). -/
def takeReadFaultHead (f : RxFrame) (s : State) : State :=
  match s.fault.queue with
  | [] => answerOnly f .empty [] s
  | r :: _ => answerOnly f .ok (recordChars r) s

/-- The 7 result characters of READ_IDENT (R67, R213). -/
def identChars (s : State) : List Byte :=
  packChars [⟨8, 0x3A⟩, ⟨8, 0x01⟩, ⟨16, s.loader.crc.toNat⟩, ⟨8, s.loader.image.id⟩, ⟨12, s.loader.image.position⟩,
    ⟨3, s.loader.image.feeder⟩, ⟨1, flag s.loader.clamped⟩]

/-- READ_IDENT (R67). -/
def takeReadIdent (f : RxFrame) (s : State) : State := answerOnly f .ok (identChars s) s

/-! ## Taking a frame (R46) -/

/-- A COMMAND frame, the other frames of the command unit being QUERIES. -/
def isCommand (f : RxFrame) : Bool := decide (kindOf f.c0 = kindCommand)

/-- The sender may command this station (R43). -/
def permitted (img : Image) (f : RxFrame) : Bool := decide (img.cmdLo ≤ f.c1.toNat ∧ f.c1.toNat ≤ img.cmdHi)

/-- A deferred command is in flight (R44). -/
def CmdState.flying : CmdState → Bool
  | .inFlight _ _ _ _ => true
  | _ => false

/-- The unit's input is occupied (R44). -/
def CmdState.occupied : CmdState → Bool
  | .held _ => true
  | _ => false

/-- A request is allowed in a station state (R51). -/
def allowed (r : Request) (st : StationState) : Bool :=
  match r with
  | .restart => st.serves || decide (st = .halted)
  | .leakTest => st.fires
  | r => decide (r.kind = kindQuery) || st.serves

/-- The request carried out by its own rule (R46 steps 6 and 7). -/
def carryOut (r : Request) (f : RxFrame) (s : State) : State :=
  match r with
  | .setPoint => takeSetPoint f s
  | .hold => takeHold f s
  | .release => takeRelease f s
  | .resetTrip => takeResetTrip f s
  | .leakTest => takeLeakTest f s
  | .measure => takeMeasure f s
  | .reslot => takeReslot f s
  | .stopStation => takeStopStation f s
  | .restart => takeRestart f s
  | .faultPop => takeFaultPop f s
  | .readChannel => takeReadChannel f s
  | .readStation => takeReadStation f s
  | .readHalt => takeReadHalt f s
  | .readPeer => takeReadPeer f s
  | .readFaultHead => takeReadFaultHead f s
  | .readIdent => takeReadIdent f s

/-- A frame taken by the command unit: the first check of R46 that applies. -/
def takeRequest (f : RxFrame) (s : State) : State :=
  if f.payload.length < 2 then s
  else if isCommand f && !permitted s.loader.image f then refuse f .notPermitted s
  else
    match requestOf f with
    | none => refuse f .badArg s
    | some r =>
      if isCommand f && decide (r ≠ .restart) && s.cmd.flying then refuse f .busy s
      else if !allowed r s.station.state then refuse f .wrongState s
      else carryOut r f s

/-- A COMMAND with the code character of RESTART: taken while the unit holds a completion (R45). -/
def isRestart (f : RxFrame) : Bool := isCommand f && decide (2 ≤ f.payload.length ∧ charAt f.payload 0 = 0x19)

/-- A request enters the completed-frame slot and is taken at that event, or waits there (R28, R45). -/
def dispatchRequest (f : RxFrame) (s : State) : State :=
  if s.cmd.occupied && !isRestart f then { s with line := { s.line with slot := some f } } else takeRequest f s

/-- The unit's input is free again: the frame that waits in the slot is taken (R45). -/
def takeSlot (s : State) : State :=
  match s.line.slot with
  | some f => if s.cmd.occupied then s else takeRequest f { s with line := { s.line with slot := none } }
  | none => s

end Sys2Proof.Machine
end

