-- ==== Sys2Proof/Machine/Receive.lean ====
section
/-! DEFINITION. What a received frame does: the end of a frame and what it was (R27, R28), the mute flag (R13, R14), the peer
table's taking of REPORTs and FAULT_NOTICEs and what it tells the station state machine (R70 to R75, R79, R84). -/

namespace Sys2Proof.Machine

/-! ## Frame ends (R27, R28) -/

/-- What the end of a kept frame turns out to be. -/
inductive FrameEnd where
  | badCrc | own | lost | report | notice | answer | short | badCode
  | request (r : Request)
deriving DecidableEq, Repr

/-- The kind of request a completed COMMAND or QUERY is (R46 steps 1 and 3). -/
def requestEnd (f : RxFrame) : FrameEnd :=
  if f.payload.length < 2 then .short
  else
    match requestOf f with
    | some r => .request r
    | none => .badCode

/-- What a frame with a good CRC is once it is placed in the slot (R28). -/
def dispatchEnd (f : RxFrame) : FrameEnd :=
  if kindOf f.c0 = kindReport then .report
  else if kindOf f.c0 = kindNotice then .notice
  else if kindOf f.c0 = kindAnswer then .answer
  else requestEnd f

/-- The frame assembled from C0, C1, C2 and the characters after them. -/
def assembled (c0 c1 c2 : Byte) (stamp : Option Nat) (rest : List Byte) : RxFrame :=
  ⟨c0, c1, c2, rest.take (lenOf c0), stamp⟩

/-- The CRC characters received are those of the frame (R25). -/
def crcGood (f : RxFrame) (crc : List Byte) : Bool :=
  decide (crc = crcChars (crc16 (f.c0 :: f.c1 :: f.c2 :: f.payload)))

/-- R27, R32: bad CRC, the own frame that the station is sending to its end (log 9), lost because the slot is occupied, or
dispatched. -/
def endOf (s : State) (f : RxFrame) (crc : List Byte) : FrameEnd :=
  if !crcGood f crc then .badCrc else if s.line.busy then .own else if s.line.slot.isSome then .lost else dispatchEnd f

/-- The frame of an assembly with the length that C0 fixes, and its two CRC characters (R23). -/
def wholeFrame (asm : List Byte) (stamp : Option Nat) : Option (RxFrame × List Byte) :=
  match asm with
  | c0 :: c1 :: c2 :: rest =>
    if rest.length = lenOf c0 + 2 then some (assembled c0 c1 c2 stamp rest, rest.drop (lenOf c0)) else none
  | _ => none

/-- The receiver examines characters: a frame is assembled or skipped, the own frame that the station is sending too (R21, R26,
R30). -/
def Line.examines (l : Line) : Bool := decide (l.rx = .assemble ∨ l.rx = .skip)

/-- The kept frame that has ended: a frame is being assembled and its last character has come (R23, R26). -/
def frameEnding (s : State) : Option (RxFrame × List Byte) :=
  if s.active && decide (s.line.rx = .assemble ∧ s.line.left = 0) then wholeFrame s.line.asm s.line.stamp else none

/-- The receiver after the end of a frame or a discard: AWAIT_IDLE with nothing assembled (R22). -/
def Line.dropFrame (l : Line) : Line := { l with rx := .awaitIdle, asm := [], left := 0, stamp := none }

/-- The line-error flag set (R40). -/
def lineError (s : State) : State := { s with line := s.line.setErr }

/-- The end of a kept frame that turns out to be `want`: the receiver enters AWAIT_IDLE and the frame has its effect. -/
def frameEvent (dt : Nat) (wave : List Bool) (want : FrameEnd) (act : RxFrame → State → State) (s : State) : State :=
  let s := s.hear dt wave
  match frameEnding s with
  | some (f, crc) => if endOf s f crc = want then act f { s with line := s.line.dropFrame } else s
  | none => s

/-! ## The mute flag (R13, R14) -/

/-- The line controller at the setting of the mute flag: a transmission aborted, queue and hold emptied (R14). -/
def Line.silence (l : Line) : Line :=
  { (if l.busy then l.dropFrame else l) with tx := .idle, txChars := [], discardOnLoss := false, queue := [], hold := none }

/-- A held completion is discarded at the setting of the mute flag (R44). -/
def CmdState.silenced : CmdState → CmdState
  | .held _ => .empty
  | c => c

/-- The mute flag set: the placed, pending and awaiting notices count as sent, and a frame that waits behind a held completion is
taken (R14, R44, R197). -/
def setMute (s : State) : State :=
  if s.station.mute then s
  else
    let t := { s with station := { s.station with mute := true }, line := s.line.silence, cmd := s.cmd.silenced,
                      fault := { s.fault with awaiting := [], placed := none, pendingNotice := none } }
    if s.cmd.occupied then takeSlot t else t

/-- A duplicate-id detection: the mute flag is set, then DUPLICATE_ID is raised (R84). -/
def duplicateId (s : State) : State := occur ⟨.duplicateId, none, none⟩ (setMute s)

/-! ## Telling the station state machine (R79) -/

/-- The isolation timer starts from zero in RUNNING with N_f > 1 (R11). -/
def startIsolation (s : State) : State :=
  if s.station.state = .running ∧ 1 < s.loader.image.nf then
    { s with station := { s.station with isolationTimer := some (s.now + seconds (10 * s.loader.image.rInt)) } }
  else s

/-- The isolation timer stops (R11). -/
def stopIsolation (s : State) : State := { s with station := { s.station with isolationTimer := none } }

/-- A new table; the last same-feeder entry in FRESH or STALE may have left it (R11, R79). -/
def putEntries (l : List Peer) (s : State) : State :=
  let t := { s with peers := { s.peers with entries := l } }
  if liveSame s.loader.image s.peers.entries && !liveSame s.loader.image l then startIsolation t else t

/-- A same-feeder REPORT was admitted or updated an entry: the isolation timer stops, and ISOLATED ends (R11, R12). -/
def heardFeeder (s : State) : State :=
  let t := stopIsolation s
  if s.station.state = .isolated then reportInstant { t with station := { t.station with state := .running } } else t

/-! ## Taking a REPORT or FAULT_NOTICE (R70) -/

/-- The sender bears an id that no station may have (R70 step 2). -/
def strangeId (id : Nat) : Bool := decide (id = 0 ∨ 239 < id)

/-- The REPORT is a same-feeder admission: its station had no entry on the own feeder (R72, R74). -/
def admits (img : Image) (id : Nat) (old : List Peer) : Bool :=
  match findPeer id old with
  | some p => !onFeeder img p
  | none => true

/-- The table took a REPORT (R71, R72, R74, R75, R79; log 22). -/
def reportTaken (id : Nat) (f : ReportFields) (l : List Peer) (s : State) : State :=
  if f.feeder = s.loader.image.feeder then
    heardFeeder (putEntries l (if admits s.loader.image id s.peers.entries then s.clearCond .feederCrowded none else s))
  else putEntries l s

/-- A REPORT taken by the peer table (R70). -/
def peerReport (f : RxFrame) (s : State) : State :=
  let id := f.c1.toNat
  if id = s.loader.image.id then duplicateId s
  else if strangeId id then s
  else
    match readReport f.payload with
    | none => s
    | some r =>
      match takeReport s.loader.image s.now f.stamp id r s.peers.entries with
      | some l => reportTaken id r l s
      | none => if r.feeder = s.loader.image.feeder then occur ⟨.feederCrowded, none, none⟩ s else s

/-- A FAULT_NOTICE taken for an entry: on the own feeder it stops the isolation timer (R73, R79). -/
def noticeTaken (id : Nat) (f : NoticeFields) (p : Peer) (s : State) : State :=
  let t := { s with peers := { s.peers with entries := takeNotice s.now id f s.peers.entries } }
  if onFeeder s.loader.image p then stopIsolation t else t

/-- A FAULT_NOTICE taken by the peer table (R70). -/
def peerNotice (f : RxFrame) (s : State) : State :=
  let id := f.c1.toNat
  if id = s.loader.image.id then duplicateId s
  else if strangeId id then s
  else
    match readNotice f.payload, findPeer id s.peers.entries with
    | some n, some p => noticeTaken id n p s
    | _, _ => s

end Sys2Proof.Machine
end

