-- ==== Sys2Proof/Machine/Transmit.lean ====
section
/-! DEFINITION. The transmitter (chapter 2, sections 2.6 and 2.7): the start of a frame, its loss, and its completion. -/

namespace Sys2Proof.Machine

/-- The characters of a queued frame as its transmission starts; a REPORT takes its phase and flags here (R29, R39, R209, R210). -/
def outChars (s : State) : OutFrame → List Byte
  | .report c =>
    frameChars kindReport s.loader.image.id 255 (reportPayload s.loader.image c s.phase s.line.lineErr s.line.overrun)
  | .notice c => frameChars kindNotice s.loader.image.id 255 (noticePayload c)
  | .answer a => frameChars kindAnswer s.loader.image.id a.target (answerPayload a)

/-- The transmitter may start the frame at the head of the queue (R29). -/
def mayStart (s : State) : Bool :=
  s.active && !s.line.busy && !s.station.mute && decide (s.line.sampler.idle = idleFull)

/-- A start detected in READY: the character is the C0 of a new frame, with its own-phase stamp (R22, R26). -/
def Line.openFrame (l : Line) (phase : Option Nat) : Line := { l with rx := .assemble, asm := [], left := 1, stamp := phase }

/-- The own receiver at the first dominant sample of the own start bit (R18, R22, R26, R30; log 9). -/
def Line.hearOwnStart (l : Line) (phase : Option Nat) : Line :=
  if l.rx = .ready then (l.sample true).openFrame phase else l.sample true

/-- The head frame is on the line from a time on, its characters fixed (R29). -/
def Line.beginFrame (l : Line) (now : Nat) (chars : List Byte) : Line := { l with tx := .driving now, txChars := chars }

/-- A bit of a frame is sent ARBITRATING in C0 and C1, and SENDING from the start bit of C2 to the end (R17, R30). -/
def transmitPhase (bit : Nat) : TransmitState := if bit < 20 then .arbitrating else .sending

/-- The transmit state: it follows the bit times gone by since the frame's start (R17, R19, R30; log 9). -/
def State.transmitState (s : State) : TransmitState :=
  match s.line.tx with
  | .idle => .idle
  | .driving since => transmitPhase (bitsIn s.loader.image.bitRate (s.now - since))

/-- The placed notice is STARTED with its frame (R196). -/
def placedStarted (head : OutFrame) (p : Option Placed) : Option Placed :=
  if head.isNotice then p.map fun _ => .started else p

/-- The transmission of the head frame starts (R29, R33, R39). -/
def startHead (head : OutFrame) (s : State) : State :=
  let l := s.line.hearOwnStart s.phase?
  { s with line := (if head.isReport then l.sampleFlags else l).beginFrame s.now (outChars s head),
           fault := { s.fault with placed := placedStarted head s.fault.placed } }

/-- TRANSMIT_START's effect. -/
def transmitHead (s : State) : State :=
  match s.line.queue with
  | head :: _ => if mayStart s then startHead head s else s
  | [] => s

/-- The transmitter stops driving (R30, R31). -/
def Line.stopDriving (l : Line) : Line := { l with tx := .idle, txChars := [] }

/-- A lost REPORT takes the content of the report hold in place (R34). -/
def Line.rehold (l : Line) : Line :=
  match l.hold with
  | some c => { l with queue := replaceReport c l.queue, hold := none }
  | none => l

/-- A lost FAULT_NOTICE is QUEUED again; a pending notice replaces it and its occurrence waits (R35, R196, R197). -/
def requeueNotice (c : NoticeContent) (s : State) : State :=
  let t := { s with fault := { s.fault with placed := s.fault.placed.map fun _ => .queued } }
  match s.fault.pendingNotice with
  | some p => awaitNotice c.occ (offerNotice p t)
  | none => t

/-- A frame that a RESTART found in transmission is discarded when it is lost (R17; log 13). -/
def discardHead (s : State) : State :=
  placeFreed { s with line := { s.line with queue := s.line.queue.tail, discardOnLoss := false } }

/-- The head frame, no longer started, after a lost arbitration or a bit error (R33 to R35). -/
def unstartHead (s : State) : State :=
  match s.line.queue with
  | .report _ :: _ => { s with line := s.line.rehold }
  | .notice c :: _ => requeueNotice c s
  | _ => s

/-- A frame lost: the transmitter is IDLE and the frame waits again, or is discarded (R17, R30, R31). -/
def loseFrame (s : State) : State :=
  let discard := s.line.discardOnLoss
  let s := { s with line := s.line.stopDriving }
  if discard then discardHead s else unstartHead s

/-- Bit `i` of the frame in transmission is lost to another station: a recessive data bit of C0 or C1 read dominant (R30). -/
def losesAt (l : Line) (i : Nat) : Bool :=
  l.busy && decide (transmitPhase i = .arbitrating) && isDataBit i && !sentBit l.txChars i

/-- Bit `i` of the frame in transmission is a bit error: from C2 on any difference between the level sent and the level read (R31),
in C0 and C1 a dominant bit read recessive (R30; log 30). -/
def errsAt (l : Line) (i : Nat) (dominant : Bool) : Bool :=
  l.busy && decide (i < (frameBits l.txChars).length) && decide (sentBit l.txChars i ≠ dominant) &&
    (decide (transmitPhase i = .sending) || sentBit l.txChars i)

/-- What the completion of a frame does by its kind (R32). -/
def completedKind (head : OutFrame) (s : State) : State :=
  match head with
  | .report _ => { s with line := s.line.clearCarried }
  | .notice _ => if s.fault.placed.isSome then nextNotice s else s
  | .answer _ => s

/-- The completed frame leaves the queue; the own receiver drops what it assembled (R32). -/
def Line.popHead (l : Line) : Line :=
  { l.stopDriving.dropFrame with queue := l.queue.tail, discardOnLoss := false }

/-- TRANSMIT_COMPLETE's effect: the frame leaves, its kind has its effect, the freed place is filled, and a frame that waited
behind a held completion is taken (R32, R37, R45). -/
def completeHead (residual : Nat) (s : State) : State :=
  match s.line.queue with
  | head :: _ =>
    let t := placeFreed (completedKind head (({ s with line := s.line.popHead } : State).showResidual residual))
    if s.cmd.occupied then takeSlot t else t
  | [] => s

end Sys2Proof.Machine
end

