-- ==== Sys2Proof/Machine/SupplyEvents.lean ====
section
/-! DEFINITION. The meanings of the supply, configuration and station timer commands (chapter 1). An expiry whose timer does not
run, and an event that finds no block to take it, changes nothing but the time (log 2). -/

namespace Sys2Proof.Machine

/-- POWER_ON (R3). -/
def execPowerOn (s : State) : Host.Outcome State Fault Refusal := .next (powerUp s)

/-- SUPPLY_FAILURE (R3). -/
def execSupplyFailure (s : State) : Host.Outcome State Fault Refusal := .next (powerDown s)

/-- CONFIG_READ_COMPLETE (R5); bytes that are not the 98 of R4 are no such event (log 26). -/
def execConfigReadComplete (dt : Nat) (bytes : List Byte) (s : State) : Host.Outcome State Fault Refusal :=
  if bytes.length = 98 then .next (if s.loading then loadImage bytes (s.advance dt) else s.advance dt)
  else .fault .imageLength

/-- CONFIG_PORT_REFUSAL (R4). -/
def execConfigPortRefusal (dt : Nat) (s : State) : Host.Outcome State Fault Refusal :=
  .next (if s.loading then failLoad (s.advance dt) else s.advance dt)

/-- The 250 ms of the port read run out (R4). -/
def readTimeout (s : State) : State :=
  match s.loader.timer with
  | some t => if s.loading then failLoad (s.reach t) else s
  | none => s

/-- CONFIG_READ_TIMEOUT (R4). -/
def execConfigReadTimeout (s : State) : Host.Outcome State Fault Refusal := .next (readTimeout s)

/-- The isolation timer on entry to RUNNING (R11). -/
def setIsolation (s : State) : State :=
  if liveSame s.loader.image s.peers.entries then stopIsolation s else startIsolation s

/-- The entry to RUNNING at the end of the listen interval (R10). -/
def enterRunning (s : State) : State :=
  let s := makeSlotChoice s
  let s := { s with station := { s.station with state := .running, listenTimer := none } }
  reportInstant (setIsolation (startOffChannels s))

/-- The listen interval ends in LISTENING (R10). -/
def listenEnds (s : State) : State :=
  match s.station.listenTimer with
  | some t => if s.station.state = .listening then enterRunning (s.reach t) else s
  | none => s

/-- LISTEN_INTERVAL_EXPIRY (R10). -/
def execListenIntervalExpiry (s : State) : Host.Outcome State Fault Refusal := .next (listenEnds s)

/-- The station enters ISOLATED (R11). -/
def enterIsolated (s : State) : State :=
  reportInstant { s with station := { s.station with state := .isolated, isolationTimer := none } }

/-- The isolation timer ends in RUNNING (R11). -/
def isolationEnds (s : State) : State :=
  match s.station.isolationTimer with
  | some t => if s.station.state = .running then enterIsolated (s.reach t) else s
  | none => s

/-- ISOLATION_TIMEOUT_EXPIRY (R11). -/
def execIsolationTimeoutExpiry (s : State) : Host.Outcome State Fault Refusal := .next (isolationEnds s)

end Sys2Proof.Machine
end

