-- ==== Sys2Proof/Machine/LineEvents.lean ====
section
/-! DEFINITION. The meanings of the line controller's commands (chapter 2): idle, starts, characters, frame ends that dispatch
nothing, and the transmitter. Each line event first takes the samples of its wave. -/

namespace Sys2Proof.Machine

/-- The receiver as the line becomes idle: a frame in assembly or skipped is truncated (R22, R23). -/
def Line.becomeIdle (l : Line) : Line :=
  match l.rx with
  | .awaitIdle => { l with rx := .ready }
  | .ready => l
  | .assemble => { l.setErr with rx := .ready, asm := [], left := 0, stamp := none }
  | .skip => { l.setErr with rx := .ready, asm := [], left := 0, stamp := none }

/-- The idle count stands at 192; a frame in transmission never shows it (R19, R22). -/
def lineIdle (s : State) : State :=
  if s.active && !s.line.busy && decide (s.line.sampler.idle = idleFull) then { s with line := s.line.becomeIdle } else s

/-- LINE_IDLE (R22). -/
def execLineIdle (e : LineIn) (s : State) : Host.Outcome State Fault Refusal :=
  .next (lineIdle (s.hear e.dt e.wave))

/-- A start detected in READY: the own phase is captured. A start that comes in AWAIT_IDLE, with the idle count short of 192, begins
no frame (R20, R22, R26; log 47). -/
def frameStart (s : State) : State :=
  if s.active && !s.line.busy && decide (s.line.rx = .ready ∧ s.line.sampler.heard = .start) then
    { s with line := s.line.openFrame s.phase? }
  else s

/-- FRAME_START (R26). -/
def execFrameStart (e : LineIn) (s : State) : Host.Outcome State Fault Refusal :=
  .next (frameStart (s.hear e.dt e.wave))

/-- The receiver stands before a decision in ASSEMBLE: the characters it waited for have come. -/
def Line.decides (l : Line) : Bool := decide (l.rx = .assemble ∧ l.left = 0)

/-- A C0 of a kind that R24 names with a length of at most 12. -/
def c0Good (c0 : Byte) : Bool := kindKnown (kindOf c0) && decide (lenOf c0 ≤ 12)

/-- C0 is complete: an unknown kind or a length above 12 discards the frame, with no flag set; else C1 and C2 are awaited (R24). -/
def checkC0 (s : State) : State :=
  match s.line.asm with
  | [c0] =>
    if s.active && s.line.decides then
      { s with line := if c0Good c0 then { s.line with left := 2 } else s.line.dropFrame }
    else s
  | _ => s

/-- FRAME_C0_CHECK (R24). -/
def execFrameC0Check (dt : Nat) (wave : List Bool) (s : State) : Host.Outcome State Fault Refusal :=
  .next (checkC0 (s.hear dt wave))

/-- The pre-filter keeps a frame (R26). -/
def prefilterKeeps (img : Image) (c0 c2 : Byte) : Bool :=
  if kindOf c0 = kindReport ∨ kindOf c0 = kindNotice then true
  else if kindOf c0 = kindAnswer then decide (c2.toNat = img.id)
  else targetMatches img c2.toNat

/-- The receiver after the pre-filter: the frame is kept, or skipped to its end; its payload and CRC are awaited (R23, R26). -/
def Line.filtered (l : Line) (keep : Bool) (c0 : Byte) : Line :=
  if keep then { l with left := lenOf c0 + 2 } else { l with rx := .skip, asm := [], left := lenOf c0 + 2 }

/-- C2 is complete (R26). -/
def prefilter (s : State) : State :=
  match s.line.asm with
  | [c0, _, c2] =>
    if s.active && s.line.decides then { s with line := s.line.filtered (prefilterKeeps s.loader.image c0 c2) c0 }
    else s
  | _ => s

/-- FRAME_PREFILTER (R26). -/
def execFramePrefilter (dt : Nat) (wave1 wave2 : List Bool) (s : State) : Host.Outcome State Fault Refusal :=
  .next (prefilter (s.hear dt (wave1 ++ wave2)))

/-- A stop bit read dominant by its majority: the frame is discarded with the line-error flag set, in the own frame too, whose
transmission goes on (R20, R21; logs 9, 30). -/
def framingError (s : State) : State :=
  if s.active && s.line.examines && decide (s.line.sampler.heard = .framing) then
    { s with line := s.line.setErr.dropFrame }
  else s

/-- FRAMING_ERROR (R21). -/
def execFramingError (dt : Nat) (wave : List Bool) (s9 s10 : Bool) (s : State) : Host.Outcome State Fault Refusal :=
  .next (framingError (s.hear dt (wave ++ [s9, s10])))

/-- FRAME_BAD_CRC (R27). -/
def execFrameBadCrc (dt : Nat) (wave : List Bool) (s : State) : Host.Outcome State Fault Refusal :=
  .next (frameEvent dt wave .badCrc (fun _ => lineError) s)

/-- COMPLETED_FRAME_LOST (R27). -/
def execCompletedFrameLost (dt : Nat) (wave : List Bool) (s : State) : Host.Outcome State Fault Refusal :=
  .next (frameEvent dt wave .lost (fun _ => lineError) s)

/-- ANSWER (R28): discarded at dispatch. -/
def execAnswer (dt : Nat) (wave : List Bool) (s : State) : Host.Outcome State Fault Refusal :=
  .next (frameEvent dt wave .answer (fun _ => id) s)

/-- The end of a skipped frame: no CRC check (R26). -/
def skippedEnd (s : State) : State :=
  if s.active && decide (s.line.rx = .skip ∧ s.line.left = 0) then { s with line := s.line.dropFrame } else s

/-- SKIPPED_FRAME_END (R26). -/
def execSkippedFrameEnd (e : LineIn) (s : State) : Host.Outcome State Fault Refusal :=
  .next (skippedEnd (s.hear e.dt e.wave))

/-- TRANSMIT_START (R29). -/
def execTransmitStart (dt : Nat) (s : State) : Host.Outcome State Fault Refusal := .next (transmitHead (s.advance dt))

/-- Arbitration lost at a bit: the station goes on as a receiver of the winner's frame (R30). -/
def loseArbitration (bit : Nat) (s : State) : State :=
  if losesAt s.line bit then loseFrame s else s

/-- ARBITRATION_LOST (R30). -/
def execArbitrationLost (dt bit : Nat) (s : State) : Host.Outcome State Fault Refusal :=
  .next (loseArbitration bit (s.advance dt))

/-- A bit error in the own transmission: driving stops, the line-error flag is set, the receiver drops its frame (R31). -/
def takeBitError (bit : Nat) (dominant : Bool) (s : State) : State :=
  if errsAt s.line bit dominant then loseFrame { s with line := s.line.setErr.dropFrame } else s

/-- BIT_ERROR (R31). -/
def execBitError (dt bit : Nat) (dominant : Bool) (s : State) : Host.Outcome State Fault Refusal :=
  .next (takeBitError bit dominant (s.advance dt))

/-- The last stop bit of the own frame has been sent (R32). -/
def transmitEnds (residual : Nat) (s : State) : State := if s.line.busy then completeHead residual s else s

/-- TRANSMIT_COMPLETE (R32). -/
def execTransmitComplete (dt residual : Nat) (s : State) : Host.Outcome State Fault Refusal :=
  .next (transmitEnds residual (s.advance dt))

/-- The report timer expires (R38). -/
def reportDue (s : State) : State :=
  match s.line.reportTimer with
  | some t => reportInstant (s.reach t)
  | none => s

/-- REPORT_TIMER_EXPIRY (R38). -/
def execReportTimerExpiry (s : State) : Host.Outcome State Fault Refusal := .next (reportDue s)

end Sys2Proof.Machine
end

