-- ==== Sys2Proof/Machine/PeerEvents.lean ====
section
/-! DEFINITION. The meanings of the peer table's commands (chapter 4): REPORT, FAULT_NOTICE, ageing and the flow input. -/

namespace Sys2Proof.Machine

/-- REPORT (R70). -/
def execReport (dt : Nat) (wave : List Bool) (s : State) : Host.Outcome State Fault Refusal :=
  .next (frameEvent dt wave .report peerReport s)

/-- FAULT_NOTICE (R73). -/
def execFaultNotice (dt : Nat) (wave : List Bool) (s : State) : Host.Outcome State Fault Refusal :=
  .next (frameEvent dt wave .notice peerNotice s)

/-- The time of an expiry `n` report intervals after an entry's last frame (R76). -/
def ageTime (s : State) (n : Nat) (p : Peer) : Nat := p.last + seconds (n * s.loader.image.rInt)

/-- FRESH becomes STALE (R76). -/
def staleEnds (id : Nat) (s : State) : State :=
  match findPeer id s.peers.entries with
  | some p =>
    if p.age = .fresh then putEntries (modPeer id (fun q => { q with age := .stale }) s.peers.entries) (s.reach (ageTime s 3 p))
    else s
  | none => s

/-- STALE_EXPIRY (R76). -/
def execStaleExpiry (id : Nat) (s : State) : Host.Outcome State Fault Refusal := .next (staleEnds id s)

/-- STALE becomes LOST (R76, R79). -/
def lostEnds (id : Nat) (s : State) : State :=
  match findPeer id s.peers.entries with
  | some p =>
    if p.age = .stale then putEntries (modPeer id (fun q => { q with age := .lost }) s.peers.entries) (s.reach (ageTime s 10 p))
    else s
  | none => s

/-- LOST_EXPIRY (R76). -/
def execLostExpiry (id : Nat) (s : State) : Host.Outcome State Fault Refusal := .next (lostEnds id s)

/-- An entry is removed (R77, R79). -/
def removalEnds (id : Nat) (s : State) : State :=
  match findPeer id s.peers.entries with
  | some p => putEntries (removePeer id s.peers.entries) (s.reach (ageTime s 30 p))
  | none => s

/-- REMOVAL_EXPIRY (R77). -/
def execRemovalExpiry (id : Nat) (s : State) : Host.Outcome State Fault Refusal := .next (removalEnds id s)

/-- The debounce counts from the present level again where the input is used (R80). -/
def restartDebounce (s : State) : State :=
  if s.active && s.loader.image.flowEnabled then { s with peers := { s.peers with flowTimer := some (s.now + seconds 2) } } else s

/-- The pin FS has a level: a change of it restarts the 2 s count (R80; log 33). -/
def flowInput (low : Bool) (s : State) : State :=
  if s.pins.fs = low then s else restartDebounce { s with pins := { s.pins with fs := low } }

/-- FLOW_INPUT_CHANGE (R80). -/
def execFlowInputChange (dt : Nat) (low : Bool) (s : State) : Host.Outcome State Fault Refusal :=
  .next (flowInput low (s.advance dt))

/-- The input has held its level for 2 s: FLOWING while active, STAGNANT while not (R80). -/
def flowSettles (s : State) : State :=
  match s.peers.flowTimer with
  | some t =>
    { s.reach t with peers := { s.peers with flowTimer := none, debounced := if s.pins.fs then .flowing else .stagnant } }
  | none => s

/-- FLOW_DEBOUNCE_EXPIRY (R80). -/
def execFlowDebounceExpiry (s : State) : Host.Outcome State Fault Refusal := .next (flowSettles s)

end Sys2Proof.Machine
end

