-- ==== Sys2Proof/Machine/RequestEvents.lean ====
section
/-! DEFINITION. The meanings of the request commands (chapter 3): each is the end of a COMMAND or QUERY frame that names this
station and is that request; the command unit takes it at once or it waits in the slot (R45). -/

namespace Sys2Proof.Machine

/-- The end of a request frame (R28, R45). -/
def requestEvent (dt : Nat) (wave : List Bool) (want : FrameEnd) (s : State) : State :=
  frameEvent dt wave want dispatchRequest s

/-- SHORT_REQUEST_DISCARD (R46 step 1). -/
def execShortRequestDiscard (dt : Nat) (wave : List Bool) (s : State) : Host.Outcome State Fault Refusal :=
  .next (requestEvent dt wave .short s)

/-- BAD_REQUEST_CODE (R46 step 3). -/
def execBadRequestCode (dt : Nat) (wave : List Bool) (s : State) : Host.Outcome State Fault Refusal :=
  .next (requestEvent dt wave .badCode s)

/-- SET_POINT (R53). -/
def execSetPoint (dt : Nat) (wave : List Bool) (s : State) : Host.Outcome State Fault Refusal :=
  .next (requestEvent dt wave (.request .setPoint) s)

/-- HOLD (R54). -/
def execHold (dt : Nat) (wave : List Bool) (s : State) : Host.Outcome State Fault Refusal :=
  .next (requestEvent dt wave (.request .hold) s)

/-- RELEASE (R55). -/
def execRelease (dt : Nat) (wave : List Bool) (s : State) : Host.Outcome State Fault Refusal :=
  .next (requestEvent dt wave (.request .release) s)

/-- RESET_TRIP (R56): the leakage comparator's present output is read at this event (R183). -/
def execResetTrip (dt residual : Nat) (wave : List Bool) (s : State) : Host.Outcome State Fault Refusal :=
  .next (requestEvent dt wave (.request .resetTrip) (s.showResidual residual))

/-- LEAK_TEST (R57). -/
def execLeakTest (dt : Nat) (wave : List Bool) (s : State) : Host.Outcome State Fault Refusal :=
  .next (requestEvent dt wave (.request .leakTest) s)

/-- MEASURE (R58). -/
def execMeasure (dt : Nat) (wave : List Bool) (s : State) : Host.Outcome State Fault Refusal :=
  .next (requestEvent dt wave (.request .measure) s)

/-- RESLOT (R59). -/
def execReslot (dt : Nat) (wave : List Bool) (s : State) : Host.Outcome State Fault Refusal :=
  .next (requestEvent dt wave (.request .reslot) s)

/-- STOP_STATION (R60). -/
def execStopStation (dt : Nat) (wave : List Bool) (s : State) : Host.Outcome State Fault Refusal :=
  .next (requestEvent dt wave (.request .stopStation) s)

/-- RESTART (R16). -/
def execRestart (dt : Nat) (wave : List Bool) (s : State) : Host.Outcome State Fault Refusal :=
  .next (requestEvent dt wave (.request .restart) s)

/-- FAULT_POP (R61). -/
def execFaultPop (dt : Nat) (wave : List Bool) (s : State) : Host.Outcome State Fault Refusal :=
  .next (requestEvent dt wave (.request .faultPop) s)

/-- READ_CHANNEL (R62). -/
def execReadChannel (dt : Nat) (wave : List Bool) (s : State) : Host.Outcome State Fault Refusal :=
  .next (requestEvent dt wave (.request .readChannel) s)

/-- READ_STATION (R63). -/
def execReadStation (dt : Nat) (wave : List Bool) (s : State) : Host.Outcome State Fault Refusal :=
  .next (requestEvent dt wave (.request .readStation) s)

/-- READ_HALT (R64). -/
def execReadHalt (dt : Nat) (wave : List Bool) (s : State) : Host.Outcome State Fault Refusal :=
  .next (requestEvent dt wave (.request .readHalt) s)

/-- READ_PEER (R65). -/
def execReadPeer (dt : Nat) (wave : List Bool) (s : State) : Host.Outcome State Fault Refusal :=
  .next (requestEvent dt wave (.request .readPeer) s)

/-- READ_FAULT_HEAD (R66). -/
def execReadFaultHead (dt : Nat) (wave : List Bool) (s : State) : Host.Outcome State Fault Refusal :=
  .next (requestEvent dt wave (.request .readFaultHead) s)

/-- READ_IDENT (R67). -/
def execReadIdent (dt : Nat) (wave : List Bool) (s : State) : Host.Outcome State Fault Refusal :=
  .next (requestEvent dt wave (.request .readIdent) s)

end Sys2Proof.Machine
end

