-- ==== Sys2Proof/Machine/MeasureEvents.lean ====
section
/-! DEFINITION. The meanings of the measurement sequencer's commands (chapter 5). -/

namespace Sys2Proof.Machine

/-- The round timer expires: its 500 ms period goes on and a round begins if none is in progress (R89). -/
def roundTick (s : State) : State :=
  match s.meas.roundTimer with
  | some t => beginRound ({ s with meas := { s.meas with roundTimer := some (t + 500000) } }.reach t)
  | none => s

/-- ROUND_TIMER_EXPIRY (R89). -/
def execRoundTimerExpiry (s : State) : Host.Outcome State Fault Refusal := .next (roundTick s)

/-- The conversion in progress ends (R88). -/
def conversionEnds (raw : Word16) (s : State) : State :=
  match s.meas.conv with
  | some cv => endConversion cv raw.toNat (s.reach cv.ends)
  | none => s

/-- CONVERSION_END (R88). -/
def execConversionEnd (raw : Word16) (s : State) : Host.Outcome State Fault Refusal := .next (conversionEnds raw s)

/-- The conversion in progress is the kept conversion of AMB (R90). -/
def endsRound (cv : Conversion) : Bool := decide (cv.sample = .reading .ambient ∧ cv.kept = true ∧ cv.fate = .live)

/-- The kept conversion of AMB ends the round (R90). -/
def roundEnds (raw : Word16) (s : State) : State :=
  match s.meas.conv with
  | some cv => if endsRound cv then endConversion cv raw.toNat (s.reach cv.ends) else s
  | none => s

/-- ROUND_COMPLETE (R90). -/
def execRoundComplete (raw : Word16) (s : State) : Host.Outcome State Fault Refusal := .next (roundEnds raw s)

/-- The state of a sensor. -/
def State.sensor (s : State) : Sensor → SensorState
  | .wall c => s.meas.wall.get c
  | .ambient => s.meas.amb

/-- The age limit of an accepted temperature: 5 s (R95). -/
def ageLimit (a : Accepted) : Nat := a.since + seconds 5

/-- A sensor at the age expiry of values accepted at `since` (R91, R95). -/
def SensorState.ageOut (x : SensorState) (since : Nat) : SensorState :=
  match x.accepted with
  | some a => if a.since = since then { x with accepted := none, valid := 0 } else x
  | none => x

/-- The age expiry: every value accepted at the same event becomes invalid (R91, R95). -/
def ageExpires (sensor : Sensor) (s : State) : State :=
  match (s.sensor sensor).accepted with
  | some a =>
    { s.reach (ageLimit a) with
      meas := { s.meas with wall := s.meas.wall.map fun x => x.ageOut a.since, amb := s.meas.amb.ageOut a.since } }
  | none => s

/-- TEMPERATURE_AGE_EXPIRY (R95). -/
def execTemperatureAgeExpiry (sensor : Sensor) (s : State) : Host.Outcome State Fault Refusal := .next (ageExpires sensor s)

/-- The mid-point of the half-cycle: the current requests are made, and a first sample started, before the comparator is sampled
(R100, R106; log 41). -/
def midpoint (residual : Nat) (s : State) : State :=
  match s.meas.midpoint with
  | some t =>
    sampleLeakage (midRequests ({ s with meas := { s.meas with midpoint := none } }.showResidual residual |>.reach t))
  | none => s

/-- HALF_CYCLE_MIDPOINT (R100). -/
def execHalfCycleMidpoint (residual : Nat) (s : State) : Host.Outcome State Fault Refusal := .next (midpoint residual s)

/-- A dropped check sample is asked again: at the mid-point of the next half-cycle with mains present, else at once (R204). -/
def askAgain (c : Chan) (s : State) : State :=
  if s.halt.proc = .checking then
    if s.burst.period = .running then { s with halt := { s.halt with checks := s.halt.checks.set c .afterEdge } }
    else startRequested (askCrystal c s)
  else s

/-- A check request on the crystal time base was not started within 10 ms (R100). -/
def checkTimesOut (c : Chan) (s : State) : State :=
  match (s.meas.chans.get c).reqCheck with
  | .crystal t => askAgain c ((s.reach t).modMeas c fun m => { m with reqCheck := .none })
  | _ => s

/-- CHECK_REQUEST_TIMEOUT (R100). -/
def execCheckRequestTimeout (c : Chan) (s : State) : Host.Outcome State Fault Refusal := .next (checkTimesOut c s)

end Sys2Proof.Machine
end

