-- ==== Sys2Proof/Machine/BurstEvents.lean ====
section
/-! DEFINITION. The meanings of the burst timer's commands (chapter 6): zero-cross edges, period ends, mains loss, slot choice. -/

namespace Sys2Proof.Machine

/-- An edge is accepted: no edge before it, or at least a quarter of the nominal half-cycle time since the last (R110). -/
def edgeAccepted (s : State) : Bool :=
  s.active &&
    match s.burst.lastEdge with
    | none => true
    | some t => decide (halfCycle s.loader.image ≤ 4 * (s.now - t))

/-- The edge is the period end (R111). -/
def atPeriodEnd (s : State) : Bool :=
  decide (s.burst.period = .running ∧ s.burst.idx = some (s.burst.len - 1))

/-- An accepted edge restarts the mains-lost timer; the readbacks stand at the pins (R110, R112, R118). -/
def noteEdge (hr : Four Bool) (s : State) : State :=
  { s with burst := { s.burst with lastEdge := some s.now, mainsTimer := some (s.now + mainsLostTime s.loader.image) },
           pins := { s.pins with hr := hr } }

/-- A half-cycle counted by the leakage watch (R181; log 7). -/
def countWatch (s : State) : State :=
  { s with fault := { s.fault with watch := s.fault.watch.map fun n => min (n + 1) 10 } }

/-- The leakage watch back to IDLE (R181). -/
def stopWatch (s : State) : State := { s with fault := { s.fault with watch := none } }

/-- The watch's decision: LEAKAGE_PERSISTS where leakage is still present (R181). -/
def decideWatch (s : State) : State :=
  if s.meas.leakPresent then occur ⟨.leakagePersists, none, none⟩ (stopWatch s) else stopWatch s

/-- The decision at the edge at which the count reaches 10, where it comes before the edge's other work (R181, R207; log 7). -/
def watchAtEdge (first : Bool) (s : State) : State := if first && decide (s.fault.watch = some 10) then decideWatch s else s

/-- The count of the confirmation time after an accepted edge. -/
def ConfirmMode.count : ConfirmMode → ConfirmMode
  | .halfCycles n => .halfCycles (min (n + 1) 10)
  | m => m

/-- A half-cycle counted by the halt unit's confirmation (R204; log 7). -/
def countConfirm (s : State) : State :=
  if s.halt.proc = .confirming then { s with halt := { s.halt with mode := s.halt.mode.count } } else s

/-- A channel's readback check falls due at this edge (R118). -/
def readbackDue (s : State) (c : Chan) : Bool :=
  match (s.burst.chans.get c).check with
  | some k => checkDue s.loader.image s.now k
  | none => false

/-- The readback differs from the armed level (R118). -/
def readbackDiffers (s : State) (c : Chan) : Bool :=
  match (s.burst.chans.get c).check with
  | some k => decide (s.pins.hr.get c ≠ k.level)
  | none => false

/-- A channel with its due check ended. -/
def checkedOutput (s : State) (c : Chan) : ChanBurst :=
  if readbackDue s c then { s.burst.chans.get c with check := none } else s.burst.chans.get c

/-- The readback checks that fall due; a difference is an OUTPUT_READBACK detection, taken in channel order (R118, R188, R207; log
40). -/
def readbackChecks (s : State) : State :=
  let bad := Chan.list.filter fun c => readbackDue s c && readbackDiffers s c
  occurAll (bad.map fun c => ⟨.outputReadback, some c, none⟩) { s with burst := { s.burst with chans := .of (checkedOutput s) } }

/-- The first accepted edge with no period running begins one; in LOST it is the mains return (R110, R113). The period has recorded
no phase difference yet: one that a frame stamped before the mains loss left is cleared (R83, R119; log 42). -/
def beginPeriod (s : State) : State :=
  freshPeriod (clearPhases (if s.burst.period = .lost then applySlot (s.clearCond .mainsLost none) else s))

/-- The half-cycle index set. -/
def setIndex (i : Nat) (s : State) : State := { s with burst := { s.burst with idx := some i } }

/-- The closing of the period and the control step, in the order they are taken (R102, R111). -/
def closeAndStep (closeFirst : Bool) (s : State) : State :=
  if closeFirst then controlStep (closePeriod s) else closePeriod (controlStep s)

/-- The period end: alignment, slot, period close and control step, then index 0 (R111; log 6, 19). -/
def endPeriod (closeFirst : Bool) (s : State) : State :=
  setIndex 0 (closeAndStep closeFirst (applySlot (alignment s)))

/-- The report instant of a control step whose Q_s moved; a change of station state at the event has made it already (R38). -/
def reportMoved (before : StationState) (s : State) : State :=
  if s.station.state = before ∧ demandMoved s = true then reportInstant s else s

/-- The work of a period end with the readback checks before or after it (R111, R118; log 6). -/
def periodWork (e : EdgeIn) (s : State) : State :=
  if e.checksFirst then endPeriod e.closeFirst (readbackChecks s) else readbackChecks (endPeriod e.closeFirst s)

/-- The half-cycle that an accepted edge starts, when it ends no period (R110). -/
def nextHalfCycle (s : State) : State :=
  match s.burst.period, s.burst.idx with
  | .running, some i => setIndex (i + 1) (readbackChecks s)
  | .running, none => setIndex 0 (readbackChecks s)
  | _, _ => beginPeriod (readbackChecks s)

/-- An accepted edge up to its half-cycle: the old half-cycle ends, and the counts of half-cycles rise (R88, R110, R181, R204). -/
def startEdge (e : EdgeIn) (s : State) : State :=
  watchAtEdge e.watchFirst (countWatch (countConfirm (endHalfCycle (noteEdge e.hr s))))

/-- The outputs of the new half-cycle, after the leak test's count of it (R107, R108, R117). -/
def settleHalfCycle (s : State) : State := settleOutputs (leakTestEdge s)

/-- An accepted edge (R110, R111). -/
def takeEdge (e : EdgeIn) (s : State) : State :=
  if atPeriodEnd s then reportMoved s.station.state (settleHalfCycle (periodWork e (startEdge e s)))
  else settleHalfCycle (nextHalfCycle (startEdge e s))

/-- ZERO_CROSS_EDGE (R110). -/
def execZeroCrossEdge (e : EdgeIn) (s : State) : Host.Outcome State Fault Refusal :=
  .next (if edgeAccepted (s.advance e.dt) then takeEdge e (s.advance e.dt) else s.advance e.dt)

/-- PERIOD_END (R111): an accepted edge that ends a period. -/
def execPeriodEnd (e : EdgeIn) (s : State) : Host.Outcome State Fault Refusal :=
  .next (if edgeAccepted (s.advance e.dt) && atPeriodEnd s then takeEdge e (s.advance e.dt) else s.advance e.dt)

/-- The burst timer at the mains loss: the period is abandoned, firing counts 0, remainders kept (R112). -/
def abandonPeriod (s : State) : State :=
  { s with burst := { s.burst with idx := none, mainsTimer := none, chans := s.burst.chans.map fun b => { b with h := 0 } } }

/-- The sequencer at the mains loss (R88, R102, R103, R106, R112). -/
def abandonSamples (s : State) : State :=
  { s with meas := { s.meas with chans := s.meas.chans.map .abandon, conv := s.meas.conv.map .abandonSample, leakCount := 0,
                                 leakPresent := false, midpoint := none } }

/-- The budget figures at the mains loss (R138). -/
def zeroShare (s : State) : State := { s with budget := { s.budget with qs := 0, a := 0, k := 0 } }

/-- The halt unit at a mains loss: HALF_CYCLES turns to CRYSTAL with 100 ms, and outstanding checks are asked at once (R204). -/
def haltAtLoss (s : State) : State :=
  match s.halt.proc, s.halt.mode with
  | .confirming, .halfCycles _ => { s with halt := { s.halt with mode := .crystal (s.now + 100000) } }
  | .checking, _ => askAllCrystal s
  | _, _ => s

/-- The mains loss (R112; log 18). -/
def loseMains (s : State) : State :=
  let s := abandonPeriod (discardChecks (outputsOff s))
  let s := zeroShare (stopWatch (abortLeakTest (abandonSamples (clearPhases s))))
  haltAtLoss (occur ⟨.mainsLost, none, none⟩ { s with burst := { s.burst with period := .lost } })

/-- The mains-lost timer ends in NO_PERIOD or RUNNING_PERIOD (R112). -/
def mainsEnds (residual : Nat) (s : State) : State :=
  match s.burst.mainsTimer with
  | some t => if s.burst.period = .lost then s else loseMains ((s.showResidual residual).reach t)
  | none => s

/-- MAINS_LOST (R112). -/
def execMainsLost (residual : Nat) (s : State) : Host.Outcome State Fault Refusal := .next (mainsEnds residual s)

/-- The slot-choice interval ends (R123). -/
def slotChoiceEnds (s : State) : State :=
  match s.burst.slotTimer with
  | some t =>
    let s := s.reach t
    makeSlotChoice { s with burst := { s.burst with slotTimer := none } }
  | none => s

/-- SLOT_CHOICE_INTERVAL_EXPIRY (R123). -/
def execSlotChoiceIntervalExpiry (s : State) : Host.Outcome State Fault Refusal := .next (slotChoiceEnds s)

end Sys2Proof.Machine
end

