-- ==== Sys2Proof/Machine/ChannelEvents.lean ====
section
/-! DEFINITION. The meanings of the channel timers' commands (chapters 8 and 9). -/

namespace Sys2Proof.Machine

/-- A hold ends by its expiry (R162). -/
def holdEnds (c : Chan) (s : State) : State :=
  match (s.chans.get c).holdExpiry with
  | some t => if (s.chans.get c).state = .hold then startChoice c (s.reach t) else s
  | none => s

/-- HOLD_EXPIRY (R162). -/
def execHoldExpiry (c : Chan) (s : State) : Host.Outcome State Fault Refusal := .next (holdEnds c s)

/-- OVERTEMP becomes the trip cause of a channel whose reclose expires; the OVERCURRENT and HEATER_OPEN conditions of the channel end
(R174, R176; log 17). -/
def turnToOvertemp (c : Chan) (s : State) : State :=
  endTripConds c ({ s with fault := { s.fault with tripCause := s.fault.tripCause.set c (some .overtemp) } }.modChan c
    fun ch => { ch with reclose := none })

/-- The reclose of a TRIPPED channel (R176). -/
def recloseChan (c : Chan) (s : State) : State :=
  if s.hasCond .overtemp (some c) then turnToOvertemp c s else endTrip true c s

/-- The reclose timer ends (R176). -/
def recloseEnds (c : Chan) (s : State) : State :=
  match (s.chans.get c).reclose with
  | some t => if (s.chans.get c).state = .tripped then recloseChan c (s.reach t) else s
  | none => s

/-- RECLOSE_TIMER_EXPIRY (R176). -/
def execRecloseTimerExpiry (c : Chan) (s : State) : Host.Outcome State Fault Refusal := .next (recloseEnds c s)

/-- The trial ends with nothing else (R176). -/
def trialEnds (c : Chan) (s : State) : State :=
  match (s.chans.get c).trial with
  | some t => (s.reach t).modChan c fun ch => { ch with trial := none }
  | none => s

/-- TRIAL_TIMER_EXPIRY (R176). -/
def execTrialTimerExpiry (c : Chan) (s : State) : Host.Outcome State Fault Refusal := .next (trialEnds c s)

/-- The clean period ends: the trip count returns to 0 (R177). -/
def cleanEnds (c : Chan) (s : State) : State :=
  match (s.chans.get c).clean with
  | some t => (s.reach t).modChan c fun ch => { ch with clean := none, trips := 0 }
  | none => s

/-- CLEAN_PERIOD_EXPIRY (R177). -/
def execCleanPeriodExpiry (c : Chan) (s : State) : Host.Outcome State Fault Refusal := .next (cleanEnds c s)

end Sys2Proof.Machine
end

