-- ==== Sys2Proof/Machine/FaultEvents.lean ====
section
/-! DEFINITION. The meanings of the leakage watch's and the halt confirmation's commands (chapters 9 and 10). -/

namespace Sys2Proof.Machine

/-- The leakage watch has counted 10 half-cycles (R181; log 7). -/
def watchEnds (s : State) : State := if s.fault.watch = some 10 then decideWatch s else s

/-- LEAKAGE_WATCH_EXPIRY (R181). -/
def execLeakageWatchExpiry (s : State) : Host.Outcome State Fault Refusal := .next (watchEnds s)

/-- Every enabled channel's check sample is due (R204). -/
def wantChecks (s : State) (how : CheckState) : Four CheckState := .of fun c => if s.enabled c then how else .none

/-- The confirmation time has ended: CHECKING, with every enabled channel's sample to be asked (R204). -/
def startChecking (how : CheckState) (s : State) : State :=
  { s with halt := { s.halt with proc := .checking, mode := .none, checks := wantChecks s how } }

/-- The tenth edge of the confirmation time (R204; log 7). -/
def countEnds (s : State) : State :=
  if s.halt.proc = .confirming ∧ s.halt.mode = .halfCycles 10 then startChecking .wanted s else s

/-- CONFIRMATION_COUNT_END (R204). -/
def execConfirmationCountEnd (s : State) : Host.Outcome State Fault Refusal := .next (countEnds s)

/-- The 100 ms of the confirmation time have run out: with a period running the samples are taken at the mid-point of the next
half-cycle, else they are asked at once (R204). -/
def confirmCrystal (s : State) : State :=
  if s.burst.period = .running then startChecking .afterEdge s else askAllCrystal (startChecking .wanted s)

/-- The confirmation timer ends (R204). -/
def confirmEnds (residual : Nat) (s : State) : State :=
  match s.halt.mode with
  | .crystal t => if s.halt.proc = .confirming then confirmCrystal ((s.showResidual residual).reach t) else s
  | _ => s

/-- CONFIRMATION_TIMER_EXPIRY (R204). -/
def execConfirmationTimerExpiry (residual : Nat) (s : State) : Host.Outcome State Fault Refusal :=
  .next (confirmEnds residual s)

end Sys2Proof.Machine
end

