-- ==== Sys2Proof/Machine/Dispatch.lean ====
section
/-! DEFINITION. One arm for each command, in the table's order. -/

namespace Sys2Proof.Machine

def exec (i : Instr) (s : State) : Host.Outcome State Fault Refusal :=
  match i with
  | .powerOn => Sys2Proof.Machine.execPowerOn s
  | .configReadComplete dt bytes => Sys2Proof.Machine.execConfigReadComplete dt bytes s
  | .configPortRefusal dt => Sys2Proof.Machine.execConfigPortRefusal dt s
  | .configReadTimeout => Sys2Proof.Machine.execConfigReadTimeout s
  | .listenIntervalExpiry => Sys2Proof.Machine.execListenIntervalExpiry s
  | .isolationTimeoutExpiry => Sys2Proof.Machine.execIsolationTimeoutExpiry s
  | .lineIdle e => Sys2Proof.Machine.execLineIdle e s
  | .frameStart e => Sys2Proof.Machine.execFrameStart e s
  | .frameC0Check dt wave => Sys2Proof.Machine.execFrameC0Check dt wave s
  | .framePrefilter dt wave1 wave2 => Sys2Proof.Machine.execFramePrefilter dt wave1 wave2 s
  | .framingError dt wave s9 s10 => Sys2Proof.Machine.execFramingError dt wave s9 s10 s
  | .frameBadCrc dt wave => Sys2Proof.Machine.execFrameBadCrc dt wave s
  | .completedFrameLost dt wave => Sys2Proof.Machine.execCompletedFrameLost dt wave s
  | .report dt wave => Sys2Proof.Machine.execReport dt wave s
  | .faultNotice dt wave => Sys2Proof.Machine.execFaultNotice dt wave s
  | .answer dt wave => Sys2Proof.Machine.execAnswer dt wave s
  | .shortRequestDiscard dt wave => Sys2Proof.Machine.execShortRequestDiscard dt wave s
  | .badRequestCode dt wave => Sys2Proof.Machine.execBadRequestCode dt wave s
  | .setPoint dt wave => Sys2Proof.Machine.execSetPoint dt wave s
  | .hold dt wave => Sys2Proof.Machine.execHold dt wave s
  | .release dt wave => Sys2Proof.Machine.execRelease dt wave s
  | .resetTrip dt residual wave => Sys2Proof.Machine.execResetTrip dt residual wave s
  | .leakTest dt wave => Sys2Proof.Machine.execLeakTest dt wave s
  | .measure dt wave => Sys2Proof.Machine.execMeasure dt wave s
  | .reslot dt wave => Sys2Proof.Machine.execReslot dt wave s
  | .stopStation dt wave => Sys2Proof.Machine.execStopStation dt wave s
  | .restart dt wave => Sys2Proof.Machine.execRestart dt wave s
  | .faultPop dt wave => Sys2Proof.Machine.execFaultPop dt wave s
  | .readChannel dt wave => Sys2Proof.Machine.execReadChannel dt wave s
  | .readStation dt wave => Sys2Proof.Machine.execReadStation dt wave s
  | .readHalt dt wave => Sys2Proof.Machine.execReadHalt dt wave s
  | .readPeer dt wave => Sys2Proof.Machine.execReadPeer dt wave s
  | .readFaultHead dt wave => Sys2Proof.Machine.execReadFaultHead dt wave s
  | .readIdent dt wave => Sys2Proof.Machine.execReadIdent dt wave s
  | .transmitStart dt => Sys2Proof.Machine.execTransmitStart dt s
  | .arbitrationLost dt bit => Sys2Proof.Machine.execArbitrationLost dt bit s
  | .bitError dt bit dominant => Sys2Proof.Machine.execBitError dt bit dominant s
  | .transmitComplete dt residual => Sys2Proof.Machine.execTransmitComplete dt residual s
  | .reportTimerExpiry => Sys2Proof.Machine.execReportTimerExpiry s
  | .staleExpiry id => Sys2Proof.Machine.execStaleExpiry id s
  | .lostExpiry id => Sys2Proof.Machine.execLostExpiry id s
  | .removalExpiry id => Sys2Proof.Machine.execRemovalExpiry id s
  | .flowInputChange dt low => Sys2Proof.Machine.execFlowInputChange dt low s
  | .flowDebounceExpiry => Sys2Proof.Machine.execFlowDebounceExpiry s
  | .roundTimerExpiry => Sys2Proof.Machine.execRoundTimerExpiry s
  | .conversionEnd raw => Sys2Proof.Machine.execConversionEnd raw s
  | .roundComplete raw => Sys2Proof.Machine.execRoundComplete raw s
  | .temperatureAgeExpiry sensor => Sys2Proof.Machine.execTemperatureAgeExpiry sensor s
  | .halfCycleMidpoint residual => Sys2Proof.Machine.execHalfCycleMidpoint residual s
  | .checkRequestTimeout c => Sys2Proof.Machine.execCheckRequestTimeout c s
  | .zeroCrossEdge e => Sys2Proof.Machine.execZeroCrossEdge e s
  | .periodEnd e => Sys2Proof.Machine.execPeriodEnd e s
  | .mainsLost residual => Sys2Proof.Machine.execMainsLost residual s
  | .slotChoiceIntervalExpiry => Sys2Proof.Machine.execSlotChoiceIntervalExpiry s
  | .holdExpiry c => Sys2Proof.Machine.execHoldExpiry c s
  | .recloseTimerExpiry c => Sys2Proof.Machine.execRecloseTimerExpiry c s
  | .trialTimerExpiry c => Sys2Proof.Machine.execTrialTimerExpiry c s
  | .cleanPeriodExpiry c => Sys2Proof.Machine.execCleanPeriodExpiry c s
  | .leakageWatchExpiry => Sys2Proof.Machine.execLeakageWatchExpiry s
  | .confirmationCountEnd => Sys2Proof.Machine.execConfirmationCountEnd s
  | .confirmationTimerExpiry residual => Sys2Proof.Machine.execConfirmationTimerExpiry residual s
  | .skippedFrameEnd e => Sys2Proof.Machine.execSkippedFrameEnd e s
  | .supplyFailure => Sys2Proof.Machine.execSupplyFailure s

end Sys2Proof.Machine
end

