-- ==== Sys2Proof/Safety.lean ====
section
/-! DEFINITION. What a safe run keeps, in the terms the statements use: the invariants of the station, and the conditions under which
a frame and a request are taken. -/

namespace Sys2Proof.Machine

/-! ## Invariants -/

/-- The procedure state follows the station state (R198). -/
def procFollows (st : StationState) (p : ProcState) : Prop :=
  match st with
  | .halting => p = .confirming ∨ p = .checking
  | .halted => p = .complete
  | _ => p = .idle

/-- Heater outputs, contactor and halt procedure agree with the station state: the load has passed exactly outside UNCONFIGURED
(R8); an output is on only for an enabled channel while the station is RUNNING or ISOLATED, a period runs and no halt procedure is
in flight (R117, R206); the contactor is closed only in LISTENING, RUNNING and ISOLATED with no earth-leakage lock (R124); and a trip
cause is one of the three kinds that trip a channel (R174, R175). -/
structure OutputsAgree (s : State) : Prop where
  loaded : s.loader.status = .passed ↔ s.station.state ≠ .unconfigured
  proc : procFollows s.station.state s.halt.proc
  outputs : ∀ c, (s.burst.chans.get c).out = true →
    s.enabled c = true ∧ s.station.state.fires = true ∧ s.burst.period = .running
  contactor : s.burst.contactor = true → s.station.state.serves = true ∧ s.earthLock = false
  causes : ∀ c k, s.fault.tripCause.get c = some k → k = .overcurrent ∨ k = .overtemp ∨ k = .heaterOpen

/-- A mute station: nothing in transmission, nothing queued or held, no notice pending, no completion held (R14, R44). -/
structure MuteSilent (s : State) : Prop where
  tx : s.station.mute = true → s.line.tx = .idle
  queue : s.station.mute = true → s.line.queue = []
  hold : s.station.mute = true → s.line.hold = none
  pendingNotice : s.station.mute = true → s.fault.pendingNotice = none
  cmd : s.station.mute = true → s.cmd.occupied = false

/-- The outgoing queue holds at most 4 frames, at most one REPORT and at most one FAULT_NOTICE, and a frame in transmission is its
head (R33). -/
structure QueueBounded (l : Line) : Prop where
  size : l.queue.length ≤ 4
  reports : (l.queue.filter OutFrame.isReport).length ≤ 1
  notices : (l.queue.filter OutFrame.isNotice).length ≤ 1
  started : l.tx ≠ .idle → l.queue ≠ []

/-- The fault queue holds at most 8 records, no two of the same kind and channel, each with a repeat count of 1..255 (R190,
R191). -/
structure FaultQueueBounded (q : List FaultRecord) : Prop where
  size : q.length ≤ 8
  distinct : q.Pairwise fun a b => ¬(a.kind = b.kind ∧ a.chan = b.chan)
  counts : ∀ r ∈ q, 1 ≤ r.count ∧ r.count ≤ 255

/-- The peer table holds at most 16 entries in ascending order, none with the own id or an id outside 1..239, no two with one id,
and none while UNCONFIGURED (R68, R69). -/
structure PeersOrdered (s : State) : Prop where
  size : s.peers.entries.length ≤ 16
  order : s.peers.entries.Pairwise fun a b => a.before b = true
  ids : s.peers.entries.Pairwise fun a b => a.id ≠ b.id
  range : ∀ p ∈ s.peers.entries, 1 ≤ p.id ∧ p.id ≤ 239 ∧ p.id ≠ s.loader.image.id
  empty : s.active = false → s.peers.entries = []

/-- The bounds of a channel's record and firing count (R114, R141, R143, R157, R158). -/
structure ChannelBounded (ch : Channel) (b : ChanBurst) : Prop where
  acc : ch.acc ≤ 65535
  d : ch.d ≤ 1024
  ds : ch.ds ≤ ch.d
  idle : ch.state.fires = false → ch.d = 0
  trips : ch.trips ≤ 3
  h : b.h ≤ 64
  r : b.r ≤ 15

/-- Every channel is in its bounds, with fallback duties of at most 1024 in the working store (R214). -/
structure ControlBounded (s : State) : Prop where
  duties : s.loader.image.dCold ≤ 1024 ∧ s.loader.image.dMild ≤ 1024
  chans : ∀ c, ChannelBounded (s.chans.get c) (s.burst.chans.get c)

/-- The share record: the allowance is at most the demand and the usable capacity, k is at most 1024, and k scales the demand to
no more than the allowance (R126, R135, R136). -/
structure ShareBounded (b : Budget) : Prop where
  demand : b.a ≤ b.qs
  capacity : b.a ≤ b.u
  factor : b.k ≤ 1024
  scaled : b.k * b.qs ≤ 1024 * b.a

/-! ## Taking a frame and a request -/

/-- With the samples of `wave` the kept frame `f` of another station ends, and it turns out to be `want` (R27, R28). -/
def Arrives (dt : Nat) (wave : List Bool) (want : FrameEnd) (f : RxFrame) (s : State) : Prop :=
  ∃ crc, frameEnding (s.hear dt wave) = some (f, crc) ∧ endOf (s.hear dt wave) f crc = want

/-- The state at the end of a frame: its samples are taken, and the receiver is in AWAIT_IDLE. -/
def frameEnded (dt : Nat) (wave : List Bool) (s : State) : State := { s.hear dt wave with line := (s.hear dt wave).line.dropFrame }

/-- The command unit carries the request out: its input is free, the sender of a COMMAND is permitted, no deferred command is in
flight for a COMMAND other than RESTART, and the station state allows it (R45, R46). -/
structure Accepts (r : Request) (f : RxFrame) (s : State) : Prop where
  free : s.cmd.occupied = false
  permitted : isCommand f = true → permitted s.loader.image f = true
  idle : isCommand f = true → r ≠ .restart → s.cmd.flying = false
  allowed : allowed r s.station.state = true

/-- An answer that is due has room, or is discarded by the mute flag (R14, R47). -/
def AnswerFits (f : RxFrame) (s : State) : Prop :=
  answerDue s.loader.image f = true → s.station.mute = true ∨ s.line.queue.length < 4

/-- The answer to a frame appended where one is due and the station is not mute (R36, R42). -/
def answered (f : RxFrame) (st : Status) (result : List Byte) (s : State) : State :=
  if answerDue s.loader.image f = true ∧ s.station.mute = false then
    { s with line := s.line.append (.answer (answerTo f st result)) }
  else s

/-- The command of each request. -/
def requestInstr (r : Request) (dt residual : Nat) (wave : List Bool) : Instr :=
  match r with
  | .setPoint => .setPoint dt wave
  | .hold => .hold dt wave
  | .release => .release dt wave
  | .resetTrip => .resetTrip dt residual wave
  | .leakTest => .leakTest dt wave
  | .measure => .measure dt wave
  | .reslot => .reslot dt wave
  | .stopStation => .stopStation dt wave
  | .restart => .restart dt wave
  | .faultPop => .faultPop dt wave
  | .readChannel => .readChannel dt wave
  | .readStation => .readStation dt wave
  | .readHalt => .readHalt dt wave
  | .readPeer => .readPeer dt wave
  | .readFaultHead => .readFaultHead dt wave
  | .readIdent => .readIdent dt wave

/-- The pins as the event of a request shows them: RESET_TRIP brings the residual current. -/
def shownFor (r : Request) (residual : Nat) (s : State) : State :=
  if r = .resetTrip then s.showResidual residual else s

/-! ## What a load, a start choice and a reading come to -/

/-- A value outside a range is replaced by the nearer limit. -/
def nearest (lo hi x : Int) : Int := max lo (min hi x)

/-- The working store after the checks of R7, field by field: the range of R214 for each clamped field, then the two relations, and
the fields that are never clamped as read. -/
structure ClampedFrom (raw img : Image) : Prop where
  weight : (img.weight : Int) = nearest 1 15 raw.weight
  cf : (img.cf : Int) = nearest 10 4000 raw.cf
  margin : (img.margin : Int) = nearest 0 16 raw.margin
  rInt : (img.rInt : Int) = nearest 1 10 raw.rInt
  listen : (img.listen : Int) = nearest 5 60 raw.listen
  holdMax : (img.holdMax : Int) = nearest 1 240 raw.holdMax
  leakCode : (img.leakCode : Int) = nearest 0 2 raw.leakCode
  windows : ∀ c, ((img.winLo.get c : Nat) : Int) = nearest 1 239 (raw.winLo.get c) ∧
    ((img.winHi.get c : Nat) : Int) = nearest 1 239 (raw.winHi.get c)
  tLow : img.tLow = nearest (-500) 2000 raw.tLow
  tHigh : img.tHigh = max (nearest (-500) 2000 raw.tHigh) img.tLow
  tMax : img.tMax = nearest (-500) 2000 raw.tMax
  tAlarm : img.tAlarm = nearest (-500) 2000 raw.tAlarm
  tAmbSwitch : img.tAmbSwitch = nearest (-500) 2000 raw.tAmbSwitch
  coldBand : (img.coldBand : Int) = nearest 0 500 raw.coldBand
  rampStep : (img.rampStep : Int) = nearest 1 50 raw.rampStep
  subMargin : (img.subMargin : Int) = nearest 0 100 raw.subMargin
  dCold : (img.dCold : Int) = nearest 0 1024 raw.dCold
  dMild : (img.dMild : Int) = nearest 0 1024 raw.dMild
  iNom : ∀ c, ((img.iNom.get c : Nat) : Int) = nearest 1 800 (raw.iNom.get c)
  setpoints : ∀ c, img.setpoints.get c = nearest img.tLow img.tHigh (nearest (-500) 2000 (raw.setpoints.get c))
  trims : (∀ c, img.trims.get c = nearest (-50) 50 (raw.trims.get c)) ∧ img.trimAmb = nearest (-50) 50 raw.trimAmb
  identity : img.id = raw.id ∧ img.feeder = raw.feeder ∧ img.nf = raw.nf ∧ img.bitRate = raw.bitRate ∧ img.enables = raw.enables
  asRead : img.position = raw.position ∧ img.mains60 = raw.mains60 ∧ img.flowEnabled = raw.flowEnabled ∧ img.cmdLo = raw.cmdLo ∧
    img.cmdHi = raw.cmdHi ∧ img.kp = raw.kp ∧ img.ki = raw.ki ∧ img.kf = raw.kf

/-- A command at which a halt procedure may begin: STOP_STATION, an edge, the end of the leakage watch, and an event at which a
STOP_STATION that waits in the completed-frame slot is taken. -/
def mayHalt : Instr → Prop
  | .stopStation _ _ => True
  | .zeroCrossEdge _ => True
  | .periodEnd _ => True
  | .leakageWatchExpiry => True
  | .transmitComplete _ _ => True
  | .report _ _ => True
  | .faultNotice _ _ => True
  | _ => False

/-- A command at which a RESTART is taken: its own, and an event at which one that waits in the completed-frame slot is taken. -/
def mayRestart : Instr → Prop
  | .restart _ _ => True
  | .transmitComplete _ _ => True
  | .report _ _ => True
  | .faultNotice _ _ => True
  | _ => False

/-- The rows of R2's table, and the move of a supply failure to UNCONFIGURED, which is the model's choice (log 4): the command `c`
takes the station from state `a` to state `b`. -/
def StationMoves (c : Instr) (a b : StationState) : Prop :=
  (b = .unconfigured ∧ (c = .powerOn ∨ c = .supplyFailure)) ∨
  (a = .unconfigured ∧ b = .listening ∧ ∃ dt bytes, c = .configReadComplete dt bytes) ∨
  (a = .listening ∧ b = .running ∧ c = .listenIntervalExpiry) ∨
  (a = .running ∧ b = .isolated ∧ c = .isolationTimeoutExpiry) ∨
  (a = .isolated ∧ b = .running ∧ ∃ dt wave, c = .report dt wave) ∨
  ((a = .listening ∨ a = .running ∨ a = .isolated) ∧ b = .halting ∧ mayHalt c) ∨
  (a = .halting ∧ b = .halted ∧ ∃ raw, c = .conversionEnd raw) ∨
  ((a = .running ∨ a = .isolated ∨ a = .halted) ∧ b = .listening ∧ mayRestart c)

/-- What the start choice makes of a channel (R146, R162, R177): OFF where the station does not fire; else WARMUP or REGULATE by the
own temperature, SUBSTITUTE by a substitute, or FALLBACK, with a hold ended and the clean period started where trips are counted. -/
structure Started (s : State) (fires : Bool) (c : Chan) (old new : Channel) : Prop where
  kept : new.tSet = old.tSet ∧ new.acc = old.acc ∧ new.reclose = old.reclose ∧ new.trial = old.trial ∧ new.trips = old.trips
  hold : new.holdExpiry = none
  off : fires = false → new.state = .off ∧ new.d = 0 ∧ new.ds = 0 ∧ new.ramp = none ∧ new.ctlTemp = none ∧ new.ctlSrc = .none ∧
    new.clean = none
  demand : fires = true → new.d = old.d ∧ new.ds = old.ds
  clean : fires = true → new.clean = if 1 ≤ old.trips then some (s.now + 3600000000) else none
  own : ∀ t, fires = true → s.ownTemp c = some t →
    (t < old.tSet - s.loader.image.coldBand → new.state = .warmup ∧ new.ramp = some t) ∧
    (old.tSet - s.loader.image.coldBand ≤ t → new.state = .regulate ∧ new.ramp = none) ∧
    new.ctlTemp = some t ∧ new.ctlSrc = .own
  borrowed : fires = true → s.ownTemp c = none → new.ramp = none ∧
    (∀ t src, substitute s c = some (t, src) → new.state = .substitute ∧ new.ctlTemp = some t ∧ new.ctlSrc = src) ∧
    (substitute s c = none → new.state = .fallback ∧ new.ctlTemp = none ∧ new.ctlSrc = .none)

/-- No current request of a channel is pending (R88, R100). -/
def NoRequest (m : ChanMeas) : Prop := m.reqOn = false ∧ m.reqOff = false ∧ m.reqCheck = .none

/-- The first conversion of a sample begins, 250 µs long, with these requests still pending (R87). -/
def firstConversion (s : State) (sample : Sample) (limit : Option Nat) (chans : Four ChanMeas) : State :=
  { s with meas := { s.meas with conv := some ⟨sample, false, .live, limit, s.now + 250⟩, chans := chans } }

/-- What the arbiter makes of `s` with the converter idle (R88): the first request in channel order, for one channel a check before an
off-check; else the next reading of a round in progress; else nothing. A check request on the crystal time base keeps its end. -/
structure ArbiterTakes (s t : State) : Prop where
  nothing : (∀ c, NoRequest (s.meas.chans.get c)) → (s.meas.roundOn = false ∨ s.meas.remaining = []) → t = s
  reading : ∀ r rest, (∀ c, NoRequest (s.meas.chans.get c)) → s.meas.roundOn = true → s.meas.remaining = r :: rest →
    t = firstConversion s (.reading r) none s.meas.chans
  check : ∀ c : Chan, (∀ d : Chan, d.num < c.num → NoRequest (s.meas.chans.get d)) →
    let m := s.meas.chans.get c
    let rest := s.meas.chans.set c { m with reqCheck := .none }
    (m.reqCheck = .bound → t = firstConversion s (.current c .check) none rest) ∧
    (∀ e, m.reqCheck = .crystal e → t = firstConversion s (.current c .check) (some e) rest)
  half : ∀ c : Chan, (∀ d : Chan, d.num < c.num → NoRequest (s.meas.chans.get d)) → (s.meas.chans.get c).reqCheck = .none →
    let m := s.meas.chans.get c
    (m.reqOff = true → t = firstConversion s (.current c .offCheck) none (s.meas.chans.set c { m with reqOff := false })) ∧
    (m.reqOff = false → m.reqOn = true →
      t = firstConversion s (.current c .onSample) none (s.meas.chans.set c { m with reqOn := false }))

/-- A sample that began at this very moment, at the end of the conversion before it, gives way to the current requests pending in `s`: a
reading, or the first conversion of a current sample (R88; log 38). -/
def GivesWay (s : State) (cv : Conversion) : Prop :=
  s.meas.convEnd = some s.now ∧ cv.ends = s.now + 250 ∧ cv.fate ≠ .abandoned ∧
    ((∃ r, cv.sample = .reading r) ∨ cv.kept = false) ∧ ¬∀ c, NoRequest (s.meas.chans.get c)

/-- What the arbiter makes of the current requests made in `s` (R88): a conversion in progress goes on, and an idle converter takes the
next sample. What gives way leaves the converter to them, the request of a current sample pending again (log 38). -/
structure RequestsServed (s t : State) : Prop where
  goesOn : ∀ cv, s.meas.conv = some cv → ¬GivesWay s cv → t = s
  idle : s.meas.conv = none → ArbiterTakes s t
  dropped : ∀ cv, s.meas.conv = some cv → GivesWay s cv → ((∃ r, cv.sample = .reading r) ∨ cv.fate ≠ .live) →
    ArbiterTakes { s with meas := { s.meas with conv := none } } t
  again : ∀ cv c k, s.meas.conv = some cv → GivesWay s cv → cv.sample = .current c k → cv.fate = .live →
    let m := s.meas.chans.get c
    let m' := match k, cv.limit with
      | .onSample, _ => { m with reqOn := true }
      | .offCheck, _ => { m with reqOff := true }
      | .check, none => { m with reqCheck := .bound }
      | .check, some e => { m with reqCheck := .crystal e }
    ArbiterTakes { s with meas := { s.meas with conv := none, chans := s.meas.chans.set c m' } } t

/-- A sensor after a round in which its temperature came to `t` (R93 to R97): out of range it raises its condition; within range it is
accepted where nothing was accepted before, it moved by 50 or less, or two were rejected before it, and else rejected. -/
structure SensorSettled (now : Nat) (t : Int) (old new : SensorState) : Prop where
  short : t < -600 → new.cond = some .short
  opened : 2500 < t → new.cond = some .opened
  outOfRange : t < -600 ∨ 2500 < t → new.accepted = old.accepted ∧ new.reject = old.reject ∧ new.clear = 0
  accepted : -600 ≤ t → t ≤ 2500 →
    (∀ a, old.accepted = some a →
      (a.value - 50 ≤ nearest (-500) 2000 t ∧ nearest (-500) 2000 t ≤ a.value + 50) ∨ 2 ≤ old.reject) →
    new.accepted = some ⟨nearest (-500) 2000 t, now⟩ ∧ new.reject = 0 ∧ new.clear = min (old.clear + 1) 3 ∧
    new.cond = if 2 ≤ old.clear then none else old.cond
  rejected : ∀ a, -600 ≤ t → t ≤ 2500 → old.accepted = some a →
    ¬(a.value - 50 ≤ nearest (-500) 2000 t ∧ nearest (-500) 2000 t ≤ a.value + 50) → old.reject < 2 →
    new.accepted = old.accepted ∧ new.reject = old.reject + 1 ∧ new.clear = 0 ∧ new.cond = old.cond
  valid : new.valid = if new.temp.isSome = true then min (old.valid + 1) 3 else 0

/-- The channel is enabled and selected by the frame's channel mask (R52). -/
def picked (f : RxFrame) (s : State) (c : Chan) : Bool := s.enabled c && maskBit (charAt f.payload 2) c

/-- The frame's channel mask is well formed and leaves an enabled channel (R52). -/
def Selects (f : RxFrame) (s : State) : Prop := charAt f.payload 2 < 16 ∧ ∃ c, picked f s c = true

/-- The ten result characters hold a fault record in the fields of R213. -/
structure HoldsRecord (r : FaultRecord) (x : List Byte) : Prop where
  length : x.length = 10
  what : fieldAt x 0 5 = r.kind.code ∧ fieldAt x 5 3 = chanField r.chan ∧ fieldAt x 8 2 = r.cls.code ∧ fieldAt x 10 1 = flag r.trial
  count : fieldAt x 11 8 = r.count % 256
  value : fieldAt x 19 12 = tempField r.value
  times : fieldAt x 31 24 = r.first % 16777216 ∧ fieldAt x 55 24 = r.latest % 16777216

end Sys2Proof.Machine
end

