-- ==== Sys2Proof/WellFormed.lean ====
section
/-! DEFINITION. Which commands are events the hardware can have, as far as the command alone tells. -/

namespace Sys2Proof

/-- An event of the line falls at a sample. -/
def sampled (wave : List Bool) : Bool := !wave.isEmpty

/-- The wave ends with a sample of this level, true for dominant. -/
def endsWith (wave : List Bool) (dominant : Bool) : Bool := wave.getLast? == some dominant

/-- A well-formed command: 98 configuration bytes (R4), a line event with at least one sample, a start with a dominant last sample
and an idle line with a recessive one (R20, R22), a bit number inside the longest frame of 17 characters of ten bit times (R19, R23),
C0 or C1 for a lost arbitration (R30), a station id 1..239 (R68). -/
def Instr.wellFormed : Instr → Bool
  | .configReadComplete _ bytes => bytes.length == 98
  | .frameBadCrc _ w => sampled w
  | .completedFrameLost _ w => sampled w
  | .report _ w => sampled w
  | .faultNotice _ w => sampled w
  | .answer _ w => sampled w
  | .shortRequestDiscard _ w => sampled w
  | .badRequestCode _ w => sampled w
  | .setPoint _ w => sampled w
  | .hold _ w => sampled w
  | .release _ w => sampled w
  | .resetTrip _ _ w => sampled w
  | .leakTest _ w => sampled w
  | .measure _ w => sampled w
  | .reslot _ w => sampled w
  | .stopStation _ w => sampled w
  | .restart _ w => sampled w
  | .faultPop _ w => sampled w
  | .readChannel _ w => sampled w
  | .readStation _ w => sampled w
  | .readHalt _ w => sampled w
  | .readPeer _ w => sampled w
  | .readFaultHead _ w => sampled w
  | .readIdent _ w => sampled w
  | .arbitrationLost _ bit => bit < 20
  | .bitError _ bit _ => bit < 170
  | .staleExpiry id => 1 ≤ id && id ≤ 239
  | .lostExpiry id => 1 ≤ id && id ≤ 239
  | .removalExpiry id => 1 ≤ id && id ≤ 239
  | .powerOn => true
  | .configPortRefusal _ => true
  | .configReadTimeout => true
  | .listenIntervalExpiry => true
  | .isolationTimeoutExpiry => true
  | .lineIdle e => endsWith e.wave false
  | .frameStart e => endsWith e.wave true
  | .frameC0Check _ w => sampled w
  | .framePrefilter _ w1 w2 => sampled w1 && sampled w2
  | .framingError _ w _ _ => sampled w
  | .transmitStart _ => true
  | .transmitComplete _ _ => true
  | .reportTimerExpiry => true
  | .flowInputChange _ _ => true
  | .flowDebounceExpiry => true
  | .roundTimerExpiry => true
  | .conversionEnd _ => true
  | .roundComplete _ => true
  | .temperatureAgeExpiry _ => true
  | .halfCycleMidpoint _ => true
  | .checkRequestTimeout _ => true
  | .zeroCrossEdge _ => true
  | .periodEnd _ => true
  | .mainsLost _ => true
  | .slotChoiceIntervalExpiry => true
  | .holdExpiry _ => true
  | .recloseTimerExpiry _ => true
  | .trialTimerExpiry _ => true
  | .cleanPeriodExpiry _ => true
  | .leakageWatchExpiry => true
  | .confirmationCountEnd => true
  | .confirmationTimerExpiry _ => true
  | .skippedFrameEnd e => sampled e.wave
  | .supplyFailure => true

end Sys2Proof
end

