-- ==== Sys2Proof/Certificates/Slice0/Obligations.lean ====
section
/-! DEFINITION. The statements for the provers. Each says which rules of the spec it formalises; `exec` is the effect of one command,
`step` of the command at the front of the queue. -/

open Sys2Proof Sys2Proof.Machine

/-! ## The machine -/

/-- One step executes the command at the front of the queue on the state with the queue's rest (the model's own queue). Model's
choices: the microsecond clock (log 1). -/
def Obligations.StepRunsFrontCommand : Prop :=
  ∀ (c : Instr) (rest : List Instr) (s : State), s.pending = c :: rest → step s = exec c { s with pending := rest }

/-- Every well-formed command has a next state from every state, and no command touches the queue of commands. CONFIG_READ_COMPLETE
with other than 98 bytes is no event of the part and stops (the queue and the stop are the model's choice, logs 1 and 26). -/
def Obligations.CommandsCompleteAndLeaveTheQueue : Prop :=
  (∀ (c : Instr) (s t : State), exec c s = .next t → t.pending = s.pending) ∧
  ((∀ (c : Instr) (s : State), c.wellFormed = true → ∃ t, exec c s = .next t) ∧
  (∀ (dt : Nat) (bytes : List Byte) (s : State), bytes.length ≠ 98 →
    exec (.configReadComplete dt bytes) s = .fault .imageLength))

/-! ## Supply and configuration -/

/-- R3: the power-on values of its table hold in the state after reset, and so do the invariants that the statements below carry
over every step. POWER_ON gives every piece of state its power-on value and starts a load; SUPPLY_FAILURE ends all activity: nothing
is left queued, no timer runs and every output is off (the values an unpowered part holds are the model's choice, log 4, as are
those of the tables' silent fields, logs 3 and 31). The levels on the input pins and the commands that wait are not the part's (log
5). -/
def Obligations.SupplyEventsAndResetHoldPowerOnValues : Prop :=
  (let s := State.reset
  s.station.state = .unconfigured ∧ s.loader.status = .inProgress ∧ s.station.mute = false ∧ s.loader.clamped = false ∧
  s.uptime = 0 ∧ s.peers.entries = [] ∧ s.fault.queue = [] ∧ s.fault.conds = [] ∧ s.fault.locks = .const [] ∧
  s.halt.record = .zero ∧ (∀ c, (s.chans.get c).state = .off ∧ (s.chans.get c).trips = 0) ∧
  (∀ c, s.heaterPin c = false) ∧ s.contactorPin = false ∧ s.leakDrivePin = false ∧
  s.line.queue = [] ∧ s.line.asm = [] ∧ s.line.slot = none ∧ s.line.lineErr = false ∧ s.line.overrun = false) ∧
  (OutputsAgree State.reset ∧ MuteSilent State.reset ∧ QueueBounded State.reset.line ∧ FaultQueueBounded State.reset.fault.queue ∧
  PeersOrdered State.reset ∧ ControlBounded State.reset ∧ ShareBounded State.reset.budget) ∧
  (∀ s : State,
    exec .powerOn s = .next { State.reset with pins := s.pins, pending := s.pending } ∧
    ∃ t, exec .supplyFailure s = .next t ∧
      t.powered = false ∧ t.station = State.reset.station ∧ t.loader.timer = none ∧ t.loading = false ∧
      (∀ c, t.heaterPin c = false) ∧ t.contactorPin = false ∧ t.leakDrivePin = false ∧
      t.line = .powerOn ∧ t.cmd = .empty ∧ t.peers = State.reset.peers ∧ t.meas = State.reset.meas ∧
      t.burst = .powerOn ∧ t.budget = State.reset.budget ∧ t.chans = State.reset.chans ∧ t.fault = .powerOn ∧
      t.halt = .powerOn ∧ t.pins = s.pins ∧ t.pending = s.pending)

/-- A load that passes. First part: the station enters LISTENING with the entry effects of R9, and its first REPORT carries Q 0, A
0 and the slot own id mod 8. Second part, R7: every clamped field of the working store is in its range, the nearer limit standing
for a value outside it, the two relations hold, and the clamped-on-load flag tells whether anything was replaced. Model's choices:
the microsecond clock (log 1), the times at 60 Hz in whole microseconds (log 24). -/
def Obligations.PassedLoadEntersListening : Prop :=
  (∀ (dt : Nat) (bytes : List Byte) (s : State), s.loading = true → s.station.mute = false → s.line = .powerOn →
    bytes.length = 98 → imagePasses bytes = true →
    let img := clampImage (readImage bytes)
    let now := s.now + dt
    ∃ t, exec (.configReadComplete dt bytes) s = .next t ∧ t.now = now ∧
      t.loader = ⟨.passed, decide (img ≠ readImage bytes), BitVec.ofNat 16 (u16 bytes 96), img, none⟩ ∧
      t.station = { s.station with state := .listening, listenTimer := some (now + seconds img.listen) } ∧
      (∀ c, t.chans.get c = .powerOn (img.setpoints.get c)) ∧
      (∀ c, (t.meas.chans.get c).iEff = img.iNom.get c) ∧
      t.burst = { s.burst with contactor := !s.earthLock, mainsTimer := some (now + mainsLostTime img), slot := img.id % 8 } ∧
      t.meas.roundTimer = some (now + 500000) ∧ t.meas.roundOn = true ∧
      t.line.rx = .awaitIdle ∧ t.line.reportTimer = some (now + seconds img.rInt) ∧
      (∃ r, t.line.queue = [.report r] ∧ r.state = .listening ∧ r.q = 0 ∧ r.a = 0 ∧ r.slot = img.id % 8) ∧
      t.peers.entries = s.peers.entries ∧ t.fault = s.fault ∧ t.halt = s.halt ∧ t.cmd = s.cmd ∧ t.budget = s.budget ∧
      t.pins = s.pins ∧ t.powered = s.powered) ∧
  (∀ (dt : Nat) (bytes : List Byte) (s : State), s.loading = true → bytes.length = 98 → imagePasses bytes = true →
    ∃ t, exec (.configReadComplete dt bytes) s = .next t ∧ ClampedFrom (readImage bytes) t.loader.image ∧
      (t.loader.clamped = true ↔ t.loader.image ≠ readImage bytes))

/-- A load that fails leaves everything but the load status and its timer as it was: a bad CRC or a refused identity field, a
refusal by the port, and the 250 ms run out. Model's choices: the microsecond clock (log 1); that the working store and the stored
CRC too stand as they were, of which R8 says only that the store is being written, is a DESIGN CHOICE (log 3, unsafe). -/
def Obligations.FailedLoadStaysUnconfigured : Prop :=
  (∀ (dt : Nat) (bytes : List Byte) (s : State), s.loading = true → bytes.length = 98 → imagePasses bytes = false →
    exec (.configReadComplete dt bytes) s =
      .next { s with now := s.now + dt, loader := { s.loader with status := .failed, timer := none } }) ∧
  (∀ (dt : Nat) (s : State), s.loading = true →
    exec (.configPortRefusal dt) s =
      .next { s with now := s.now + dt, loader := { s.loader with status := .failed, timer := none } }) ∧
  (∀ (t : Nat) (s : State), s.loading = true → s.loader.timer = some t →
    exec .configReadTimeout s =
      .next { s with now := max s.now t, loader := { s.loader with status := .failed, timer := none } })

/-- R6: after a good CRC the load fails exactly when a field of its table is out of range, the next state does not tell which, and
otherwise the identity fields, position and mains selection are taken as read. Model's choices: the microsecond clock (log 1); that
the working store and the stored CRC stand as they were after a failed load is a DESIGN CHOICE (log 3, unsafe). -/
def Obligations.IdentityFieldsDecideRefusal : Prop :=
  ∀ (dt : Nat) (bytes : List Byte) (s : State), s.loading = true → bytes.length = 98 → imageCrcGood bytes = true →
    let b := fun i : Nat => (bytes.getD i 0).toNat
    let refused := (b 0 < 1 ∨ 239 < b 0) ∨ 7 < b 1 ∨ (b 4 < 1 ∨ 15 < b 4) ∨ (b 6 = 0 ∨ 3 < b 6) ∨ b 7 % 16 = 0
    ∃ t, exec (.configReadComplete dt bytes) s = .next t ∧
      (refused → t = { s with now := s.now + dt, loader := { s.loader with status := .failed, timer := none } }) ∧
      (¬refused → t.loader.status = .passed ∧ t.loader.image.id = b 0 ∧ t.loader.image.feeder = b 1 ∧
        t.loader.image.nf = b 4 ∧ t.loader.image.bitRate = b 6 ∧
        (∀ c : Chan, t.loader.image.enables.get c = decide (b 7 / 2 ^ c.num % 2 = 1)) ∧
        t.loader.image.position = (256 * b 2 + b 3) % 4096 ∧ t.loader.image.mains60 = decide (b 8 % 2 = 1))

/-- R8: once the load has passed, no command but a power-on or a supply failure changes the working store, the load status, the
stored CRC or the clamped-on-load flag. -/
def Obligations.ConfigurationFixedAfterLoad : Prop :=
  ∀ (c : Instr) (rest : List Instr) (s t : State), s.pending = c :: rest → c ≠ .powerOn → c ≠ .supplyFailure →
    s.loader.status = .passed → step s = .next t → t.loader = s.loader

/-! ## Station state machine -/

/-- The listen interval ends in LISTENING: the slot is chosen, RUNNING is entered, each enabled channel in OFF makes its start
choice, the isolation timer starts where no live peer of the feeder is known and N_f is above 1, and a REPORT that shows RUNNING is
offered; in another state the expiry does nothing. The isolation timer ends in RUNNING: ISOLATED, with a report instant and nothing
else. Model's choices: the microsecond clock (log 1), a command whose condition does not hold changes only the time (log 2). -/
def Obligations.StationTimersEnd : Prop :=
  ((∀ (e : Nat) (s : State), s.station.state = .listening → s.station.listenTimer = some e →
    let now := max s.now e
    let img := s.loader.image
    ∃ t, exec .listenIntervalExpiry s = .next t ∧ t.now = now ∧
      t.station.state = .running ∧ t.station.listenTimer = none ∧ t.station.mute = s.station.mute ∧
      t.station.isolationTimer =
        (if liveSame img s.peers.entries = true then none
         else if 1 < img.nf then some (now + seconds (10 * img.rInt)) else s.station.isolationTimer) ∧
      t.burst = { s.burst with pendingSlot := some (chooseSlot s) } ∧
      (∀ c, s.enabled c = true → (s.chans.get c).state = .off →
        Started { s with now := now } true c (s.chans.get c) (t.chans.get c)) ∧
      (∀ c, ¬(s.enabled c = true ∧ (s.chans.get c).state = .off) → t.chans.get c = s.chans.get c) ∧
      t.line.reportTimer = some (now + seconds img.rInt) ∧
      (s.station.mute = false → s.line.queue = [] →
        ∃ r, t.line.queue = [.report r] ∧ r.state = .running ∧ r.slot = s.burst.slot ∧ t.line.lastQ = r.q) ∧
      t.loader = s.loader ∧ t.peers = s.peers ∧ t.meas = s.meas ∧ t.budget = s.budget ∧ t.fault = s.fault ∧ t.halt = s.halt ∧
      t.cmd = s.cmd ∧ t.pins = s.pins ∧ t.powered = s.powered) ∧
  (∀ s : State, s.station.state ≠ .listening → exec .listenIntervalExpiry s = .next s)) ∧
  (∀ (e : Nat) (s : State), s.station.state = .running → s.station.isolationTimer = some e →
    ∃ t, exec .isolationTimeoutExpiry s = .next t ∧
      t.station = { s.station with state := .isolated, isolationTimer := none } ∧
      t.line.reportTimer = some (max s.now e + seconds s.loader.image.rInt) ∧
      (s.station.mute = false → s.line.queue = [] →
        ∃ r, t.line.queue = [.report r] ∧ r.state = .isolated ∧ r.slot = s.burst.slot) ∧
      { t with line := s.line, station := s.station } = { s with now := max s.now e })

/-- R2: every change of station state by a step is a row of its table, on the event of that row, or the move of a supply failure to
UNCONFIGURED, which is no row of the table. Model's choices: that move, what an unpowered part holds (log 4), a count holds at 10
for the row that decides (log 7), two rows for one edge or conversion (log 8). -/
def Obligations.StationStateFollowsTable : Prop :=
  ∀ (c : Instr) (rest : List Instr) (s t : State), s.pending = c :: rest →
    procFollows s.station.state s.halt.proc → (s.loader.status = .passed ↔ s.station.state ≠ .unconfigured) →
    step s = .next t → t.station.state ≠ s.station.state → StationMoves c s.station.state t.station.state

/-- R117, R124, R174, R175, R198, R206: outputs, contactor and halt procedure agree with the station state after every step, and a
trip cause is one of OVERCURRENT, OVERTEMP and HEATER_OPEN. -/
def Obligations.OutputsAgreeAfterEveryStep : Prop :=
  ∀ s t : State, OutputsAgree s → step s = .next t → OutputsAgree t

/-! ## Line controller -/

/-- R25: the remainder starts at FFFFh; each character is combined into its high eight bits, and eight times it is shifted left,
with 1021h combined where the bit shifted out was 1. A frame is sent with the final remainder as its two CRC characters, high
character first; the receiver takes the CRC as good exactly where the received characters equal the remainder over C0 through the
payload, and the configuration image is checked by the same computation. The three check values hold, and a remainder run on through
the two CRC characters is 0000h exactly when they are equal. -/
def Obligations.CrcResidueIsZeroExactlyWhenGood : Prop :=
  (∀ (chars : List Byte) (c : Byte),
    let start := crc16 chars ^^^ BitVec.ofNat 16 (256 * c.toNat)
    let shift := fun r : Word16 => BitVec.ofNat 16 (2 * r.toNat) ^^^ (if 32768 ≤ r.toNat then 0x1021#16 else 0#16)
    crc16 (chars ++ [c]) = Nat.iterate shift 8 start) ∧
  ((∀ (kind sender : Nat) (target : Byte) (payload : List Byte),
    let body := BitVec.ofNat 8 (16 * kind + payload.length) :: BitVec.ofNat 8 sender :: target :: payload
    frameChars kind sender target payload =
      body ++ [BitVec.ofNat 8 ((crc16 body).toNat / 256), BitVec.ofNat 8 ((crc16 body).toNat % 256)]) ∧
  (∀ (f : RxFrame) (hi lo : Byte) (s : State),
    let body := f.c0 :: f.c1 :: f.c2 :: f.payload
    endOf s f [hi, lo] ≠ .badCrc ↔ 256 * hi.toNat + lo.toNat = (crc16 body).toNat) ∧
  (∀ bytes : List Byte, 98 ≤ bytes.length → (imageCrcGood bytes = true ↔
    (crc16 (bytes.take 96)).toNat = 256 * (bytes.getD 96 0).toNat + (bytes.getD 97 0).toNat))) ∧
  (crc16 [] = 0xFFFF#16 ∧ crc16 [0x00#8] = 0xE1F0#16 ∧
  crc16 [0x31#8, 0x32#8, 0x33#8, 0x34#8, 0x35#8, 0x36#8, 0x37#8, 0x38#8, 0x39#8] = 0x29B1#16) ∧
  (∀ (body : List Byte) (hi lo : Byte), crc16 (body ++ [hi, lo]) = 0#16 ↔ [hi, lo] = crcChars (crc16 body))

/-- R20 to R22, R26. The receiver samples each bit at samples 8, 9 and 10 and takes the majority; a start is a dominant sample after
at least three recessive ones; the idle count is the number of recessive samples in a row, up to 192. With the idle count at 192 the
receiver is READY, and a frame that was being assembled or skipped is truncated, with the line-error flag set. A start detected in
READY begins a frame stamped with the half-cycle index, none while no period runs. A dominant stop bit in ASSEMBLE or SKIP discards
the frame and sets the line-error flag, while the station transmits too. Model's choices: the microsecond clock (log 1), a command
whose condition does not hold changes only the time and what the line shows (log 2), the receiver of a sending station (log 9), waves
of samples (log 27), the sample that ends a character (log 36), a start that comes before the line was idle (log 47). -/
def Obligations.ReceiverFollowsTheLine : Prop :=
  (∀ (x : Sampler) (w : List Bool), x.char = none → 3 ≤ x.idle → w.length = 154 → w[0]? = some true →
    let sample := fun i : Nat => w.getD i false
    let bit := fun i : Nat =>
      (sample (16 * i + 7) && sample (16 * i + 8)) || (sample (16 * i + 7) && sample (16 * i + 9)) ||
        (sample (16 * i + 8) && sample (16 * i + 9))
    (bit 0 = false → (w.take 10).foldl Sampler.take x = ⟨((w.take 10).foldl Sampler.take x).idle, none, .nothing⟩) ∧
    (bit 0 = true → bit 9 = true → (w.foldl Sampler.take x).heard = .framing ∧ (w.foldl Sampler.take x).char = none) ∧
    (bit 0 = true → bit 9 = false → ∃ c : Byte, (w.foldl Sampler.take x).heard = .char c ∧ (w.foldl Sampler.take x).char = none ∧
      ∀ i, i < 8 → c.getLsbD (7 - i) = !bit (i + 1))) ∧
  (∀ x : Sampler, (x.take true).idle = 0 ∧ (∀ n, ((List.replicate n false).foldl Sampler.take x).idle =
      if n = 0 then x.idle else min (x.idle + n) 192) ∧
    (x.char = none → ((x.take true).heard = .start ↔ 3 ≤ x.idle) ∧ (x.take false).heard = .nothing)) ∧
  (∀ (e : LineIn) (s : State), s.active = true → s.line.tx = .idle →
    let line := s.line.hear e.wave
    (line.sampler.idle = 192 → (s.line.rx = .awaitIdle ∨ s.line.rx = .ready) →
      exec (.lineIdle e) s = .next { s with now := s.now + e.dt, line := { line with rx := .ready } }) ∧
    (line.sampler.idle = 192 → (s.line.rx = .assemble ∨ s.line.rx = .skip) →
      exec (.lineIdle e) s = .next { s with
        now := s.now + e.dt,
        line := { line with rx := .ready, asm := [], left := 0, stamp := none, lineErr := true, errAgain := true } }) ∧
    (line.sampler.idle ≠ 192 → exec (.lineIdle e) s = .next { s with now := s.now + e.dt, line := line }) ∧
    (s.line.rx = .ready → line.sampler.heard = .start →
      exec (.frameStart e) s = .next { s with
        now := s.now + e.dt,
        line := { line with rx := .assemble, asm := [], left := 1,
                            stamp := if s.burst.period = .running then s.burst.idx else none } }) ∧
    (s.line.rx ≠ .ready ∨ line.sampler.heard ≠ .start →
      exec (.frameStart e) s = .next { s with now := s.now + e.dt, line := line })) ∧
  (∀ (dt : Nat) (wave : List Bool) (s9 s10 : Bool) (s : State), s.active = true →
    let line := s.line.hear (wave ++ [s9, s10])
    (line.sampler.heard = .framing → (s.line.rx = .assemble ∨ s.line.rx = .skip) →
      exec (.framingError dt wave s9 s10) s = .next { s with
        now := s.now + dt,
        line := { line with rx := .awaitIdle, asm := [], left := 0, stamp := none, lineErr := true, errAgain := true } }) ∧
    ((line.sampler.heard ≠ .framing ∨ s.line.rx = .awaitIdle ∨ s.line.rx = .ready) →
      exec (.framingError dt wave s9 s10) s = .next { s with now := s.now + dt, line := line }))

/-- R22, R24, R26. In ASSEMBLE the next character is stored, and in SKIP it is counted and not stored. A C0 of kind 1, 2, 3, 4 or 6
with a length of at most 12 is kept, and any other discards the frame without a flag. When C2 of a frame is complete, the frame
stays in assembly if its kind is REPORT or FAULT_NOTICE, if it is an ANSWER to the own id, or if it is a COMMAND or QUERY whose
target names the station; else it is skipped to its end. Model's choices: the microsecond clock (log 1), the receiver
of a sending station (log 9), waves of samples (log 27). -/
def Obligations.FirstCharactersDecideWhatIsKept : Prop :=
  (∀ (l : Line) (b : Bool) (c : Byte), (l.sampler.take b).heard = .char c → l.left ≠ 0 →
    (l.rx = .assemble → l.sample b = { l with sampler := l.sampler.take b, asm := l.asm ++ [c], left := l.left - 1 }) ∧
    (l.rx = .skip → l.sample b = { l with sampler := l.sampler.take b, left := l.left - 1 })) ∧
  (∀ (dt : Nat) (wave : List Bool) (c0 : Byte) (s : State), s.active = true → s.line.rx = .assemble →
    (s.line.hear wave).asm = [c0] → (s.line.hear wave).left = 0 →
    let line := s.line.hear wave
    let kind := c0.toNat / 16
    let good := (kind = 1 ∨ kind = 2 ∨ kind = 3 ∨ kind = 4 ∨ kind = 6) ∧ c0.toNat % 16 ≤ 12
    (good → exec (.frameC0Check dt wave) s = .next { s with now := s.now + dt, line := { line with left := 2 } }) ∧
    (¬good → exec (.frameC0Check dt wave) s =
      .next { s with now := s.now + dt, line := { line with rx := .awaitIdle, asm := [], left := 0, stamp := none } })) ∧
  (∀ (dt : Nat) (w1 w2 : List Bool) (c0 c1 c2 : Byte) (s : State), s.active = true → s.line.rx = .assemble →
    (s.line.hear (w1 ++ w2)).asm = [c0, c1, c2] → (s.line.hear (w1 ++ w2)).left = 0 →
    (c0.toNat / 16 = 1 ∨ c0.toNat / 16 = 2 ∨ c0.toNat / 16 = 3 ∨ c0.toNat / 16 = 4 ∨ c0.toNat / 16 = 6) →
    let line := s.line.hear (w1 ++ w2)
    let img := s.loader.image
    let kind := c0.toNat / 16
    let target := c2.toNat
    let named := (1 ≤ target ∧ target ≤ 239 ∧ target = img.id) ∨ (240 ≤ target ∧ target ≤ 247 ∧ target - 240 = img.feeder) ∨
      (∃ n : Chan, target = 248 + n.num ∧ img.winLo.get n ≤ img.id ∧ img.id ≤ img.winHi.get n) ∨ target = 255
    let keep := kind = 6 ∨ kind = 1 ∨ (kind = 2 ∧ target = img.id) ∨ ((kind = 3 ∨ kind = 4) ∧ named)
    (keep → exec (.framePrefilter dt w1 w2) s =
      .next { s with now := s.now + dt, line := { line with left := c0.toNat % 16 + 2 } }) ∧
    (¬keep → exec (.framePrefilter dt w1 w2) s =
      .next { s with now := s.now + dt, line := { line with rx := .skip, asm := [], left := c0.toNat % 16 + 2 } }))

/-- The ends of frames that reach no block: a bad CRC and a frame lost to an occupied slot set the line-error flag, an ANSWER and a
skipped frame set none. In each the receiver is in AWAIT_IDLE, and nothing else changes. Model's choices: the microsecond clock (log
1), waves of samples (log 27). -/
def Obligations.FrameEndsThatReachNoBlock : Prop :=
  ∀ (dt : Nat) (wave : List Bool) (f : RxFrame) (s : State),
    let line := { s.line.hear wave with rx := .awaitIdle, asm := [], left := 0, stamp := none }
    (Arrives dt wave .badCrc f s → exec (.frameBadCrc dt wave) s =
      .next { s with now := s.now + dt, line := { line with lineErr := true, errAgain := true } }) ∧
    (Arrives dt wave .lost f s → exec (.completedFrameLost dt wave) s =
      .next { s with now := s.now + dt, line := { line with lineErr := true, errAgain := true } }) ∧
    (Arrives dt wave .answer f s → exec (.answer dt wave) s = .next { s with now := s.now + dt, line := line }) ∧
    (s.active = true → s.line.rx = .skip → (s.line.hear wave).left = 0 →
      exec (.skippedFrameEnd ⟨dt, wave⟩) s = .next { s with now := s.now + dt, line := line })

/-- What the end of a frame is: bad CRC where the two CRC characters are not those of R25, else the own frame while the station
transmits, else lost where the slot is occupied, else by its kind; a COMMAND or QUERY of fewer than 2 payload characters is too
short, and one whose code is not of its kind or whose length is not the code's is a bad code. Model's choices: the receiver of a
sending station (log 9). -/
def Obligations.FrameEndIsDecidedByCrcSlotAndKind : Prop :=
  ∀ (c0 c1 c2 : Byte) (rest : List Byte) (dt : Nat) (wave : List Bool) (s : State), s.active = true →
    s.line.rx = .assemble → (s.line.hear wave).asm = c0 :: c1 :: c2 :: rest → (s.line.hear wave).left = 0 →
    rest.length = c0.toNat % 16 + 2 →
    let payload := rest.take (c0.toNat % 16)
    let f : RxFrame := ⟨c0, c1, c2, payload, s.line.stamp⟩
    let good := rest.drop (c0.toNat % 16) = crcChars (crc16 (c0 :: c1 :: c2 :: payload))
    let kind := c0.toNat / 16
    let code := (payload.getD 0 0).toNat
    (¬good → Arrives dt wave .badCrc f s) ∧
    (good → s.line.tx ≠ .idle → Arrives dt wave .own f s) ∧
    (good → s.line.tx = .idle → s.line.slot ≠ none → Arrives dt wave .lost f s) ∧
    (good → s.line.tx = .idle → s.line.slot = none →
      (kind = 6 → Arrives dt wave .report f s) ∧ (kind = 1 → Arrives dt wave .notice f s) ∧
      (kind = 2 → Arrives dt wave .answer f s) ∧
      (kind = 3 ∨ kind = 4 → payload.length < 2 → Arrives dt wave .short f s) ∧
      (kind = 3 ∨ kind = 4 → 2 ≤ payload.length →
        (∀ r, requestOfCode code = some r → r.kind = kind → r.length = payload.length → Arrives dt wave (.request r) f s) ∧
        ((∀ r, requestOfCode code = some r → ¬(r.kind = kind ∧ r.length = payload.length)) → Arrives dt wave .badCode f s)))

/-- The transmitter starts the head frame on an idle line while it is IDLE and the station is not mute: ARBITRATING for the 20 bit
times of C0 and C1 at the configured bit rate and SENDING from then on, the receiver assembling from READY, and a REPORT's phase and
flags taken now. Where one of these does not hold nothing starts. Model's choices: the microsecond clock (log 1), a command whose
condition does not hold changes only the time (log 2), the receiver of a sending station (log 9). -/
def Obligations.TransmissionStartsOnIdleLine : Prop :=
  ∀ (dt : Nat) (s : State), s.active = true → s.line.rx = .ready →
    (∀ (head : OutFrame) (rest : List OutFrame), s.line.queue = head :: rest → s.line.tx = .idle → s.station.mute = false →
      s.line.sampler.idle = 192 →
      let rate := if s.loader.image.bitRate = 1 then 9600 else if s.loader.image.bitRate = 2 then 19200 else 38400
      ∃ t, exec (.transmitStart dt) s = .next t ∧ t.line.tx = .driving (s.now + dt) ∧
        (∀ us, ({ t with now := t.now + us } : State).transmitState =
          if us * rate < 20 * 1000000 then .arbitrating else .sending) ∧
        t.line.rx = .assemble ∧ t.line.asm = [] ∧ t.line.left = 1 ∧ t.line.sampler.idle = 0 ∧ t.line.stamp = s.phase? ∧
        t.line.queue = head :: rest ∧
        (∀ c, head = .report c →
          t.line.txChars = frameChars 6 s.loader.image.id 255 (reportPayload s.loader.image c s.phase s.line.lineErr s.line.overrun) ∧
          t.line.carriedErr = s.line.lineErr ∧ t.line.carriedOverrun = s.line.overrun ∧ t.fault = s.fault) ∧
        (∀ n, head = .notice n → t.line.txChars = frameChars 1 s.loader.image.id 255 (noticePayload n) ∧
          t.fault = { s.fault with placed := s.fault.placed.map fun _ => .started }) ∧
        (∀ a, head = .answer a →
          t.line.txChars = frameChars 2 s.loader.image.id a.target (a.reqNo :: BitVec.ofNat 8 a.status.code :: a.result) ∧
          t.fault = s.fault) ∧
        t.line.lineErr = s.line.lineErr ∧ t.line.overrun = s.line.overrun ∧ t.line.slot = s.line.slot ∧ t.line.hold = s.line.hold ∧
        { t with line := s.line, fault := s.fault } = { s with now := s.now + dt }) ∧
    ((s.line.queue = [] ∨ s.line.tx ≠ .idle ∨ s.station.mute = true ∨ s.line.sampler.idle ≠ 192) →
      exec (.transmitStart dt) s = .next { s with now := s.now + dt })

/-- R30, R31, R34, R35, R17. A recessive data bit of C0 or C1 read dominant: the station stops driving and goes on as the receiver
of the winner's frame, and its own frame stays at the head, not started; a REPORT takes the held content in place, a FAULT_NOTICE
the pending content, and the occurrence that is replaced waits. A frame that a RESTART found in transmission is discarded instead. A
bit error, a dominant bit of C0 or C1 read recessive or any difference from C2 on, also sets the line-error flag and drops what was
being received. A recessive bit of C0 or C1 read dominant is no bit error, its stop bit neither this nor a lost arbitration. Model's
choices: the microsecond clock (log 1), a command whose condition does not hold changes only the time (log 2), the receiver of a
sending station (log 9), the place of a frame lost after a RESTART (log 13), a stop bit read dominant (log 30). -/
def Obligations.LostFrameStaysAtTheHead : Prop :=
  (∀ (dt bit : Nat) (head : OutFrame) (rest : List OutFrame) (s : State), QueueBounded s.line → s.line.tx ≠ .idle →
    bit < 20 → 1 ≤ bit % 10 → bit % 10 ≤ 8 → sentBit s.line.txChars bit = false → s.line.queue = head :: rest →
    s.line.discardOnLoss = false → s.station.mute = false →
    let line := { s.line with tx := .idle, txChars := [] }
    let queued := { s.fault with placed := s.fault.placed.map fun _ => .queued }
    (∀ c, head = .report c → s.line.hold = none → exec (.arbitrationLost dt bit) s =
      .next { s with now := s.now + dt, line := line }) ∧
    (∀ c held, head = .report c → s.line.hold = some held → exec (.arbitrationLost dt bit) s =
      .next { s with now := s.now + dt, line := { line with queue := .report held :: rest, hold := none } }) ∧
    (∀ n, head = .notice n → s.fault.pendingNotice = none → exec (.arbitrationLost dt bit) s =
      .next { s with now := s.now + dt, line := line, fault := queued }) ∧
    (∀ n p, head = .notice n → s.fault.pendingNotice = some p → exec (.arbitrationLost dt bit) s =
      .next { s with now := s.now + dt, line := { line with queue := .notice p :: rest },
                     fault := { s.fault with placed := some .queued, pendingNotice := none,
                                             awaiting := addAwaiting n.occ s.fault.awaiting } }) ∧
    (∀ a, head = .answer a → exec (.arbitrationLost dt bit) s = .next { s with now := s.now + dt, line := line })) ∧
  (∀ (dt bit : Nat) (head : OutFrame) (rest : List OutFrame) (s : State), s.line.tx ≠ .idle → bit < 20 →
    1 ≤ bit % 10 → bit % 10 ≤ 8 → sentBit s.line.txChars bit = false → s.line.queue = head :: rest →
    s.line.discardOnLoss = true → s.line.hold = none → s.fault.pendingNotice = none → s.cmd.occupied = false →
    exec (.arbitrationLost dt bit) s = .next { s with
      now := s.now + dt,
      line := { s.line with tx := .idle, txChars := [], queue := rest, discardOnLoss := false } }) ∧
  (∀ (dt bit : Nat) (dominant : Bool) (head : OutFrame) (rest : List OutFrame) (s : State), s.line.tx ≠ .idle →
    bit < (frameBits s.line.txChars).length → s.line.queue = head :: rest → s.line.discardOnLoss = false → s.line.hold = none →
    s.fault.pendingNotice = none →
    (sentBit s.line.txChars bit ≠ dominant → (20 ≤ bit ∨ dominant = false) →
      exec (.bitError dt bit dominant) s = .next { s with
        now := s.now + dt,
        line := { s.line with tx := .idle, txChars := [], rx := .awaitIdle, asm := [], left := 0, stamp := none, lineErr := true,
                              errAgain := true },
        fault := if head.isNotice = true then { s.fault with placed := s.fault.placed.map fun _ => .queued } else s.fault }) ∧
    (sentBit s.line.txChars bit = dominant → exec (.bitError dt bit dominant) s = .next { s with now := s.now + dt })) ∧
  (∀ (dt bit : Nat) (s : State), bit < 20 → sentBit s.line.txChars bit = false →
    exec (.bitError dt bit true) s = .next { s with now := s.now + dt } ∧
    (bit % 10 = 9 → exec (.arbitrationLost dt bit) s = .next { s with now := s.now + dt }))

/-- R32, R37, R40, R45, R197. A completed REPORT leaves the queue: each line flag it carried as set is cleared unless set again, and
the held content takes the freed place. A completed FAULT_NOTICE counts as sent, and the fault unit offers its pending content, or
else the awaiting occurrence of the highest level that has waited longest. A completed ANSWER leaves, and pending content or a held
completion takes the freed place; with the latter the command unit is empty, and a frame that waited in the slot is taken at the
same event. Where several offers wait, the notice comes first, then the held REPORT content, then the held completion, each while a
place is free: with none left the REPORT content is dropped and the completion stays held. The notice is the pending content, or at
the completion of a FAULT_NOTICE the one the fault unit offers next. Model's choices: the microsecond clock (log 1), levels of input
pins (log 5), the order of the freed place (log 14). -/
def Obligations.CompletedFrameFreesItsPlace : Prop :=
  (∀ (dt residual : Nat) (c : ReportContent) (rest : List OutFrame) (s : State), QueueBounded s.line → s.line.tx ≠ .idle →
    s.line.queue = .report c :: rest → s.fault.pendingNotice = none → s.cmd.occupied = false →
    let line := { s.line with tx := .idle, txChars := [], discardOnLoss := false, rx := .awaitIdle, asm := [], left := 0, stamp := none,
                              lineErr := s.line.lineErr && !(s.line.carriedErr && !s.line.errAgain),
                              overrun := s.line.overrun && !(s.line.carriedOverrun && !s.line.overrunAgain) }
    let pins := { s.pins with residual := residual }
    (s.line.hold = none → exec (.transmitComplete dt residual) s =
      .next { s with now := s.now + dt, pins := pins, line := { line with queue := rest } }) ∧
    (∀ held, s.line.hold = some held → exec (.transmitComplete dt residual) s =
      .next { s with now := s.now + dt, pins := pins,
                     line := { line with queue := rest ++ [.report held], hold := none, lastQ := held.q } })) ∧
  (∀ (dt residual : Nat) (head : OutFrame) (rest : List OutFrame) (s : State), QueueBounded s.line → s.line.tx ≠ .idle →
    s.line.queue = head :: rest → s.line.hold = none → s.cmd.occupied = false → s.station.mute = false →
    let line := { s.line with tx := .idle, txChars := [], discardOnLoss := false, rx := .awaitIdle, asm := [], left := 0, stamp := none,
                              queue := rest }
    let after := { s with now := s.now + dt, pins := { s.pins with residual := residual }, line := line }
    (head.isNotice = true → s.fault.placed ≠ none → s.fault.pendingNotice = none → s.fault.awaiting = [] →
      exec (.transmitComplete dt residual) s = .next { after with fault := { s.fault with placed := none } }) ∧
    (∀ p, head.isNotice = true → s.fault.placed ≠ none → s.fault.pendingNotice = some p →
      exec (.transmitComplete dt residual) s = .next { after with
        line := { line with queue := rest ++ [.notice p] },
        fault := { s.fault with placed := some .queued, pendingNotice := none } }) ∧
    (∀ o, head.isNotice = true → s.fault.placed ≠ none → s.fault.pendingNotice = none → o ∈ s.fault.awaiting →
      s.fault.awaiting.Pairwise (fun a b => ¬(a.kind = b.kind ∧ a.chan = b.chan)) →
      (∀ x ∈ s.fault.awaiting, x.kind.level ≤ o.kind.level) →
      (∀ before behind, s.fault.awaiting = before ++ o :: behind → ∀ x ∈ before, x.kind.level < o.kind.level) →
      exec (.transmitComplete dt residual) s = .next { after with
        line := { line with queue := rest ++ [.notice ⟨o, s.station.state, s.budget.qs, s.budget.a⟩] },
        fault := { s.fault with placed := some .queued, pendingNotice := none,
                                awaiting := s.fault.awaiting.filter (fun x => decide (x ≠ o)) } }) ∧
    (∀ a, head = .answer a → s.fault.pendingNotice = none → exec (.transmitComplete dt residual) s = .next after) ∧
    (∀ a p, head = .answer a → s.fault.pendingNotice = some p → rest.any OutFrame.isNotice = false →
      exec (.transmitComplete dt residual) s = .next { after with
        line := { line with queue := rest ++ [.notice p] },
        fault := { s.fault with placed := some .queued, pendingNotice := none } })) ∧
  (∀ (dt residual : Nat) (done : AnswerContent) (held : AnswerContent) (rest : List OutFrame) (s : State),
    QueueBounded s.line → s.line.tx ≠ .idle → s.line.queue = .answer done :: rest → s.line.hold = none →
    s.fault.pendingNotice = none → s.cmd = .held held →
    let after := { s with
      now := s.now + dt, pins := { s.pins with residual := residual }, cmd := .empty,
      line := { s.line with tx := .idle, txChars := [], discardOnLoss := false, rx := .awaitIdle, asm := [], left := 0, stamp := none,
                            queue := rest ++ [.answer held] } }
    (s.line.slot = none → exec (.transmitComplete dt residual) s = .next after) ∧
    (∀ f, s.line.slot = some f → exec (.transmitComplete dt residual) s =
      .next (takeRequest f { after with line := { after.line with slot := none } }))) ∧
  (∀ (dt residual : Nat) (head : OutFrame) (rest : List OutFrame) (s : State), QueueBounded s.line → s.line.tx ≠ .idle →
    s.line.queue = head :: rest → rest.any OutFrame.isNotice = false → (s.line.hold = none ∨ rest.any OutFrame.isReport = false) →
    s.station.mute = false → s.line.slot = none →
    let now := s.now + dt
    let content := fun o : Occ => (⟨o, s.station.state, s.budget.qs, s.budget.a⟩ : NoticeContent)
    let follows := fun (notices : List NoticeContent) (t : State) =>
      let offers := notices.map .notice ++ s.line.hold.toList.map .report ++
        (match s.cmd with
          | .held a => [.answer a]
          | _ => [])
      let places := 4 - rest.length
      t.now = now ∧ t.line.queue = rest ++ offers.take places ∧ t.line.hold = none ∧
      t.cmd = (if s.cmd.occupied = true ∧ offers.length ≤ places then .empty else s.cmd) ∧
      (∀ held, s.line.hold = some held → notices.length < places → t.line.lastQ = held.q) ∧
      (s.line.hold = none ∨ places ≤ notices.length → t.line.lastQ = s.line.lastQ) ∧
      t.fault.pendingNotice = none ∧ (notices ≠ [] → t.fault.placed = some .queued) ∧
      t.station = s.station ∧ t.peers = s.peers ∧ t.meas = s.meas ∧ t.burst = s.burst ∧ t.budget = s.budget ∧ t.chans = s.chans ∧
      t.halt = s.halt ∧ t.loader = s.loader ∧ t.fault.queue = s.fault.queue ∧ t.fault.conds = s.fault.conds
    (head.isNotice = false ∨ s.fault.placed ≠ none → ∀ p, s.fault.pendingNotice = some p →
      ∃ t, exec (.transmitComplete dt residual) s = .next t ∧ follows [p] t ∧ t.fault.awaiting = s.fault.awaiting) ∧
    (head.isNotice = false → s.fault.pendingNotice = none →
      ∃ t, exec (.transmitComplete dt residual) s = .next t ∧ follows [] t ∧ t.fault = s.fault) ∧
    (head.isNotice = true → s.fault.placed ≠ none → s.fault.pendingNotice = none → s.fault.awaiting = [] →
      ∃ t, exec (.transmitComplete dt residual) s = .next t ∧ follows [] t ∧ t.fault = { s.fault with placed := none }) ∧
    (∀ before o behind, head.isNotice = true → s.fault.placed ≠ none → s.fault.pendingNotice = none →
      s.fault.awaiting = before ++ o :: behind → (∀ x ∈ before, x.kind.level < o.kind.level) →
      (∀ x ∈ behind, x.kind.level ≤ o.kind.level) →
      s.fault.awaiting.Pairwise (fun a b => ¬(a.kind = b.kind ∧ a.chan = b.chan)) →
      ∃ t, exec (.transmitComplete dt residual) s = .next t ∧ follows [content o] t ∧ t.fault.awaiting = before ++ behind))

/-- A report instant: the report timer runs R_int seconds from it, and the content made of the values held now is settled by the
first case of R34; what is dropped leaves the last reported Q as it was. Model's choices: the microsecond clock (log 1). -/
def Obligations.ReportTimerMakesAReportInstant : Prop :=
  ∀ (e : Nat) (s : State), QueueBounded s.line → s.line.reportTimer = some e → s.station.mute = false →
    ∃ c : ReportContent,
      (c.state = s.station.state ∧ c.flow = s.peers.flow ∧ c.ownInput = s.peers.ownInput ∧ c.level = s.highestLevel ∧
        c.slot = s.burst.slot ∧
        (s.station.state.fires = true → s.burst.period ≠ .lost → c.q = min s.budget.qs 4095 ∧ c.a = min s.budget.a 4095) ∧
        (s.station.state.fires = false ∨ s.burst.period = .lost → c.q = 0 ∧ c.a = 0) ∧
        (∀ n : Chan, s.enabled n = true → (∀ m : Chan, s.enabled m = true → n.num ≤ m.num) → c.entry = s.ownTemp n) ∧
        (∀ n : Chan, s.enabled n = true → (∀ m : Chan, s.enabled m = true → m.num ≤ n.num) → c.exit = s.ownTemp n)) ∧
      let now := max s.now e
      let line := { s.line with reportTimer := some (now + seconds s.loader.image.rInt) }
      (∀ before old behind, s.line.queue = before ++ .report old :: behind → (s.line.tx = .idle ∨ before ≠ []) →
        exec .reportTimerExpiry s =
          .next { s with now := now, line := { line with queue := before ++ .report c :: behind, lastQ := c.q } }) ∧
      (∀ old behind, s.line.queue = .report old :: behind → s.line.tx ≠ .idle →
        exec .reportTimerExpiry s = .next { s with now := now, line := { line with hold := some c, lastQ := c.q } }) ∧
      (s.line.queue.any OutFrame.isReport = false → s.line.queue.length < 4 →
        exec .reportTimerExpiry s =
          .next { s with now := now, line := { line with queue := s.line.queue ++ [.report c], lastQ := c.q } }) ∧
      (s.line.queue.any OutFrame.isReport = false → s.line.queue.length = 4 →
        exec .reportTimerExpiry s = .next { s with now := now, line := line })

/-- R33, R190, R191. After every step the outgoing queue holds at most 4 frames, at most one REPORT and one FAULT_NOTICE, and a
frame in transmission is its head; the fault queue holds at most 8 records, no two of one kind and channel, each with a repeat count
of 1..255. -/
def Obligations.QueuesStayBounded : Prop :=
  (∀ s t : State, QueueBounded s.line → step s = .next t → QueueBounded t.line) ∧
  (∀ s t : State, FaultQueueBounded s.fault.queue → step s = .next t → FaultQueueBounded t.fault.queue)

/-- R14, R44: a mute station stays silent over every step: nothing is transmitted, queued, held or pending. -/
def Obligations.MuteStationStaysSilent : Prop :=
  ∀ s t : State, MuteSilent s → step s = .next t → MuteSilent t

/-- R210, R211: a REPORT payload and a FAULT_NOTICE payload that the station packs are read back field by field by the peer table of
another station. -/
def Obligations.PackedPayloadsReadBack : Prop :=
  (∀ (img : Image) (c : ReportContent) (phase : Nat) (lineErr overrun : Bool),
    img.position < 4096 → img.feeder < 8 → img.weight < 16 → c.state ≠ .unconfigured → c.level < 8 → c.slot < 8 → phase < 64 →
    c.q < 4096 → c.a < 4096 → (∀ v, c.entry = some v → -500 ≤ v ∧ v ≤ 2000) → (∀ v, c.exit = some v → -500 ≤ v ∧ v ≤ 2000) →
    (reportPayload img c phase lineErr overrun).length = 12 ∧
    readReport (reportPayload img c phase lineErr overrun) =
      some ⟨img.position, img.feeder, img.weight, c.state, c.flow, c.ownInput, c.level, c.slot, phase, c.q, c.a, c.entry, c.exit⟩) ∧
  (∀ (c : NoticeContent), c.state ≠ .unconfigured → c.q < 4096 → c.a < 4096 →
    (noticePayload c).length = 5 ∧ readNotice (noticePayload c) = some ⟨c.occ.kind.level, c.state, c.q, c.a⟩)

/-! ## Command unit -/

/-- R45, R46, R52. While a completion is held, a COMMAND or QUERY that arrives and is not a RESTART waits in the slot. The first
check that applies settles a frame that the unit takes: too short, discarded; NOT_PERMITTED; BAD_ARG for a code that names no
request of the kind and length; BUSY; WRONG_STATE; and BAD_ARG for a channel mask with a bit above 3 or with no enabled channel.
Each refusal is answered where an answer is due and changes nothing else. Model's choices: the microsecond clock (log 1), levels of
input pins (log 5). -/
def Obligations.RefusalsComeInOrder : Prop :=
  (∀ (dt residual : Nat) (wave : List Bool) (f : RxFrame) (a : AnswerContent) (s : State), s.cmd = .held a →
    let waits := fun s : State => { frameEnded dt wave s with line := { (frameEnded dt wave s).line with slot := some f } }
    (Arrives dt wave .short f s → exec (.shortRequestDiscard dt wave) s = .next (waits s)) ∧
    (Arrives dt wave .badCode f s → ¬((f.payload.getD 0 0).toNat = 0x19 ∧ f.c0.toNat / 16 = 3) →
      exec (.badRequestCode dt wave) s = .next (waits s)) ∧
    (∀ r, Arrives dt wave (.request r) f s → r ≠ .restart →
      exec (requestInstr r dt residual wave) s = .next (waits (shownFor r residual s)))) ∧
  (∀ (dt residual : Nat) (wave : List Bool) (f : RxFrame) (s : State), s.cmd.occupied = false → AnswerFits f s →
    let command := f.c0.toNat / 16 = 3
    let sender := s.loader.image.cmdLo ≤ f.c1.toNat ∧ f.c1.toNat ≤ s.loader.image.cmdHi
    (Arrives dt wave .short f s → exec (.shortRequestDiscard dt wave) s = .next (frameEnded dt wave s)) ∧
    (Arrives dt wave .badCode f s →
      (command → ¬sender → exec (.badRequestCode dt wave) s = .next (answered f .notPermitted [] (frameEnded dt wave s))) ∧
      ((command → sender) → exec (.badRequestCode dt wave) s = .next (answered f .badArg [] (frameEnded dt wave s)))) ∧
    (∀ r, Arrives dt wave (.request r) f s →
      let t := frameEnded dt wave (shownFor r residual s)
      (command → ¬sender → exec (requestInstr r dt residual wave) s = .next (answered f .notPermitted [] t)) ∧
      (command → sender → r ≠ .restart → s.cmd.flying = true →
        exec (requestInstr r dt residual wave) s = .next (answered f .busy [] t)) ∧
      ((command → sender) → (command → r ≠ .restart → s.cmd.flying = false) →
        (r = .restart → s.station.state = .unconfigured ∨ s.station.state = .halting) →
        (r = .leakTest → s.station.state ≠ .running ∧ s.station.state ≠ .isolated) →
        (r ≠ .restart → s.station.state ≠ .listening ∧ s.station.state ≠ .running ∧ s.station.state ≠ .isolated ∨ r = .leakTest) →
        r.kind = 3 →
        exec (requestInstr r dt residual wave) s = .next (answered f .wrongState [] t)))) ∧
  (∀ (r : Request) (dt residual : Nat) (wave : List Bool) (f : RxFrame) (s : State),
    r = .setPoint ∨ r = .hold ∨ r = .release ∨ r = .resetTrip → Arrives dt wave (.request r) f s → Accepts r f s → AnswerFits f s →
    (16 ≤ charAt f.payload 2 ∨ ∀ c, s.enabled c = true → maskBit (charAt f.payload 2) c = false) →
    exec (requestInstr r dt residual wave) s = .next (answered f .badArg [] (frameEnded dt wave (shownFor r residual s))))

/-- R36, R47: with 4 frames in the queue and an answer due, no request but RESTART is carried out; only the answer-overrun flag is
set, whatever the outcome would have been. Model's choices: the microsecond clock (log 1), levels of input pins (log 5). -/
def Obligations.FullQueueLeavesRequestUndone : Prop :=
  ∀ (dt residual : Nat) (wave : List Bool) (f : RxFrame) (s : State), s.cmd.occupied = false →
    f.c2.toNat = s.loader.image.id → 1 ≤ f.c2.toNat → f.c2.toNat ≤ 239 → s.station.mute = false → s.line.queue.length = 4 →
    let overrun := fun s : State =>
      { frameEnded dt wave s with line := { (frameEnded dt wave s).line with overrun := true, overrunAgain := true } }
    (Arrives dt wave .badCode f s → exec (.badRequestCode dt wave) s = .next (overrun s)) ∧
    (∀ r, Arrives dt wave (.request r) f s → r ≠ .restart →
      exec (requestInstr r dt residual wave) s = .next (overrun (shownFor r residual s)))

/-- R53: SET_POINT sets the runtime setpoint of every selected enabled channel, in any channel state, to the value carried or the
nearer limit, and answers OK or CLAMPED with the value taken; -2048 is refused with BAD_ARG. Model's choices: the microsecond clock
(log 1). -/
def Obligations.SetPointSetsSelectedSetpoints : Prop :=
  ∀ (dt : Nat) (wave : List Bool) (f : RxFrame) (s : State), Arrives dt wave (.request .setPoint) f s → Accepts .setPoint f s →
    AnswerFits f s → Selects f s →
    let v := twosComplement 12 (fieldAt f.payload 24 12)
    let img := s.loader.image
    let taken := if v < img.tLow then img.tLow else if img.tHigh < v then img.tHigh else v
    (v = -2048 → exec (.setPoint dt wave) s = .next (answered f .badArg [] (frameEnded dt wave s))) ∧
    (v ≠ -2048 → exec (.setPoint dt wave) s = .next
      { answered f (if img.tLow ≤ v ∧ v ≤ img.tHigh then .ok else .clamped) (packChars [⟨12, tempField (some taken)⟩, ⟨4, 0⟩])
          (frameEnded dt wave s) with
        chans := .of fun c => if picked f s c = true then { s.chans.get c with tSet := taken } else s.chans.get c })

/-- R54: HOLD puts each selected channel that is neither TRIPPED nor LOCKED in HOLD until the minutes taken have gone by, a
channel in HOLD getting the new expiry only; WRONG_STATE where none took it, BAD_ARG for 0 minutes. Its output stays to the end of
the half-cycle (R117), but for a HOLD at the moment at which a period began: its first half-cycle is not fired either (R145). R55:
RELEASE makes each selected channel in HOLD leave it as its expiry would, and answers OK with the mask of those channels. Model's
choices: the microsecond clock (log 1), a stop at the moment of a control step (log 49). -/
def Obligations.HoldAndReleaseMoveSelectedChannels : Prop :=
  (∀ (dt : Nat) (wave : List Bool) (f : RxFrame) (s : State), Arrives dt wave (.request .hold) f s → Accepts .hold f s →
    AnswerFits f s → Selects f s →
    let asked := charAt f.payload 3
    let minutes := min asked s.loader.image.holdMax
    let takes := fun c : Chan => picked f s c && (s.chans.get c).state.inService
    let expiry := s.now + dt + minutes * 60000000
    let enters := fun c : Chan => takes c = true ∧ (s.chans.get c).state ≠ .hold
    let cut := fun c : Chan => enters c ∧ (s.burst.chans.get c).out = true ∧
      s.burst.period = .running ∧ s.burst.idx = some 0 ∧ s.burst.lastEdge = some (s.now + dt)
    (asked = 0 → exec (.hold dt wave) s = .next (answered f .badArg [] (frameEnded dt wave s))) ∧
    (asked ≠ 0 → (∀ c, takes c = false) → exec (.hold dt wave) s = .next (answered f .wrongState [] (frameEnded dt wave s))) ∧
    (asked ≠ 0 → (∃ c, takes c = true) → exec (.hold dt wave) s = .next
      { answered f (if asked ≤ s.loader.image.holdMax then .ok else .clamped) [BitVec.ofNat 8 minutes] (frameEnded dt wave s) with
        chans := .of fun c =>
          if takes c = false then s.chans.get c
          else if (s.chans.get c).state = .hold then { s.chans.get c with holdExpiry := some expiry }
          else { s.chans.get c with state := .hold, d := 0, ds := 0, ramp := none, ctlTemp := none, ctlSrc := .none,
                                    holdExpiry := some expiry, clean := none }
        burst := { s.burst with
          chans := .of fun c =>
          if cut c then ⟨0, 0, false, some ⟨false, s.now + dt⟩⟩
          else if enters c then { s.burst.chans.get c with h := 0, r := 0 }
          else s.burst.chans.get c }
        meas := { s.meas with
          chans := .of fun c =>
          let m := s.meas.chans.get c
          if cut c then { m with told := false, onHalves := if m.told = true then m.onHalves - 1 else m.onHalves } else m } })) ∧
  (∀ (dt : Nat) (wave : List Bool) (f : RxFrame) (s : State), Arrives dt wave (.request .release) f s → Accepts .release f s →
    AnswerFits f s → Selects f s →
    let leaves := fun c : Chan => picked f s c && decide ((s.chans.get c).state = .hold)
    let mask := maskOf (Chan.list.filter leaves)
    ∃ t, exec (.release dt wave) s = .next t ∧
      (∀ c, leaves c = true →
        Started { s with now := s.now + dt } s.station.state.fires c (s.chans.get c) (t.chans.get c)) ∧
      (∀ c, leaves c = false → t.chans.get c = s.chans.get c) ∧
      { t with chans := s.chans } = answered f .ok [BitVec.ofNat 8 mask] (frameEnded dt wave s))

/-- R56, R183 to R186: RESET_TRIP ends the trip or removes the lock of each selected TRIPPED or LOCKED channel whose causes are
absent, refuses the others, and closes the contactor with the last lock list that held EARTH_LEAKAGE; the cause of that lock is
absent where the residual current is not over the threshold of the configured code. Model's choices: the microsecond clock (log 1),
levels of input pins (log 5), conditions that end with the trip (log 17), the residual current at the threshold (log 37). -/
def Obligations.ResetTripClearsAbsentCauses : Prop :=
  ∀ (dt residual : Nat) (wave : List Bool) (f : RxFrame) (s : State), Arrives dt wave (.request .resetTrip) f s →
    Accepts .resetTrip f s → AnswerFits f s → Selects f s →
    (∀ c k, s.fault.tripCause.get c = some k → k = .overcurrent ∨ k = .overtemp ∨ k = .heaterOpen) →
    let code := s.loader.image.leakCode
    let threshold := if code = 0 then 30 else if code = 1 then 100 else 300
    let out := fun c : Chan => picked f s c && !(s.chans.get c).state.inService
    let absent := fun c : Chan =>
      !s.hasCond .overtemp (some c) &&
        (decide ((s.chans.get c).state = .tripped) ||
          ((!(s.fault.locks.get c).contains .earthLeakage || decide (residual ≤ threshold)) &&
            (!(s.fault.locks.get c).contains .leakTestFail || !s.hasCond .leakTestFail none)))
    let clears := fun c : Chan => out c && absent c
    let refuses := fun c : Chan => out c && !absent c
    let mask := 16 * maskOf (Chan.list.filter refuses) + maskOf (Chan.list.filter clears)
    let status : Status := if Chan.list.filter refuses = [] then .ok else .causePresent
    ∃ t, exec (.resetTrip dt residual wave) s = .next t ∧
      (∀ c, clears c = false → t.chans.get c = s.chans.get c ∧ t.fault.tripCause.get c = s.fault.tripCause.get c ∧
        t.fault.locks.get c = s.fault.locks.get c) ∧
      (∀ c, clears c = true → (s.chans.get c).state = .tripped →
        t.fault.tripCause.get c = none ∧ t.fault.locks.get c = s.fault.locks.get c ∧
        Started { s with now := s.now + dt } s.station.state.fires c
          { s.chans.get c with
            reclose := none
            trial := if s.fault.tripCause.get c = some .overcurrent ∨ s.fault.tripCause.get c = some .heaterOpen
              then some (s.now + dt + seconds 30) else (s.chans.get c).trial } (t.chans.get c)) ∧
      (∀ c, clears c = true → (s.chans.get c).state = .locked →
        t.fault.locks.get c = [] ∧ t.fault.tripCause.get c = s.fault.tripCause.get c ∧
        Started { s with now := s.now + dt } s.station.state.fires c
          { s.chans.get c with trips := 0, trial := none, clean := none } (t.chans.get c)) ∧
      (∀ x, x ∈ t.fault.conds ↔ x ∈ s.fault.conds ∧
        ¬(∃ c, clears c = true ∧ x.chan = some c ∧ (x.kind = .overcurrent ∨ x.kind = .heaterOpen)) ∧
        ¬(x.kind = .earthLeakage ∧ x.chan = none ∧ s.earthLock = true ∧ t.earthLock = false)) ∧
      t.burst = { s.burst with
        contactor := if s.earthLock = true ∧ t.earthLock = false then true else s.burst.contactor } ∧
      { t with chans := s.chans, burst := s.burst, fault := s.fault } =
        answered f status [BitVec.ofNat 8 mask] (frameEnded dt wave { s with pins := { s.pins with residual := residual } }) ∧
      { t.fault with conds := s.fault.conds, tripCause := s.fault.tripCause, locks := s.fault.locks } = s.fault

/-- R48, R57, R58: LEAK_TEST and MEASURE answer DEFERRED and go in flight with the asker's id, the request number and whether an
answer is due; a LEAK_TEST while mains is lost is refused with WRONG_STATE. R59: RESLOT starts the listen interval again in
LISTENING, and a slot-choice interval of one listen interval in RUNNING and ISOLATED. Model's choices: the microsecond clock (log
1). -/
def Obligations.DeferredCommandsAndReslotStart : Prop :=
  (∀ (dt : Nat) (wave : List Bool) (f : RxFrame) (s : State), AnswerFits f s →
    let flight := fun name : Deferred => CmdState.inFlight name f.c1 (f.payload.getD 1 0)
      (decide (1 ≤ f.c2.toNat ∧ f.c2.toNat ≤ 239 ∧ f.c2.toNat = s.loader.image.id))
    (Arrives dt wave (.request .leakTest) f s → Accepts .leakTest f s → s.burst.period ≠ .lost →
      exec (.leakTest dt wave) s = .next { answered f .deferred [] (frameEnded dt wave s) with
        cmd := flight .leakTest
        meas := { s.meas with leakTest := .waiting, leakCount := 0, leakPresent := false }
        fault := { s.fault with watch := none } }) ∧
    (Arrives dt wave (.request .leakTest) f s → Accepts .leakTest f s → s.burst.period = .lost →
      exec (.leakTest dt wave) s = .next (answered f .wrongState [] (frameEnded dt wave s))) ∧
    (Arrives dt wave (.request .measure) f s → Accepts .measure f s →
      exec (.measure dt wave) s = .next { answered f .deferred [] (frameEnded dt wave s) with
        cmd := flight .measure, meas := { s.meas with measure := .waiting } })) ∧
  (∀ (dt : Nat) (wave : List Bool) (f : RxFrame) (s : State), Arrives dt wave (.request .reslot) f s → Accepts .reslot f s →
    AnswerFits f s →
    let due := some (s.now + dt + seconds s.loader.image.listen)
    (s.station.state = .listening → exec (.reslot dt wave) s = .next
      { answered f .ok [] (frameEnded dt wave s) with station := { s.station with listenTimer := due } }) ∧
    (s.station.state ≠ .listening → exec (.reslot dt wave) s = .next
      { answered f .ok [] (frameEnded dt wave s) with burst := { s.burst with slotTimer := due } }))

/-- R60, R202, R203: STOP_STATION begins the halt procedure with first cause OPERATOR_STOP: outputs off and contactor open at once,
the record captured, HALTING entered, its answer ahead of the FAULT_NOTICE and the REPORT of the change. Model's choices: the
microsecond clock (log 1). -/
def Obligations.StopStationBeginsHalt : Prop :=
  ∀ (dt : Nat) (wave : List Bool) (f : RxFrame) (s : State), Arrives dt wave (.request .stopStation) f s →
    Accepts .stopStation f s → s.line.queue = [] → s.station.mute = false → s.halt.proc = .idle →
    s.hasCond .operatorStop none = false → s.fault.pendingNotice = none → s.fault.placed = none → s.meas.leakTest = .idle →
    let now := s.now + dt
    ∃ t, exec (.stopStation dt wave) s = .next t ∧ t.now = now ∧
      t.station = { s.station with state := .halting, listenTimer := none, isolationTimer := none } ∧
      (∀ c, t.heaterPin c = false ∧ (t.burst.chans.get c).h = 0 ∧ (t.burst.chans.get c).r = 0) ∧ t.contactorPin = false ∧
      t.burst.slotTimer = none ∧
      (∀ c, (s.chans.get c).state.fires = true →
        (t.chans.get c).state = .off ∧ (t.chans.get c).d = 0 ∧ (t.chans.get c).ds = 0 ∧ (t.chans.get c).ramp = none) ∧
      (∀ c, (s.chans.get c).state.fires = false → t.chans.get c = s.chans.get c) ∧
      t.halt.proc = .confirming ∧
      t.halt.mode = (if s.burst.period = .running then .halfCycles 0 else .crystal (now + 100000)) ∧
      t.halt.currentSeen = false ∧ t.halt.leakSeen = false ∧
      t.halt.record.valid = true ∧ t.halt.record.first = some .operatorStop ∧ t.halt.record.second = none ∧
      t.halt.record.uptime = min ((now - s.station.uptimeBase) / 1000000) 16777215 ∧ t.halt.record.qs = s.budget.qs ∧
      t.halt.record.a = s.budget.a ∧
      (∀ c, s.enabled c = true → t.halt.record.chans.get c =
        ⟨(s.chans.get c).state, (shownTemp s c).1, (s.chans.get c).d, (s.chans.get c).ds⟩) ∧
      (∃ answer report, t.line.queue = answer ++
          [.notice ⟨⟨.operatorStop, none, .halt⟩, s.station.state, s.budget.qs, s.budget.a⟩, .report report] ∧
        report.state = .halting ∧ report.q = 0 ∧ report.a = 0 ∧
        (f.c2.toNat = s.loader.image.id → 1 ≤ f.c2.toNat → f.c2.toNat ≤ 239 →
          answer = [.answer ⟨f.c1, f.payload.getD 1 0, .ok, []⟩]) ∧
        (f.c2.toNat ≠ s.loader.image.id → answer = [])) ∧
      t.fault.conds = s.fault.conds ++ [⟨.operatorStop, none, .halt⟩] ∧ t.fault.placed = some .queued ∧
      t.loader = s.loader ∧ t.cmd = s.cmd ∧ t.peers = s.peers ∧ t.budget = s.budget ∧ t.pins = s.pins ∧
      t.fault.locks = s.fault.locks ∧ t.fault.tripCause = s.fault.tripCause

/-- R15, R16, R45: RESTART is carried out in LISTENING, RUNNING, ISOLATED and HALTED without need of room and whatever the command
unit holds, a command in flight or a completion not yet placed, which it drops. Everything of R16's table is set or cleared or
kept: the flow debounce starts again, every sensor, count and request of the sequencer is as at power-on and a conversion in
progress is abandoned, and a first round begins. LISTENING is entered with its timers, and the answer is the first frame of the
emptied queue, before the REPORT. Last part: a frame in transmission when a RESTART takes its effect runs on and is discarded if
it is lost, with the answer after it and the REPORT after that, or held while the frame is a REPORT; no frame of another station
ends while the station transmits (log 9), so this is said of the effect itself. Model's choices: the microsecond clock (log 1),
the receiver of a sending station (log 9), the answer of a mute station (log 12), the last edge and the sample in progress (log
20), the times at 60 Hz in whole microseconds (log 24), fields with no value in the spec (log 31). -/
def Obligations.RestartEndsThePresentRun : Prop :=
  (∀ (dt : Nat) (wave : List Bool) (f : RxFrame) (s : State), Arrives dt wave (.request .restart) f s →
    permitted s.loader.image f = true → allowed .restart s.station.state = true →
    let now := s.now + dt
    let img := s.loader.image
    ∃ t, exec (.restart dt wave) s = .next t ∧ t.now = now ∧ t.loader = s.loader ∧ t.pins = s.pins ∧ t.powered = s.powered ∧
      t.station = ⟨.listening, false, some (now + seconds img.listen), none, now⟩ ∧ t.uptime = 0 ∧ t.cmd = .empty ∧
      t.line.tx = s.line.tx ∧ t.line.txChars = s.line.txChars ∧
      t.line = { s.line.hear wave with
        rx := .awaitIdle, asm := [], left := 0, stamp := none, slot := none, queue := t.line.queue, hold := none
        discardOnLoss := decide (s.line.tx ≠ .idle), lineErr := false, overrun := false, errAgain := false, overrunAgain := false
        reportTimer := some (now + seconds img.rInt), lastQ := 0 } ∧
      (∃ answer report, t.line.queue = answer ++ [.report report] ∧ report.state = .listening ∧ report.q = 0 ∧ report.a = 0 ∧
        report.slot = s.burst.slot ∧
        (f.c2.toNat = img.id → 1 ≤ f.c2.toNat → f.c2.toNat ≤ 239 → answer = [.answer ⟨f.c1, f.payload.getD 1 0, .ok, []⟩]) ∧
        (f.c2.toNat ≠ img.id → answer = [])) ∧
      t.peers.entries = s.peers.entries.map (fun p => { p with delta := none }) ∧ t.peers.flow = .unknown ∧
      t.peers.debounced = .unknown ∧ t.peers.flowTimer = (if img.flowEnabled = true then some (now + 2000000) else none) ∧
      t.peers.ownInput = img.flowEnabled ∧
      (∀ c, t.ownTemp c = none) ∧ t.ambTemp = none ∧ (∀ c, t.meas.wall.get c = .powerOn) ∧ t.meas.amb = .powerOn ∧
      (∀ c, (t.meas.wall.get c).reject = 0) ∧ t.meas.amb.reject = 0 ∧
      (∀ c, t.meas.chans.get c = .powerOn (img.iNom.get c)) ∧
      (∀ c, let m := t.meas.chans.get c
        NoRequest m ∧ m.onSum = 0 ∧ m.onCount = 0 ∧ m.onHalves = 0 ∧ m.offAsked = false ∧ m.offTaken = false ∧ m.lastOff = none ∧
        m.overCount = 0 ∧ m.openCount = 0 ∧ m.stuckCount = 0 ∧ m.iMeas = 0 ∧ m.iEff = img.iNom.get c) ∧
      t.meas.conv = (match s.meas.conv with
        | some cv => some { cv with fate := .abandoned }
        | none => some ⟨.reading .refLo, false, .live, none, now + 250⟩) ∧
      t.meas.measure = .none ∧ t.meas.refFault = false ∧ t.meas.midpoint = none ∧ t.meas.leakCount = 0 ∧
      t.meas.leakPresent = false ∧ t.meas.leakTest = .idle ∧ t.leakDrivePin = false ∧ t.meas.roundOn = true ∧
      t.meas.roundTimer = some (now + 500000) ∧
      t.meas.remaining = [.refLo, .refHi] ++ (Chan.list.filter s.enabled).map .wall ++ [.ambient] ∧
      t.burst = { Burst.powerOn with slot := s.burst.slot, lastEdge := s.burst.lastEdge, contactor := !s.earthLock,
                                     mainsTimer := some (now + mainsLostTime img) } ∧
      t.budget = ⟨0, 0, 0, 0, 0⟩ ∧
      (∀ c, t.chans.get c = { Channel.powerOn (s.chans.get c).tSet with
        state := if (s.chans.get c).state = .locked then .locked else .off, trips := (s.chans.get c).trips }) ∧
      t.fault = { FaultUnit.powerOn with
        queue := s.fault.queue, locks := s.fault.locks
        conds := s.fault.conds.filter fun x => decide (x.kind = .earthLeakage ∨ x.kind = .leakTestFail) } ∧
      t.fault.tripCause = .const none ∧ t.fault.placed = none ∧ t.fault.pendingNotice = none ∧ t.fault.awaiting = [] ∧
      t.fault.watch = none ∧ t.halt = { Halt.powerOn with record := { s.halt.record with valid := false } }) ∧
  (∀ (f : RxFrame) (head : OutFrame) (rest : List OutFrame) (s : State), s.line.tx ≠ .idle → s.line.queue = head :: rest →
    let t := takeRestart f s
    let answer := if f.c2.toNat = s.loader.image.id ∧ 1 ≤ f.c2.toNat ∧ f.c2.toNat ≤ 239
      then [OutFrame.answer ⟨f.c1, f.payload.getD 1 0, .ok, []⟩] else []
    t.line.tx = s.line.tx ∧ t.line.txChars = s.line.txChars ∧ t.line.discardOnLoss = true ∧ t.line.rx = s.line.rx ∧
    t.station.state = .listening ∧ t.cmd = .empty ∧
    (head.isReport = false → t.line.hold = none ∧ ∃ r, t.line.queue = head :: answer ++ [.report r] ∧ r.state = .listening) ∧
    (head.isReport = true → t.line.queue = head :: answer ∧ ∃ r, t.line.hold = some r ∧ r.state = .listening))

/-- R61, R66: FAULT_POP and READ_FAULT_HEAD answer with the oldest record, EMPTY where there is none; FAULT_POP removes it, whether
or not an answer is due. R67: READ_IDENT answers with family 3Ah, revision 01h and the configuration's identity. Nothing else
changes. Model's choices: the microsecond clock (log 1). -/
def Obligations.FaultPopAndIdentAnswer : Prop :=
  (∀ (dt : Nat) (wave : List Bool) (f : RxFrame) (s : State), Arrives dt wave (.request .faultPop) f s → Accepts .faultPop f s →
    AnswerFits f s →
    (s.fault.queue = [] → exec (.faultPop dt wave) s = .next (answered f .empty [] (frameEnded dt wave s))) ∧
    (∀ r behind, s.fault.queue = r :: behind → ∃ result, HoldsRecord r result ∧
      exec (.faultPop dt wave) s = .next
        { answered f .ok result (frameEnded dt wave s) with fault := { s.fault with queue := behind } })) ∧
  (∀ (dt : Nat) (wave : List Bool) (f : RxFrame) (s : State), AnswerFits f s →
    (Arrives dt wave (.request .readFaultHead) f s → Accepts .readFaultHead f s →
      (s.fault.queue = [] → exec (.readFaultHead dt wave) s = .next (answered f .empty [] (frameEnded dt wave s))) ∧
      (∀ r behind, s.fault.queue = r :: behind → ∃ result, HoldsRecord r result ∧
        exec (.readFaultHead dt wave) s = .next (answered f .ok result (frameEnded dt wave s)))) ∧
    (Arrives dt wave (.request .readIdent) f s → Accepts .readIdent f s →
      ∃ x : List Byte, x.length = 7 ∧ exec (.readIdent dt wave) s = .next (answered f .ok x (frameEnded dt wave s)) ∧
        fieldAt x 0 8 = 0x3A ∧ fieldAt x 8 8 = 0x01 ∧ fieldAt x 16 16 = s.loader.crc.toNat ∧
        fieldAt x 32 8 = s.loader.image.id % 256 ∧ fieldAt x 40 12 = s.loader.image.position % 4096 ∧
        fieldAt x 52 3 = s.loader.image.feeder % 8 ∧ fieldAt x 55 1 = flag s.loader.clamped))

/-- R62, R63, R213: READ_CHANNEL and READ_STATION change nothing and answer with the values of a channel and of the station in the
fields of their layouts; a channel number above 3 or a disabled channel is refused with BAD_ARG. The temperature is the channel's
own accepted one with source OWN while no condition of the sensor is active, else in SUBSTITUTE the control temperature of the
last step with its source, else the invalid code with source NONE. R194: the highest active level is the greatest among the
conditions and the kinds of all lock lists, 0 with none. The first part says the same of the values that the halt record and a
REPORT hold. Model's choices: the microsecond clock (log 1). -/
def Obligations.ReadChannelAndStationShow : Prop :=
  (∀ s : State,
    (∀ c, let x := s.meas.wall.get c
      let ch := s.chans.get c
      (∀ a, s.enabled c = true → x.cond = none → x.accepted = some a → shownTemp s c = (some a.value, .own)) ∧
      (s.enabled c = false ∨ x.cond ≠ none ∨ x.accepted = none →
        (ch.state = .substitute → shownTemp s c = (ch.ctlTemp, ch.ctlSrc)) ∧
        (ch.state ≠ .substitute → shownTemp s c = (none, .none)))) ∧
    (∀ x ∈ s.fault.conds, x.kind.level ≤ s.highestLevel) ∧ (∀ c, ∀ k ∈ s.fault.locks.get c, k.level ≤ s.highestLevel) ∧
    (s.highestLevel ≠ 0 → (∃ x ∈ s.fault.conds, x.kind.level = s.highestLevel) ∨
      ∃ c, ∃ k ∈ s.fault.locks.get c, k.level = s.highestLevel)) ∧
  (∀ (dt : Nat) (wave : List Bool) (f : RxFrame) (s : State), Arrives dt wave (.request .readChannel) f s →
    Accepts .readChannel f s → AnswerFits f s →
    let n := charAt f.payload 2
    ((3 < n ∨ ∀ c : Chan, c.num = n → s.enabled c = false) →
      exec (.readChannel dt wave) s = .next (answered f .badArg [] (frameEnded dt wave s))) ∧
    (∀ c : Chan, c.num = n → s.enabled c = true → ∃ x : List Byte, x.length = 9 ∧
      exec (.readChannel dt wave) s = .next (answered f .ok x (frameEnded dt wave s)) ∧
      fieldAt x 0 3 = (s.chans.get c).state.code ∧ fieldAt x 3 3 = (shownTemp s c).2.code ∧
      fieldAt x 6 2 = (s.chans.get c).trips % 4 ∧ fieldAt x 8 12 = tempField (shownTemp s c).1 ∧
      fieldAt x 20 12 = tempField (some (s.chans.get c).tSet) ∧ fieldAt x 32 11 = (s.chans.get c).d % 2048 ∧
      fieldAt x 43 11 = (s.chans.get c).ds % 2048 ∧ fieldAt x 54 10 = (s.meas.chans.get c).iEff % 1024 ∧
      (∀ e, (s.chans.get c).state = .hold → (s.chans.get c).holdExpiry = some e →
        fieldAt x 64 8 = (e - (s.now + dt) + 59999999) / 60000000 % 256) ∧
      ((s.chans.get c).state ≠ .hold → fieldAt x 64 8 = 0))) ∧
  (∀ (dt : Nat) (wave : List Bool) (f : RxFrame) (s : State), Arrives dt wave (.request .readStation) f s →
    Accepts .readStation f s → AnswerFits f s →
    ∃ x : List Byte, x.length = 10 ∧ exec (.readStation dt wave) s = .next (answered f .ok x (frameEnded dt wave s)) ∧
      fieldAt x 0 3 = s.station.state.code ∧ fieldAt x 4 1 = flag s.loader.clamped ∧ fieldAt x 5 1 = flag s.line.lineErr ∧
      fieldAt x 6 1 = flag s.line.overrun ∧ fieldAt x 7 1 = flag (decide (s.burst.period = .lost)) ∧
      fieldAt x 8 12 = s.budget.u % 4096 ∧ fieldAt x 20 16 = min s.budget.s 65535 ∧ fieldAt x 36 12 = s.budget.a % 4096 ∧
      fieldAt x 48 11 = s.budget.k % 2048 ∧ fieldAt x 59 3 = s.burst.slot % 8 ∧
      (∀ i, s.burst.period = .running → s.burst.idx = some i → fieldAt x 62 6 = i % 64) ∧
      (s.burst.period ≠ .running → fieldAt x 62 6 = 0) ∧
      fieldAt x 68 2 = s.peers.flow.code ∧ fieldAt x 70 1 = flag s.peers.ownInput ∧ fieldAt x 71 3 = s.highestLevel % 8)

/-- R64, R65, R213: READ_HALT and READ_PEER change nothing and answer with a part of the halt record and of the entry at the index;
EMPTY beyond the last entry, BAD_ARG for an index or a part out of range. Model's choices: the microsecond clock (log 1). -/
def Obligations.ReadHaltAndPeerShow : Prop :=
  (∀ (dt : Nat) (wave : List Bool) (f : RxFrame) (s : State), Arrives dt wave (.request .readHalt) f s →
    Accepts .readHalt f s → AnswerFits f s →
    let n := charAt f.payload 2
    let r := s.halt.record
    (4 < n → exec (.readHalt dt wave) s = .next (answered f .badArg [] (frameEnded dt wave s))) ∧
    (n = 0 → ∃ x : List Byte, x.length = 8 ∧ exec (.readHalt dt wave) s = .next (answered f .ok x (frameEnded dt wave s)) ∧
      fieldAt x 0 1 = flag r.valid ∧ fieldAt x 1 4 = haltCauseCode r.first ∧ fieldAt x 5 4 = haltCauseCode r.second ∧
      fieldAt x 9 24 = r.uptime % 16777216 ∧ fieldAt x 33 12 = r.qs % 4096 ∧ fieldAt x 45 12 = r.a % 4096) ∧
    (∀ c : Chan, n = c.num + 1 → ∃ x : List Byte, x.length = 5 ∧
      exec (.readHalt dt wave) s = .next (answered f .ok x (frameEnded dt wave s)) ∧
      fieldAt x 0 3 = (r.chans.get c).state.code ∧ fieldAt x 3 12 = tempField (r.chans.get c).temp ∧
      fieldAt x 15 11 = (r.chans.get c).d % 2048 ∧ fieldAt x 26 11 = (r.chans.get c).ds % 2048)) ∧
  (∀ (dt : Nat) (wave : List Bool) (f : RxFrame) (s : State), Arrives dt wave (.request .readPeer) f s →
    Accepts .readPeer f s → AnswerFits f s →
    let index := charAt f.payload 2
    let part := charAt f.payload 3
    (15 < index ∨ 1 < part → exec (.readPeer dt wave) s = .next (answered f .badArg [] (frameEnded dt wave s))) ∧
    (index ≤ 15 → part ≤ 1 → s.peers.entries.length ≤ index →
      exec (.readPeer dt wave) s = .next (answered f .empty [] (frameEnded dt wave s))) ∧
    (∀ p, index ≤ 15 → s.peers.entries[index]? = some p →
      (part = 0 → ∃ x : List Byte, x.length = 7 ∧ exec (.readPeer dt wave) s = .next (answered f .ok x (frameEnded dt wave s)) ∧
        fieldAt x 0 8 = p.id % 256 ∧ fieldAt x 8 12 = p.position % 4096 ∧ fieldAt x 20 3 = p.feeder % 8 ∧
        fieldAt x 23 4 = p.weight % 16 ∧ fieldAt x 27 3 = p.state.code ∧ fieldAt x 30 2 = p.flow.code ∧
        fieldAt x 32 1 = flag p.ownInput ∧ fieldAt x 33 3 = p.level % 8 ∧ fieldAt x 36 3 = p.slot % 8 ∧
        fieldAt x 39 2 = p.age.code ∧
        ((s.now + dt - p.last) / 1000000 ≤ 30 * s.loader.image.rInt →
          fieldAt x 41 9 = (s.now + dt - p.last) / 1000000 % 512)) ∧
      (part = 1 → ∃ x : List Byte, x.length = 8 ∧ exec (.readPeer dt wave) s = .next (answered f .ok x (frameEnded dt wave s)) ∧
        fieldAt x 0 8 = p.id % 256 ∧ fieldAt x 8 12 = p.q % 4096 ∧ fieldAt x 20 12 = p.a % 4096 ∧
        fieldAt x 32 12 = tempField p.entry ∧ fieldAt x 44 12 = tempField p.exit ∧
        (∀ v, p.delta = some v → fieldAt x 56 1 = 1 ∧ fieldAt x 57 6 = v % 64) ∧
        (p.delta = none → fieldAt x 56 1 = 0 ∧ fieldAt x 57 6 = 0))))

/-! ## Peer table -/

/-- R71, R72, R74, R79, R82: a REPORT from another station writes its entry: in place where feeder and position are the same, else
at its new place, and as a new entry where the table has room. The phase difference is recorded for the own feeder where the frame
has a stamp. A same-feeder REPORT stops the isolation timer and ends ISOLATED. Model's choices: the microsecond clock (log 1), the
order at an admission (log 22). -/
def Obligations.ReportWritesThePeerEntry : Prop :=
  ∀ (dt : Nat) (wave : List Bool) (f : RxFrame) (r : ReportFields) (s : State), PeersOrdered s → Arrives dt wave .report f s →
    let id := f.c1.toNat
    let img := s.loader.image
    let now := s.now + dt
    1 ≤ id → id ≤ 239 → id ≠ img.id → readReport f.payload = some r →
    let known := s.peers.entries.find? fun p => decide (p.id = id)
    let written := fun d : Option Nat => { newPeer id now r with
      delta := if r.feeder = img.feeder then (f.stamp.map fun own => (((r.phase : Int) - own) % 64).toNat).or d else d }
    let crowdEnds := r.feeder = img.feeder ∧ ∀ p, known = some p → p.feeder ≠ img.feeder
    (known = none → s.peers.entries.length < 16) →
    ∃ t, exec (.report dt wave) s = .next t ∧
      (∀ p, known = some p → p.feeder = r.feeder → p.position = r.position →
        t.peers.entries = s.peers.entries.map fun q => if q.id = id then written p.delta else q) ∧
      (∀ p, known = some p → (p.feeder ≠ r.feeder ∨ p.position ≠ r.position) →
        t.peers.entries.length = s.peers.entries.length ∧
        ∀ q, q ∈ t.peers.entries ↔ q = written none ∨ (q ∈ s.peers.entries ∧ q.id ≠ id)) ∧
      (known = none → t.peers.entries.length = s.peers.entries.length + 1 ∧
        ∀ q, q ∈ t.peers.entries ↔ q = written none ∨ q ∈ s.peers.entries) ∧
      (r.feeder = img.feeder → s.station.state = .isolated →
        t.station = { s.station with state := .running, isolationTimer := none } ∧
        t.line.reportTimer = some (now + seconds img.rInt)) ∧
      (r.feeder = img.feeder → s.station.state ≠ .isolated →
        t.station = { s.station with isolationTimer := none } ∧ t.line = (frameEnded dt wave s).line) ∧
      (r.feeder ≠ img.feeder →
        t.station = (if s.station.state = .running ∧ 1 < img.nf ∧ liveSame img s.peers.entries = true ∧
            liveSame img t.peers.entries = false
          then { s.station with isolationTimer := some (now + seconds (10 * img.rInt)) } else s.station) ∧
        t.line = (frameEnded dt wave s).line) ∧
      (∀ x, x ∈ t.fault.conds ↔ x ∈ s.fault.conds ∧ ¬(crowdEnds ∧ x.kind = .feederCrowded ∧ x.chan = none)) ∧
      { t.fault with conds := s.fault.conds } = s.fault ∧ t.peers = { s.peers with entries := t.peers.entries } ∧
      { t with peers := s.peers, station := s.station, line := s.line, fault := s.fault } = { s with now := now }

/-- R75: a newcomer to a full table displaces the LOST entry longest silent that it may displace, else the farthest entry of another
feeder (an other-feeder newcomer only one farther than itself); where no entry is found it is refused, and a refused same-feeder
newcomer raises FEEDER_CROWDED. Model's choices: the microsecond clock (log 1). -/
def Obligations.FullTableIsSettledByDisplacement : Prop :=
  ∀ (dt : Nat) (wave : List Bool) (f : RxFrame) (r : ReportFields) (s : State), PeersOrdered s → Arrives dt wave .report f s →
    let id := f.c1.toNat
    let img := s.loader.image
    let own := r.feeder = img.feeder
    let dist := fun position : Nat => ((position : Int) - img.position).natAbs
    1 ≤ id → id ≤ 239 → id ≠ img.id → readReport f.payload = some r → s.peers.entries.length = 16 →
    (∀ p ∈ s.peers.entries, p.id ≠ id) →
    let old := s.peers.entries
    let mayLose := fun p : Peer => p ∈ old ∧ p.age = .lost ∧ (own ∨ p.feeder ≠ img.feeder)
    let far := fun p : Peer => p ∈ old ∧ p.feeder ≠ img.feeder
    let replaced := fun (v : Peer) (t : State) => t.peers.entries.length = 16 ∧
      ∀ q, (q ∈ t.peers.entries ∧ q.id ≠ id) ↔ (q ∈ old ∧ q ≠ v)
    ∃ t, exec (.report dt wave) s = .next t ∧
      (∀ v, mayLose v → (∀ w, mayLose w → w ≠ v → v.last < w.last ∨ (v.last = w.last ∧ w.id < v.id)) →
        replaced v t ∧ ∃ p ∈ t.peers.entries, p.id = id ∧ p.age = .fresh) ∧
      ((∀ w, ¬mayLose w) → ∀ v, far v →
        (∀ w, far w → w ≠ v → dist w.position < dist v.position ∨ (dist w.position = dist v.position ∧ w.id < v.id)) →
        ((own ∨ dist r.position < dist v.position) → replaced v t ∧ ∃ p ∈ t.peers.entries, p.id = id ∧ p.age = .fresh) ∧
        (¬(own ∨ dist r.position < dist v.position) → t = frameEnded dt wave s)) ∧
      ((∀ w, ¬mayLose w) → (∀ w, ¬far w) → t.peers = s.peers ∧ t.station = s.station ∧
        (own → t.hasCond .feederCrowded none = true ∧ t.chans = s.chans ∧ t.burst = s.burst) ∧ (¬own → t = frameEnded dt wave s))

/-- R70: a REPORT or FAULT_NOTICE is discarded, with nothing but the receiver changed, where its sender id is 0 or above 239, where
it holds a code that names nothing, and a notice where its sender has no entry. R73: a FAULT_NOTICE from a station that has an entry
writes its state, level, Q and A and makes the entry FRESH; on the own feeder it stops the isolation timer, and it does not end
ISOLATED. Model's choices: the microsecond clock (log 1). -/
def Obligations.OtherFramesAtThePeerTable : Prop :=
  (∀ (dt : Nat) (wave : List Bool) (f : RxFrame) (s : State), f.c1.toNat ≠ s.loader.image.id →
    (Arrives dt wave .report f s → (f.c1.toNat = 0 ∨ 239 < f.c1.toNat ∨
        fieldAt f.payload 19 3 = 0 ∨ 5 < fieldAt f.payload 19 3 ∨ fieldAt f.payload 22 2 = 3) →
      exec (.report dt wave) s = .next (frameEnded dt wave s)) ∧
    (Arrives dt wave .notice f s → (f.c1.toNat = 0 ∨ 239 < f.c1.toNat ∨
        fieldAt f.payload 13 3 = 0 ∨ 5 < fieldAt f.payload 13 3 ∨ ∀ p ∈ s.peers.entries, p.id ≠ f.c1.toNat) →
      exec (.faultNotice dt wave) s = .next (frameEnded dt wave s))) ∧
  (∀ (dt : Nat) (wave : List Bool) (f : RxFrame) (n : NoticeFields) (p : Peer) (s : State), Arrives dt wave .notice f s →
    let id := f.c1.toNat
    1 ≤ id → id ≤ 239 → id ≠ s.loader.image.id → readNotice f.payload = some n →
    s.peers.entries.find? (fun p => decide (p.id = id)) = some p →
    exec (.faultNotice dt wave) s = .next { frameEnded dt wave s with
      peers := { s.peers with
        entries := s.peers.entries.map fun q =>
        if q.id = id then { q with state := n.state, level := n.level, q := n.q, a := n.a, age := .fresh, last := s.now + dt }
        else q }
      station := if p.feeder = s.loader.image.feeder then { s.station with isolationTimer := none } else s.station })

/-- R84, R13, R14: a frame that bears the own id mutes the station: its transmission is aborted, queue, hold, pending and awaiting
notices and a held completion are gone, no line flag is set, the peer table is untouched, and DUPLICATE_ID is raised with no notice.
Model's choices: the microsecond clock (log 1), what muting leaves (log 11). -/
def Obligations.OwnIdHeardMutesTheStation : Prop :=
  ∀ (dt : Nat) (wave : List Bool) (f : RxFrame) (s : State), f.c1.toNat = s.loader.image.id → s.station.mute = false →
    s.hasCond .duplicateId none = false →
    (Arrives dt wave .report f s ∨ Arrives dt wave .notice f s) →
    ∃ t, (Arrives dt wave .report f s → exec (.report dt wave) s = .next t) ∧
      (Arrives dt wave .notice f s → exec (.faultNotice dt wave) s = .next t) ∧
      t.now = s.now + dt ∧ t.station = { s.station with mute := true } ∧
      t.line = { (frameEnded dt wave s).line with tx := .idle, txChars := [], discardOnLoss := false, queue := [], hold := none } ∧
      t.cmd = (if s.cmd.occupied = true then .empty else s.cmd) ∧
      t.fault.conds = s.fault.conds ++ [⟨.duplicateId, none, .note⟩] ∧ t.fault.placed = none ∧ t.fault.pendingNotice = none ∧
      t.fault.awaiting = [] ∧ t.fault.locks = s.fault.locks ∧ t.fault.tripCause = s.fault.tripCause ∧
      { t with now := s.now, station := s.station, line := s.line, cmd := s.cmd, fault := s.fault } = s

/-- R76, R77: FRESH becomes STALE, STALE becomes LOST and the entry leaves at 3, 10 and 30 report intervals after its last frame;
with the last live entry of the feeder the isolation timer starts in RUNNING with N_f above 1. R80: with the flow input enabled each
change of its level restarts the 2 s count, and a level held for 2 s decides FLOWING while active and STAGNANT while not. Model's
choices: the microsecond clock (log 1). -/
def Obligations.EntriesAgeAndFlowIsDebounced : Prop :=
  (∀ (p : Peer) (s : State), PeersOrdered s → p ∈ s.peers.entries →
    let img := s.loader.image
    let after := fun (n : Nat) (entries : List Peer) =>
      let now := max s.now (p.last + seconds (n * img.rInt))
      ({ s with
        now := now
        peers := { s.peers with entries := entries }
        station := if s.station.state = .running ∧ 1 < img.nf ∧ liveSame img s.peers.entries = true ∧ liveSame img entries = false
          then { s.station with isolationTimer := some (now + seconds (10 * img.rInt)) } else s.station } : State)
    (p.age = .fresh → exec (.staleExpiry p.id) s =
      .next (after 3 (s.peers.entries.map fun q => if q = p then { p with age := .stale } else q))) ∧
    (p.age = .stale → exec (.lostExpiry p.id) s =
      .next (after 10 (s.peers.entries.map fun q => if q = p then { p with age := .lost } else q))) ∧
    exec (.removalExpiry p.id) s = .next (after 30 (s.peers.entries.filter fun q => decide (q ≠ p)))) ∧
  ((∀ (dt : Nat) (low : Bool) (s : State), s.pins.fs ≠ low →
    (s.active = true → s.loader.image.flowEnabled = true → exec (.flowInputChange dt low) s =
      .next { s with now := s.now + dt, pins := { s.pins with fs := low },
                     peers := { s.peers with flowTimer := some (s.now + dt + 2000000) } }) ∧
    (s.loader.image.flowEnabled = false → exec (.flowInputChange dt low) s =
      .next { s with now := s.now + dt, pins := { s.pins with fs := low } })) ∧
  (∀ (e : Nat) (s : State), s.peers.flowTimer = some e →
    exec .flowDebounceExpiry s = .next { s with
      now := max s.now e,
      peers := { s.peers with flowTimer := none, debounced := if s.pins.fs = true then .flowing else .stagnant } }))

/-- R78: the upstream neighbour is the FRESH entry with the greatest position below the own, the downstream neighbour the FRESH
entry with the least position above it, the lowest id among equals; with no such entry there is none. R81: a control step sets the
flow status to the debounced one with the own-input flag set, or, with the flow input disabled, clears the flag and adopts the
status of the nearest upstream entry in FRESH or STALE that has a flow input and knows its status, else of the nearest such
downstream entry, the lowest id among equals, else UNKNOWN. -/
def Obligations.NeighboursAreNearestFreshEntries : Prop :=
  (∀ (s : State), PeersOrdered s →
    let own := s.loader.image.position
    let lends := fun p : Peer =>
      p ∈ s.peers.entries ∧ (p.age = .fresh ∨ p.age = .stale) ∧ p.ownInput = true ∧ (p.flow = .flowing ∨ p.flow = .stagnant)
    let up := fun p : Peer => lends p ∧ p.position < own ∧
      ∀ q, lends q → q.position < own → q ≠ p → q.position < p.position ∨ (q.position = p.position ∧ p.id < q.id)
    let down := fun p : Peer => lends p ∧ own < p.position ∧
      ∀ q, lends q → own < q.position → q ≠ p → p.position < q.position ∨ (q.position = p.position ∧ p.id < q.id)
    let flow := (controlStep s).peers.flow
    (s.loader.image.flowEnabled = true → flow = s.peers.debounced ∧ (controlStep s).peers.ownInput = true) ∧
    (s.loader.image.flowEnabled = false →
      (controlStep s).peers.ownInput = false ∧ (∀ p, up p → flow = p.flow) ∧
      ((∀ q, lends q → ¬q.position < own) → (∀ p, down p → flow = p.flow) ∧
        ((∀ q, lends q → ¬own < q.position) → flow = .unknown))) ∧
    { (controlStep s).peers with flow := s.peers.flow, ownInput := s.peers.ownInput } = s.peers) ∧
  (∀ (s : State), PeersOrdered s →
    (∀ p, upNeighbour s = some p ↔ (p ∈ s.peers.entries ∧ p.age = .fresh ∧ p.position < s.loader.image.position ∧
      ∀ q ∈ s.peers.entries, q.age = .fresh → q.position < s.loader.image.position → q ≠ p →
        q.position < p.position ∨ (q.position = p.position ∧ p.id < q.id))) ∧
    (∀ p, downNeighbour s = some p ↔ (p ∈ s.peers.entries ∧ p.age = .fresh ∧ s.loader.image.position < p.position ∧
      ∀ q ∈ s.peers.entries, q.age = .fresh → s.loader.image.position < q.position → q ≠ p →
        p.position < q.position ∨ (q.position = p.position ∧ p.id < q.id))))

/-- R68, R69: after every step the table holds at most 16 entries in ascending order of position and id, no two of one id, none of
the own id. -/
def Obligations.PeersOrderedAfterEveryStep : Prop :=
  ∀ s t : State, PeersOrdered s → (s.loader.status = .passed ↔ s.active = true) → step s = .next t → PeersOrdered t

/-! ## Measurement sequencer -/

/-- R87 to R90: the round timer keeps its 500 ms period and starts a round where none is in progress; at the end of a sample's first
conversion the second begins, but for a temperature reading that a current request interrupts, requests being served in channel
order; a kept reading is stored and the next reading begins. Model's choices: the microsecond clock (log 1). -/
def Obligations.ConverterFollowsTheArbiter : Prop :=
  (∀ (e : Nat) (s : State), s.meas.roundTimer = some e →
    let now := max s.now e
    let meas := { s.meas with roundTimer := some (e + 500000) }
    let begun := { meas with
      roundOn := true
      remaining := [.refLo, .refHi] ++ (Chan.list.filter s.enabled).map .wall ++ [.ambient]
      measure := if s.meas.measure = .waiting then .serving else s.meas.measure }
    (s.meas.roundOn = true → exec .roundTimerExpiry s = .next { s with now := now, meas := meas }) ∧
    (s.meas.roundOn = false → s.meas.conv = none → (∀ c, NoRequest (s.meas.chans.get c)) →
      exec .roundTimerExpiry s = .next { s with now := now, meas := { begun with
        conv := some ⟨.reading .refLo, false, .live, none, now + 250⟩ } }) ∧
    (∀ cv, s.meas.roundOn = false → s.meas.conv = some cv →
      exec .roundTimerExpiry s = .next { s with now := now, meas := begun })) ∧
  (∀ (raw : Word16) (cv : Conversion) (s : State), s.meas.conv = some cv → cv.kept = false → cv.fate ≠ .abandoned →
    let now := max s.now cv.ends
    let second := { s with
      now := now
      meas := { s.meas with conv := some { cv with kept := true, ends := now + 250 }, convEnd := some now } }
    (∀ c k, cv.sample = .current c k → exec (.conversionEnd raw) s = .next second) ∧
    (∀ r, cv.sample = .reading r → (∀ c, NoRequest (s.meas.chans.get c)) → exec (.conversionEnd raw) s = .next second) ∧
    (∀ r c, cv.sample = .reading r → (∀ d : Chan, d.num < c.num → NoRequest (s.meas.chans.get d)) →
      let m := s.meas.chans.get c
      let serve := fun (k : CurrentKind) (m' : ChanMeas) => { s with now := now, meas := { s.meas with
        conv := some ⟨.current c k, false, .live, none, now + 250⟩, convEnd := some now, chans := s.meas.chans.set c m' } }
      (m.reqCheck = .bound → exec (.conversionEnd raw) s = .next (serve .check { m with reqCheck := .none })) ∧
      (m.reqCheck = .none → m.reqOff = true → exec (.conversionEnd raw) s = .next (serve .offCheck { m with reqOff := false })) ∧
      (m.reqCheck = .none → m.reqOff = false → m.reqOn = true →
        exec (.conversionEnd raw) s = .next (serve .onSample { m with reqOn := false })))) ∧
  (∀ (raw : Word16) (r next : Reading) (behind : List Reading) (limit : Option Nat) (fate : Fate) (e : Nat) (s : State),
    s.meas.conv = some ⟨.reading r, true, fate, limit, e⟩ → fate ≠ .abandoned → s.meas.roundOn = true →
    s.meas.remaining = r :: next :: behind → (∀ c, NoRequest (s.meas.chans.get c)) → r ≠ .ambient →
    let now := max s.now e
    exec (.conversionEnd raw) s = .next { s with now := now, meas := { s.meas with
      conv := some ⟨.reading next, false, .live, none, now + 250⟩
      convEnd := some now
      remaining := next :: behind
      rawLo := if r = .refLo then raw.toNat else s.meas.rawLo
      rawHi := if r = .refHi then raw.toNat else s.meas.rawHi
      rawWall := .of fun c => if r = .wall c then raw.toNat else s.meas.rawWall.get c } })

/-- R90 to R97: at the end of the kept conversion of AMB every sensor read is settled at one event by the calibration, the sensor
range and the rate check; with a bad span nothing is computed or accepted and REFERENCE_FAULT is active. R163, R166, R175: a valid
temperature below T_alarm_low ends the hold of a channel in HOLD and raises HOLD_OVERRIDE, and raises LOW_TEMP in a firing state;
both clear at T_alarm_low + 20. One above T_max raises OVERTEMP, which trips a channel in service, or locks it during its trial,
its output on to the end of the half-cycle but for one that began a period at this moment; one below T_max - 50 clears it and ends
an OVERTEMP trip with no trial. A short or an open raises SENSOR_SHORT or SENSOR_OPEN of the channel at the fault unit and clears
the other, or raises AMBIENT_SENSOR; each clears there with its sensor's condition. R58, R99, R49: a MEASURE that is served
completes with the five temperatures as they then stand. Model's choices: the microsecond clock (log 1), two rows for one edge or
conversion (log 8), the order within a round (log 15), LOW_TEMP in the round that ends a hold (log 16), conditions that end with
the trip (log 17), a stop at the moment of a control step (log 49). -/
def Obligations.RoundCompleteSettlesTemperatures : Prop :=
  ∀ (raw : Word16) (limit : Option Nat) (e : Nat) (s : State), s.meas.conv = some ⟨.reading .ambient, true, .live, limit, e⟩ →
    let now := max s.now e
    let lo := s.meas.rawLo
    let hi := s.meas.rawHi
    let good := lo + 3000 ≤ hi ∧ hi ≤ lo + 6000
    ∃ t, exec (.roundComplete raw) s = .next t ∧ exec (.conversionEnd raw) s = .next t ∧ t.now = now ∧ t.meas.roundOn = false ∧
      (good → t.meas.refFault = false ∧ t.hasCond .referenceFault none = false ∧
        (∀ c, s.enabled c = true → SensorSettled now
          (((s.meas.rawWall.get c : Int) - lo) * 1000 / ((hi : Int) - lo) + s.loader.image.trims.get c)
          (s.meas.wall.get c) (t.meas.wall.get c)) ∧
        (∀ c, s.enabled c = false → t.meas.wall.get c = s.meas.wall.get c) ∧
        SensorSettled now (((raw.toNat : Int) - lo) * 1000 / ((hi : Int) - lo) + s.loader.image.trimAmb) s.meas.amb t.meas.amb) ∧
      (¬good → t.meas.refFault = true ∧ t.hasCond .referenceFault none = true ∧
        (∀ c, t.meas.wall.get c = { s.meas.wall.get c with
          clear := 0, valid := if (s.meas.wall.get c).temp.isSome = true then min ((s.meas.wall.get c).valid + 1) 3 else 0 }) ∧
        t.meas.amb = { s.meas.amb with
          clear := 0, valid := if s.meas.amb.temp.isSome = true then min (s.meas.amb.valid + 1) 3 else 0 }) ∧
      (let temp := fun (r : Nat) (trim : Int) => ((r : Int) - lo) * 1000 / ((hi : Int) - lo) + trim;
        (∀ c, let x := temp (s.meas.rawWall.get c) (s.loader.image.trims.get c)
          let had := fun k : SensorCond => decide ((s.meas.wall.get c).cond = some k)
          let has := fun k : SensorCond => decide ((t.meas.wall.get c).cond = some k)
          t.hasCond .sensorShort (some c) = (if good ∧ s.enabled c = true then
            decide (x < -600) || (s.hasCond .sensorShort (some c) && !(had .short && !has .short))
            else s.hasCond .sensorShort (some c)) ∧
          t.hasCond .sensorOpen (some c) = (if good ∧ s.enabled c = true then
            decide (2500 < x) || (s.hasCond .sensorOpen (some c) && !(had .opened && !has .opened))
            else s.hasCond .sensorOpen (some c))) ∧
        t.hasCond .ambientSensor none = (if good then
          decide (temp raw.toNat s.loader.image.trimAmb < -600 ∨ 2500 < temp raw.toNat s.loader.image.trimAmb) ||
            (s.hasCond .ambientSensor none && !decide (s.meas.amb.cond ≠ none ∧ t.meas.amb.cond = none))
          else s.hasCond .ambientSensor none)) ∧
      (s.meas.measure ≠ .serving → t.meas.measure = s.meas.measure) ∧ (s.meas.measure = .serving → t.meas.measure = .none) ∧
      (∀ c, let ch := s.chans.get c
        let alarm := s.loader.image.tAlarm
        let limit := s.loader.image.tMax
        let was := fun k : FaultKind => s.hasCond k (some c)
        let is := fun k : FaultKind => t.hasCond k (some c)
        let inService := ch.state ≠ .tripped ∧ ch.state ≠ .locked
        (t.ownTemp c = none → is .holdOverride = was .holdOverride ∧ is .lowTemp = was .lowTemp ∧ is .overtemp = was .overtemp ∧
          t.chans.get c = ch) ∧
        (∀ v, t.ownTemp c = some v →
          is .holdOverride = (if v < alarm then was .holdOverride || decide (ch.state = .hold)
            else was .holdOverride && decide (v < alarm + 20)) ∧
          is .lowTemp = (if v < alarm then was .lowTemp || ch.state.fires else was .lowTemp && decide (v < alarm + 20)) ∧
          is .overtemp = (if limit < v then true else was .overtemp && decide (limit - 50 ≤ v)) ∧
          (limit < v → was .overtemp = false → inService →
            let stopped := { ch with d := 0, ds := 0, ramp := none, ctlTemp := none, ctlSrc := .none, holdExpiry := none,
                                     clean := none }
            (ch.trial = none → t.chans.get c = { stopped with state := .tripped, reclose := none } ∧
              t.fault.tripCause.get c = some .overtemp ∧ t.fault.locks.get c = s.fault.locks.get c) ∧
            (ch.trial ≠ none → t.chans.get c = { stopped with state := .locked, reclose := none, trial := none } ∧
              t.fault.tripCause.get c = none ∧
              ∀ k, k ∈ t.fault.locks.get c ↔ k ∈ s.fault.locks.get c ∨ k = .overtemp ∨ s.fault.tripCause.get c = some k) ∧
            (t.burst.chans.get c).h = 0 ∧ (t.burst.chans.get c).r = 0 ∧
            (t.heaterPin c = true ↔ s.heaterPin c = true ∧
              ¬(s.burst.period = .running ∧ s.burst.idx = some 0 ∧ s.burst.lastEdge = some now))) ∧
          (v < limit - 50 → was .overtemp = true → ch.state = .tripped → s.fault.tripCause.get c = some .overtemp →
            Started t s.station.state.fires c { ch with reclose := none } (t.chans.get c) ∧ t.fault.tripCause.get c = none) ∧
          (v < alarm → ch.state = .hold → (v ≤ limit ∨ was .overtemp = true) →
            Started t s.station.state.fires c ch (t.chans.get c)) ∧
          (¬(limit < v ∧ was .overtemp = false ∧ inService) →
            ¬(v < limit - 50 ∧ was .overtemp = true ∧ ch.state = .tripped ∧ s.fault.tripCause.get c = some .overtemp) →
            ¬(v < alarm ∧ ch.state = .hold) →
            t.chans.get c = ch ∧ t.fault.tripCause.get c = s.fault.tripCause.get c ∧
              t.fault.locks.get c = s.fault.locks.get c))) ∧
      (s.meas.measure ≠ .serving → t.cmd = s.cmd) ∧
      (∀ asker reqNo due, s.meas.measure = .serving → s.cmd = .inFlight .measure asker reqNo due →
        (due = false ∨ s.station.mute = true → t.cmd = .empty) ∧
        (due = true → s.station.mute = false → ∃ x : List Byte, x.length = 8 ∧
          (∀ c : Chan, fieldAt x (12 * c.num) 12 = tempField (t.ownTemp c)) ∧ fieldAt x 48 12 = tempField t.ambTemp ∧
          (s.line.queue.length ≤ 2 → t.cmd = .empty) ∧ (QueueBounded s.line → 4 ≤ s.line.queue.length → t.cmd ≠ .empty) ∧
          ((t.cmd = .empty ∧ ∃ before, t.line.queue = before ++ [.answer ⟨asker, reqNo, .ok, x⟩]) ∨
            (t.cmd = .held ⟨asker, reqNo, .ok, x⟩ ∧ 4 ≤ t.line.queue.length)))) ∧
      t.station = s.station ∧ t.budget = s.budget ∧ t.loader = s.loader ∧ t.peers = s.peers ∧ t.halt = s.halt ∧ t.pins = s.pins

/-- R91, R95, R100, R204: at an age expiry every temperature accepted at the same event becomes invalid together, with its valid-
round count 0; a check request on the crystal time base that times out is dropped and asked again. Model's choices: the microsecond
clock (log 1), requests at a conversion end (log 38), the half-cycle of the new request (log 39). -/
def Obligations.AgeAndCheckRequestsRunOut : Prop :=
  (∀ (sensor : Sensor) (a : Accepted) (s : State), (s.sensor sensor).accepted = some a →
    let out := fun x : SensorState =>
      if x.accepted.map (·.since) = some a.since then ({ x with accepted := none, valid := 0 } : SensorState) else x
    exec (.temperatureAgeExpiry sensor) s = .next { s with
      now := max s.now (a.since + 5000000), meas := { s.meas with wall := .of fun c => out (s.meas.wall.get c), amb := out s.meas.amb } }) ∧
  (∀ (c : Chan) (e : Nat) (s : State), (s.meas.chans.get c).reqCheck = .crystal e →
    let now := max s.now e
    let dropped := s.meas.chans.set c { s.meas.chans.get c with reqCheck := .none }
    (s.halt.proc ≠ .checking → exec (.checkRequestTimeout c) s = .next { s with now := now, meas := { s.meas with chans := dropped } }) ∧
    (s.halt.proc = .checking → s.burst.period = .running → exec (.checkRequestTimeout c) s =
      .next { s with now := now, meas := { s.meas with chans := dropped },
                     halt := { s.halt with checks := s.halt.checks.set c .afterEdge } }) ∧
    (s.halt.proc = .checking → s.burst.period ≠ .running → ∃ t, exec (.checkRequestTimeout c) s = .next t ∧
      RequestsServed { s with
        now := now
        meas := { s.meas with chans := s.meas.chans.set c { s.meas.chans.get c with reqCheck := .crystal (now + 10000) } }
        halt := { s.halt with checks := s.halt.checks.set c .requested } } t))

/-- R100, R106, R180, R204: the mid-point of a half-cycle asks an on-sample of each enabled channel that is on, one off-check in the
period of each that is off, and in CHECKING the check samples that wait for it, the comparator read once for them. R88: an idle
converter takes the first request in channel order, a check before an off-check, or else the next reading of a round in progress; a
request at the moment of a conversion end is served next, in place of what that end began. Then the comparator is sampled: a
residual current not over the threshold sets the leakage count to 0, one over it raises the count, and the third in a row locks
every enabled channel, turns the outputs off and opens the contactor. R57, R107, R108, R49: in a leak test, and in the half-cycle in
which one ended, the comparator counts nothing; a residual current over the threshold while the drive is on ends it with PASS, which
clears LEAK_TEST_FAIL and completes LEAK_TEST. Model's choices: the microsecond clock (log 1), levels of input pins (log 5), no
request of an output turned off (log 35), the residual current at the threshold (log 37), requests at a conversion end (log 38),
requests before the comparator (log 41), the half-cycle in which a leak test ended (log 46). -/
def Obligations.MidpointAsksSamplesAndCountsLeakage : Prop :=
  ∀ (e residual : Nat) (s : State), s.meas.midpoint = some e →
    let now := max s.now e
    let code := s.loader.image.leakCode
    let threshold := if code = 0 then 30 else if code = 1 then 100 else 300
    let wanted := fun c : Chan => s.halt.proc = .checking ∧ s.halt.checks.get c = .wanted
    let asked := fun c : Chan =>
      let m := s.meas.chans.get c
      let half := if s.enabled c = false then m
        else if m.told = true then { m with reqOn := (s.burst.chans.get c).out }
        else if m.offAsked = true then m
        else { m with reqOff := true, offAsked := true }
      if wanted c then { half with reqCheck := .bound } else half
    let requested : State := { s with
      now := now
      pins := { s.pins with residual := residual }
      meas := { s.meas with midpoint := none, chans := .of asked }
      halt := { s.halt with
        checks := .of fun c => if wanted c then .requested else s.halt.checks.get c
        compRead := s.halt.compRead || Chan.list.any fun c => decide (wanted c)
        leakSeen := if s.halt.compRead = false ∧ (∃ c ∈ Chan.list, wanted c) then decide (threshold < residual)
          else s.halt.leakSeen } }
    ∃ s1 : State, RequestsServed requested s1 ∧
      (let counted := fun (count : Nat) (present : Bool) => { s1 with
          meas := { s1.meas with leakCount := count, leakPresent := present } };
        (s.meas.leakTest = .idle → s.meas.leakPause = true → exec (.halfCycleMidpoint residual) s = .next s1) ∧
        (s.meas.leakTest = .idle → s.meas.leakPause = false →
          (residual ≤ threshold → exec (.halfCycleMidpoint residual) s = .next (counted 0 false)) ∧
          (threshold < residual → s.meas.leakCount < 2 →
            exec (.halfCycleMidpoint residual) s = .next (counted (s.meas.leakCount + 1) s.meas.leakPresent)) ∧
          (threshold < residual → s.meas.leakCount = 3 → exec (.halfCycleMidpoint residual) s = .next s1) ∧
          (threshold < residual → s.meas.leakCount = 2 → s.hasCond .earthLeakage none = true →
            exec (.halfCycleMidpoint residual) s = .next { counted 3 true with
              fault := { s.fault with
                watch := s.fault.watch.or (some 0)
                queue := queueAfter s.fault.queue s1.uptime ⟨.earthLeakage, none, none⟩ .lock false } }) ∧
          (threshold < residual → s.meas.leakCount = 2 → s.hasCond .earthLeakage none = false →
            ∃ t, exec (.halfCycleMidpoint residual) s = .next t ∧ t.now = now ∧
              t.meas = { s1.meas with leakCount := 3, leakPresent := true,
                                      chans := .of fun c => { s1.meas.chans.get c with reqOn := false } } ∧
              t.contactorPin = false ∧ (∀ c, t.heaterPin c = false) ∧ t.hasCond .earthLeakage none = true ∧
              (∀ c, s.enabled c = true → (t.chans.get c).state = .locked ∧ .earthLeakage ∈ t.fault.locks.get c ∧
                ((s.chans.get c).state ≠ .locked →
                  (t.chans.get c).d = 0 ∧ (t.chans.get c).ds = 0 ∧ (t.burst.chans.get c).h = 0 ∧ (t.burst.chans.get c).r = 0)) ∧
              (∀ c, s.enabled c = false → t.chans.get c = s.chans.get c ∧ t.fault.locks.get c = s.fault.locks.get c) ∧
              t.fault.watch = s.fault.watch.or (some 0) ∧ t.station = s.station ∧ t.loader = s.loader ∧ t.peers = s.peers ∧
              t.budget = s.budget ∧ t.halt = s1.halt ∧ t.cmd = s.cmd)) ∧
        (s.meas.leakTest = .waiting ∨ (s.meas.leakTest ≠ .idle ∧ residual ≤ threshold) →
          exec (.halfCycleMidpoint residual) s = .next s1) ∧
        (∀ n asker reqNo due, s.meas.leakTest = .driving n → threshold < residual →
          s.cmd = .inFlight .leakTest asker reqNo due →
          let answer : AnswerContent := ⟨asker, reqNo, .ok, [1#8]⟩
          let passed : State := { s1 with
            meas := { s1.meas with leakTest := .idle, leakCount := 0, leakPause := true }
            fault := { s.fault with
              conds := s.fault.conds.filter fun x : Cond => decide (¬(x.kind = .leakTestFail ∧ x.chan = none)) } }
          (due = false ∨ s.station.mute = true → exec (.halfCycleMidpoint residual) s = .next { passed with cmd := .empty }) ∧
          (due = true → s.station.mute = false → s.line.queue.length < 4 → exec (.halfCycleMidpoint residual) s =
            .next { passed with cmd := .empty, line := { s.line with queue := s.line.queue ++ [OutFrame.answer answer] } }) ∧
          (due = true → s.station.mute = false → 4 ≤ s.line.queue.length →
            exec (.halfCycleMidpoint residual) s = .next { passed with cmd := .held answer })))

/-- R88, R101: at the end of a kept on-sample, off-check or dropped current sample, counted where it is not dropped, the arbiter
takes the next sample; a counted off-check becomes the channel's latest one, marked as taken. R103, R174, R178: a counted
on-sample adds floor(raw / 32) to the sum and 1 to the count; the second in a row above floor(I_nom x 5 / 4) is an OVERCURRENT
detection. A new one trips a channel in service with a trip count below 2 and no trial for 600 s; during a trial, or at the third
trip, it locks the channel, and OVERCURRENT joins its lock list; a channel that is TRIPPED or LOCKED keeps its state. The output
of a channel that stops stays to the end of the half-cycle (R117), but for one that began a period at this moment (R145). Each is
written to the fault queue (R191), and a new one has its notice settled (R195, R196); a repeat has none. A sample that is dropped
because its half-cycle ended counts nothing, and one abandoned by a RESTART ends at once. Model's choices: the microsecond clock
(log 1), conditions that end with the trip (log 17), the sample in progress at a RESTART (log 20), a stop at the moment of a
control step (log 49). -/
def Obligations.OnSampleCountsAndTripsOnOvercurrent : Prop :=
  (∀ (raw : Word16) (c : Chan) (cv : Conversion) (k : CurrentKind) (s : State), s.meas.conv = some cv → cv.sample = .current c k →
    let now := max s.now cv.ends
    let v := raw.toNat / 32
    let m := s.meas.chans.get c
    let ended := fun chans : Four ChanMeas => { s with
      now := now
      meas := { s.meas with conv := none, convEnd := some now, chans := chans } }
    (cv.kept = true → cv.fate = .live → k = .offCheck → ∃ t, exec (.conversionEnd raw) s = .next t ∧
      ArbiterTakes (ended (s.meas.chans.set c { m with lastOff := some v, offTaken := true })) t) ∧
    (cv.kept = true → cv.fate = .live → k = .onSample → (v ≤ s.loader.image.iNom.get c * 5 / 4 ∨ m.overCount ≠ 1) →
      ∃ t, exec (.conversionEnd raw) s = .next t ∧ ArbiterTakes (ended (s.meas.chans.set c { m with
        onSum := m.onSum + v, onCount := m.onCount + 1
        overCount := if v ≤ s.loader.image.iNom.get c * 5 / 4 then 0 else m.overCount + 1 })) t) ∧
    (cv.fate = .stale ∧ cv.kept = true ∨ cv.fate = .abandoned → ∃ t, exec (.conversionEnd raw) s = .next t ∧
      ArbiterTakes (ended s.meas.chans) t)) ∧
  (∀ (raw : Word16) (c : Chan) (limit : Option Nat) (e : Nat) (s : State),
    s.meas.conv = some ⟨.current c .onSample, true, .live, limit, e⟩ →
    let v := raw.toNat / 32
    let threshold := s.loader.image.iNom.get c * 5 / 4
    let m := s.meas.chans.get c
    let ch := s.chans.get c
    ∃ t, exec (.conversionEnd raw) s = .next t ∧ t.now = max s.now e ∧
      (t.meas.chans.get c).onSum = m.onSum + v ∧ (t.meas.chans.get c).onCount = m.onCount + 1 ∧
      (v ≤ threshold → (t.meas.chans.get c).overCount = 0) ∧
      (threshold < v → m.overCount ≠ 1 → (t.meas.chans.get c).overCount = m.overCount + 1) ∧
      (v ≤ threshold ∨ m.overCount ≠ 1 → t.chans = s.chans ∧ t.fault = s.fault ∧ t.line = s.line) ∧
      (threshold < v → m.overCount = 1 →
        (t.meas.chans.get c).overCount = 0 ∧
        let stopped := { ch with d := 0, ds := 0, ramp := none, ctlTemp := none, ctlSrc := .none, holdExpiry := none, clean := none }
        let noted := fun (cls : FaultClass) (trial : Bool) =>
          let n := settleNotice ⟨.overcurrent, some c, cls⟩ s
          t.fault.queue = queueAfter s.fault.queue t.uptime ⟨.overcurrent, some c, some v⟩ cls trial ∧ t.line = n.line ∧
          t.fault.placed = n.fault.placed ∧ t.fault.pendingNotice = n.fault.pendingNotice ∧ t.fault.awaiting = n.fault.awaiting
        (s.hasCond .overcurrent (some c) = true → t.chans = s.chans ∧ t.line = s.line ∧
          t.fault = { s.fault with
            queue := queueAfter s.fault.queue t.uptime ⟨.overcurrent, some c, some v⟩ .trip false }) ∧
        (s.hasCond .overcurrent (some c) = false → (ch.state = .tripped ∨ ch.state = .locked) →
          t.chans = s.chans ∧ t.hasCond .overcurrent (some c) = true ∧ t.fault.tripCause = s.fault.tripCause ∧
          t.fault.locks = s.fault.locks ∧ noted .trip false) ∧
        (s.hasCond .overcurrent (some c) = false → ch.state ≠ .tripped → ch.state ≠ .locked →
          (ch.trial = none → ch.trips < 2 →
            t.chans.get c = { stopped with
              state := .tripped, trips := ch.trips + 1, reclose := some (max s.now e + 600000000) } ∧
            t.fault.tripCause.get c = some .overcurrent ∧ t.fault.locks = s.fault.locks ∧
            t.hasCond .overcurrent (some c) = true ∧ noted .trip false) ∧
          ((ch.trial ≠ none ∨ 2 ≤ ch.trips) →
            t.chans.get c = { stopped with state := .locked, trips := min (ch.trips + 1) 3, reclose := none, trial := none } ∧
            t.fault.tripCause.get c = none ∧
            (∀ k, k ∈ t.fault.locks.get c ↔ k ∈ s.fault.locks.get c ∨ k = .overcurrent ∨ s.fault.tripCause.get c = some k) ∧
            t.hasCond .overcurrent (some c) = false ∧ noted .lock ch.trial.isSome) ∧
          (t.burst.chans.get c).h = 0 ∧ (t.burst.chans.get c).r = 0 ∧
          (t.heaterPin c = true ↔ s.heaterPin c = true ∧
            ¬(s.burst.period = .running ∧ s.burst.idx = some 0 ∧ s.burst.lastEdge = some (max s.now e))))) ∧
      (∀ d, d ≠ c → t.chans.get d = s.chans.get d ∧ t.burst.chans.get d = s.burst.chans.get d) ∧
      t.station = s.station ∧ t.budget = s.budget ∧ t.peers = s.peers ∧ t.halt = s.halt ∧ t.pins = s.pins ∧ t.loader = s.loader)

/-! ## Burst timer -/

/-- R110, R113, R118, R107, R108: an edge sooner than a quarter of a half-cycle after the last is ignored. An accepted edge at
which every readback check that is due agrees, at which no leakage watch decides that leakage persists, and which ends no period,
restarts the mains-lost timer, raises the index of a running period, and begins a period at index 0 with nothing to fire where
none runs; a mains return clears MAINS_LOST and puts a pending slot in force. A leak test that waits starts its drive; at the end
of its eighth half-cycle it fails: LEAK_TEST completes with status OK and result FAIL, discarded, appended or held (R49, R57), and
LEAK_TEST_FAIL, where it is new, locks every enabled channel and has its notice settled; that the completion comes ahead of the
notice is the model's choice (log 25), since no rule orders the two. The count of the confirmation time rises by 1 at each
accepted edge (R204). The leakage count stands, and sampling goes on in the half-cycle that begins, after a leak test that has
ended too. Model's choices: the microsecond clock (log 1), a count of 10 decides at its edge or waits for its row (log 7), the
order within an edge (log 19), the times at 60 Hz in whole microseconds (log 24), the completion of a failed leak test ahead of
the notice (log 25), phase differences at the first edge of a period (log 42), the half-cycle in which a leak test ended (log 46),
an edge before the mid-point (log 48). -/
def Obligations.AcceptedEdgeStartsHalfCycle : Prop :=
  (∀ img : Image, (img.mains60 = false → halfCycle img = 10000 ∧ midTime img = 5000 ∧ mainsLostTime img = 30000) ∧
    (img.mains60 = true → halfCycle img = 8333 ∧ midTime img = 4167 ∧ mainsLostTime img = 25000)) ∧
  ∀ (e : EdgeIn) (s : State), s.active = true →
    let now := s.now + e.dt
    let img := s.loader.image
    let soon := ∃ last, s.burst.lastEdge = some last ∧ 4 * (now - last) < halfCycle img
    (soon → exec (.zeroCrossEdge e) s = .next { s with now := now } ∧ exec (.periodEnd e) s = .next { s with now := now }) ∧
    (¬soon →
      (∀ c k, (s.burst.chans.get c).check = some k → halfCycle img ≤ 2 * (now - k.since) → e.hr.get c = k.level) →
      (s.burst.period = .running → ∃ i, s.burst.idx = some i ∧ i + 1 < s.burst.len) →
      (e.watchFirst = true → s.meas.leakPresent = true → ∀ n, s.fault.watch = some n → n < 9) →
      let halt := { s.halt with mode := match s.halt.proc, s.halt.mode with
        | .confirming, .halfCycles n => .halfCycles (min (n + 1) 10)
        | _, m => m }
      ((∀ n, s.meas.leakTest = .driving n → n < 8) →
        ∃ t, exec (.zeroCrossEdge e) s = .next t ∧ t.now = now ∧ t.pins = { s.pins with hr := e.hr } ∧
          t.burst.period = .running ∧ t.burst.lastEdge = some now ∧
          t.burst.mainsTimer = some (now + mainsLostTime img) ∧ t.burst.contactor = s.burst.contactor ∧
          (∀ i, s.burst.period = .running → s.burst.idx = some i →
            t.burst.idx = some (i + 1) ∧ t.burst.len = s.burst.len ∧ t.burst.slot = s.burst.slot ∧
            t.burst.pendingSlot = s.burst.pendingSlot ∧ (∀ c, (t.burst.chans.get c).h = (s.burst.chans.get c).h)) ∧
          (s.burst.period ≠ .running → t.burst.idx = some 0 ∧ t.burst.len = 64 ∧ ∀ c, (t.burst.chans.get c).h = 0) ∧
          (s.burst.period = .noPeriod → t.burst.slot = s.burst.slot ∧ t.burst.pendingSlot = s.burst.pendingSlot) ∧
          (s.burst.period = .lost → t.burst.slot = s.burst.pendingSlot.getD s.burst.slot ∧ t.burst.pendingSlot = none ∧
            t.hasCond .mainsLost none = false) ∧
          (∀ c, (t.burst.chans.get c).r = (s.burst.chans.get c).r) ∧
          (∀ c, (t.burst.chans.get c).check =
            if t.heaterPin c = s.heaterPin c
            then (s.burst.chans.get c).check.filter fun k => decide (2 * (now - k.since) < halfCycle img)
            else some ⟨t.heaterPin c, now⟩) ∧
          t.meas.midpoint = some (now + midTime img) ∧ t.meas.leakPause = false ∧ t.meas.leakCount = s.meas.leakCount ∧
          (∀ c, (t.meas.chans.get c).told = t.heaterPin c ∧ (t.meas.chans.get c).reqOn = false ∧
            (t.meas.chans.get c).reqOff = false) ∧
          t.fault.watch = (if e.watchFirst = true ∧ (∃ n, s.fault.watch = some n ∧ 9 ≤ n) then none
            else s.fault.watch.map fun n => min (n + 1) 10) ∧
          (s.meas.leakTest = .idle → t.meas.leakTest = .idle) ∧ (s.meas.leakTest = .waiting → t.meas.leakTest = .driving 1) ∧
          (∀ n, s.meas.leakTest = .driving n → t.meas.leakTest = .driving (n + 1)) ∧
          t.station = s.station ∧ t.chans = s.chans ∧ t.line = s.line ∧ t.cmd = s.cmd ∧ t.budget = s.budget ∧
          t.loader = s.loader ∧ { t.halt with checks := s.halt.checks } = halt ∧
          t.peers = if s.burst.period = .running then s.peers
            else { s.peers with entries := s.peers.entries.map fun p => { p with delta := none } }) ∧
      (∀ n, s.meas.leakTest = .driving n → 8 ≤ n →
        let noted := fun u : State =>
          if s.hasCond .leakTestFail none = true then u else settleNotice ⟨.leakTestFail, none, .lock⟩ u
        ∃ t, exec (.zeroCrossEdge e) s = .next t ∧ t.meas.leakTest = .idle ∧ t.leakDrivePin = false ∧ t.meas.leakCount = 0 ∧
          t.meas.leakPause = false ∧ t.hasCond .leakTestFail none = true ∧ { t.halt with checks := s.halt.checks } = halt ∧
          t.fault.queue = queueAfter s.fault.queue t.uptime ⟨.leakTestFail, none, none⟩ .lock false ∧
          (s.hasCond .leakTestFail none = false → ∀ c, s.enabled c = true →
            (t.chans.get c).state = .locked ∧ .leakTestFail ∈ t.fault.locks.get c ∧ t.heaterPin c = false) ∧
          (s.hasCond .leakTestFail none = true → t.chans = s.chans ∧ t.fault.locks = s.fault.locks) ∧
          (∀ c, s.enabled c = false → t.chans.get c = s.chans.get c) ∧
          (∀ asker reqNo due, s.cmd = .inFlight .leakTest asker reqNo due →
            let answer : AnswerContent := ⟨asker, reqNo, .ok, [2#8]⟩
            let ends := fun (cmd : CmdState) (u : State) => t.cmd = cmd ∧ t.line = (noted u).line ∧
              t.fault.placed = (noted u).fault.placed ∧ t.fault.pendingNotice = (noted u).fault.pendingNotice ∧
              t.fault.awaiting = (noted u).fault.awaiting
            (due = false ∨ s.station.mute = true → ends .empty s) ∧
            (due = true → s.station.mute = false → s.line.queue.length < 4 →
              ends .empty { s with line := { s.line with queue := s.line.queue ++ [.answer answer] } }) ∧
            (due = true → s.station.mute = false → 4 ≤ s.line.queue.length → ends (.held answer) s))))

/-- R116, R117: after every accepted edge a channel's output is on exactly while it is enabled, the index lies in its window of h
positions from (8 s + 16 c) mod 64, the station is RUNNING or ISOLATED, the channel is in a firing state, a period runs and no halt
procedure is in flight. Model's choices: the microsecond clock (log 1), two rows for one edge or conversion (log 8). -/
def Obligations.OutputsFollowWindowsAtEveryEdge : Prop :=
  ∀ (e : EdgeIn) (s : State), edgeAccepted (s.advance e.dt) = true →
    ∃ t, exec (.zeroCrossEdge e) s = .next t ∧ (atPeriodEnd (s.advance e.dt) = true → exec (.periodEnd e) s = .next t) ∧
      ∀ c, t.heaterPin c = true ↔
        (t.enabled c = true ∧
          (∃ i n, t.burst.idx = some i ∧ n < (t.burst.chans.get c).h ∧ i % 64 = (8 * t.burst.slot + 16 * c.num + n) % 64 ∧ n < 64) ∧
          (t.station.state = .running ∨ t.station.state = .isolated) ∧
          ((t.chans.get c).state = .warmup ∨ (t.chans.get c).state = .regulate ∨ (t.chans.get c).state = .substitute ∨
            (t.chans.get c).state = .fallback) ∧
          t.burst.period = .running ∧ t.halt.proc ≠ .confirming ∧ t.halt.proc ≠ .checking)

/-- R111, R119, R102: the edge that ends a period begins the next at index 0 with the length of the alignment step and a pending
slot in force, clears every phase difference, and closes the measured period of every enabled channel. The channel records, firing
counts, remainders, share record and flow status are those of a control step (R81, R114, R152) with the learned currents from
before or after the closing, where the edge makes no detection; a station demand 64 or more from the last one reported then makes
a report instant (R38). R104, R105: at the third period in a row the count of an open heater or of a stuck switch returns to 0 and
the detection is made. HEATER_OPEN trips the channel for 600 s, or locks it during a trial or at the third trip, and is discarded
while the contactor is open (R174); SWITCH_STUCK begins the halt procedure, and a second channel's is the second cause (R188,
R200, R205). Model's choices: the microsecond clock (log 1), the order operands of an edge (log 6), two rows for one edge or
conversion (log 8), the order within an edge (log 19), the times at 60 Hz in whole microseconds (log 24), detections in channel
order (log 40), the half-cycle in which a leak test ended (log 46), an edge before the mid-point (log 48). -/
def Obligations.PeriodEndBeginsTheNextPeriod : Prop :=
  ∀ (e : EdgeIn) (s : State), edgeAccepted (s.advance e.dt) = true → s.burst.period = .running → s.burst.idx = some (s.burst.len - 1) →
    let img := s.loader.image
    let ahead := fun (p : Peer) (d : Nat) => p ∈ s.peers.entries ∧ p.feeder = img.feeder ∧ p.delta = some d ∧ 2 ≤ d ∧ d ≤ 31
    ∃ t, exec (.periodEnd e) s = .next t ∧ exec (.zeroCrossEdge e) s = .next t ∧
      t.burst.period = .running ∧ t.burst.idx = some 0 ∧
      ((∀ p d, ¬ahead p d) → t.burst.len = 64) ∧
      (∀ p d, ahead p d → (∀ q f, ahead q f → f ≤ d) → t.burst.len = 64 - min d 4) ∧
      t.burst.slot = s.burst.pendingSlot.getD s.burst.slot ∧ t.burst.pendingSlot = none ∧
      t.peers.entries = s.peers.entries.map (fun p => { p with delta := none }) ∧
      t.budget.u = img.cf - img.cf * img.margin / 64 ∧
      (e.checksFirst = false → e.closeFirst = false →
        t.budget = (controlStep (applySlot (alignment (startEdge e (s.advance e.dt))))).budget) ∧
      t.meas.midpoint = some (s.now + e.dt + midTime img) ∧ t.meas.leakPause = false ∧
      (∀ c, s.enabled c = true →
        let m := s.meas.chans.get c
        let m' := t.meas.chans.get c
        let mean := if 1 ≤ m.onCount then m.onSum / m.onCount else m.iMeas
        m'.iMeas = mean ∧ (8 ≤ m.onCount → m'.iEff = max 1 (min 1000 mean)) ∧ (m.onCount < 8 → m'.iEff = m.iEff) ∧
        m'.onSum = 0 ∧ m'.onCount = 0 ∧ m'.offAsked = false ∧ m'.offTaken = false ∧
        (8 ≤ m.onHalves → 1 ≤ m.onCount → mean < img.iNom.get c / 4 → m.openCount < 2 → m'.openCount = m.openCount + 1) ∧
        (8 ≤ m.onHalves → 1 ≤ m.onCount → img.iNom.get c / 4 ≤ mean → m'.openCount = 0) ∧
        (∀ v, m.offTaken = true → m.lastOff = some v → img.iNom.get c / 8 < v → m.stuckCount < 2 →
          m'.stuckCount = m.stuckCount + 1) ∧
        (∀ v, m.offTaken = true → m.lastOff = some v → v ≤ img.iNom.get c / 8 → m'.stuckCount = 0)) ∧
      t.peers.flow = (controlStep s).peers.flow ∧ t.peers.ownInput = (controlStep s).peers.ownInput ∧
      (let now := s.now + e.dt
        let m := fun c : Chan => s.meas.chans.get c
        let opens := fun c : Chan => s.enabled c = true ∧ 8 ≤ (m c).onHalves ∧ 1 ≤ (m c).onCount ∧
          (m c).onSum / (m c).onCount < img.iNom.get c / 4 ∧ 2 ≤ (m c).openCount
        let sticks := fun c : Chan => s.enabled c = true ∧ (m c).offTaken = true ∧
          img.iNom.get c / 8 < (m c).lastOff.getD 0 ∧ 2 ≤ (m c).stuckCount
        let quiet := (∀ c k, (s.burst.chans.get c).check = some k → halfCycle img ≤ 2 * (now - k.since) → e.hr.get c = k.level) ∧
          (e.watchFirst = true → s.meas.leakPresent = true → ∀ n, s.fault.watch = some n → n < 9) ∧
          (∀ n, s.meas.leakTest = .driving n → n < 8)
        (∀ c, opens c → (t.meas.chans.get c).openCount = 0) ∧ (∀ c, sticks c → (t.meas.chans.get c).stuckCount = 0) ∧
        (quiet → (∀ c, ¬sticks c) → ∀ c, opens c →
          let ch := s.chans.get c
          let ch' := t.chans.get c
          (s.burst.contactor = false → t.hasCond .heaterOpen (some c) = s.hasCond .heaterOpen (some c) ∧
            ch'.trips = ch.trips ∧ ch'.reclose = ch.reclose ∧ t.fault.tripCause.get c = s.fault.tripCause.get c ∧
            t.fault.locks.get c = s.fault.locks.get c) ∧
          (s.burst.contactor = true → s.hasCond .heaterOpen (some c) = false → ch.state ≠ .tripped → ch.state ≠ .locked →
            (ch.trial = none → ch.trips < 2 → ch'.state = .tripped ∧ ch'.trips = ch.trips + 1 ∧
              ch'.reclose = some (now + 600000000) ∧ t.fault.tripCause.get c = some .heaterOpen ∧
              t.hasCond .heaterOpen (some c) = true) ∧
            ((ch.trial ≠ none ∨ 2 ≤ ch.trips) → ch'.state = .locked ∧ ch'.trips = min (ch.trips + 1) 3 ∧
              ch'.reclose = none ∧ ch'.trial = none ∧ t.fault.tripCause.get c = none ∧
              .heaterOpen ∈ t.fault.locks.get c ∧ t.hasCond .heaterOpen (some c) = false) ∧
            ch'.d = 0 ∧ ch'.ds = 0 ∧ ch'.clean = none ∧ ch'.holdExpiry = none ∧ t.heaterPin c = false ∧
            (t.burst.chans.get c).h = 0 ∧ (t.burst.chans.get c).r = 0)) ∧
        (∀ c, quiet → sticks c → s.halt.proc = .idle →
          (s.station.state = .listening ∨ s.station.state = .running ∨ s.station.state = .isolated) →
          (∀ d, s.hasCond .switchStuck (some d) = false) →
          t.station.state = .halting ∧ t.halt.proc = .confirming ∧ t.halt.record.valid = true ∧
          t.halt.record.first = some .switchStuck ∧ t.hasCond .switchStuck (some c) = true ∧ t.contactorPin = false ∧
          (∀ d, t.heaterPin d = false) ∧
          ((∀ d, d ≠ c → ¬sticks d) → t.halt.record.second = none) ∧
          (∀ d, d ≠ c → sticks d → t.halt.record.second = some .switchStuck ∧ t.hasCond .switchStuck (some d) = true)) ∧
        (quiet → (∀ c, ¬opens c) → (∀ c, ¬sticks c) →
          let learned := { s with meas := { s.meas with
            chans := .of fun c => { m c with iEff := (t.meas.chans.get c).iEff } } }
          let u := controlStep (if e.closeFirst = true then learned else s)
          let moved := 64 ≤ ((u.budget.qs : Int) - s.line.lastQ).natAbs
          t.chans = u.chans ∧ (∀ c, (t.burst.chans.get c).h = (u.burst.chans.get c).h ∧
            (t.burst.chans.get c).r = (u.burst.chans.get c).r) ∧ t.budget = u.budget ∧
          t.station = s.station ∧ t.cmd = s.cmd ∧ t.fault.conds = s.fault.conds ∧ t.fault.queue = s.fault.queue ∧
          t.fault.locks = s.fault.locks ∧ t.fault.tripCause = s.fault.tripCause ∧ t.halt.record = s.halt.record ∧
          (¬moved → t.line = s.line) ∧
          (moved → t.line.reportTimer = some (now + seconds img.rInt) ∧ (s.station.mute = false → s.line.queue = [] →
            ∃ r, t.line.queue = [.report r] ∧ r.state = s.station.state ∧ t.line.lastQ = r.q ∧
              r.q = if s.station.state = .running ∨ s.station.state = .isolated then min u.budget.qs 4095 else 0)))) ∧
      t.loader = s.loader

/-- R112, R138: three half-cycle times without an edge: outputs and checks off at once, the period abandoned with firing counts 0
and remainders kept, samples and phase differences gone, Q_s, A_s and k 0, and MAINS_LOST active. R57, R108, R49: a leak test ends
with completion WRONG_STATE and no result. R204, R88: in CHECKING every check sample that is outstanding is asked at once on the
crystal time base, the comparator is read if it was not yet, and an idle converter takes the first of them. Model's choices: the
microsecond clock (log 1), the order within a mains loss (log 18), the last edge and the sample in progress (log 20), the residual
current at the threshold (log 37), requests at a conversion end (log 38). -/
def Obligations.MainsLossAbandonsThePeriod : Prop :=
  ∀ (n residual : Nat) (s : State), s.burst.mainsTimer = some n → s.burst.period ≠ .lost →
    let now := max s.now n
    let code := s.loader.image.leakCode
    let threshold := if code = 0 then 30 else if code = 1 then 100 else 300
    let outstanding := fun c : Chan => s.halt.proc = .checking ∧
      (s.halt.checks.get c = .afterEdge ∨ s.halt.checks.get c = .wanted ∨ s.halt.checks.get c = .requested)
    ∃ u t, exec (.mainsLost residual) s = .next t ∧
      (s.halt.proc ≠ .checking → t = u) ∧ (s.halt.proc = .checking → RequestsServed u t) ∧
      u.now = now ∧ u.pins = { s.pins with residual := residual } ∧
      (∀ c, u.burst.chans.get c = ⟨0, (s.burst.chans.get c).r, false, none⟩) ∧
      u.burst.period = .lost ∧ u.burst.idx = none ∧ u.burst.mainsTimer = none ∧ u.burst.slot = s.burst.slot ∧
      u.burst.len = s.burst.len ∧ u.burst.pendingSlot = s.burst.pendingSlot ∧ u.burst.slotTimer = s.burst.slotTimer ∧
      u.burst.contactor = s.burst.contactor ∧
      (∀ c, (u.meas.chans.get c).onSum = 0 ∧ (u.meas.chans.get c).onCount = 0 ∧ (u.meas.chans.get c).overCount = 0 ∧
        (u.meas.chans.get c).reqOn = false ∧ (u.meas.chans.get c).reqOff = false ∧
        (u.meas.chans.get c).reqCheck = (if outstanding c then .crystal (now + 10000) else .none) ∧
        (u.meas.chans.get c).iMeas = (s.meas.chans.get c).iMeas ∧
        (u.meas.chans.get c).iEff = (s.meas.chans.get c).iEff ∧ (u.meas.chans.get c).openCount = (s.meas.chans.get c).openCount ∧
        (u.meas.chans.get c).stuckCount = (s.meas.chans.get c).stuckCount) ∧
      u.meas.conv = s.meas.conv.map (fun cv => match cv.sample with
        | .current _ _ => if cv.fate = .live then { cv with fate := .stale } else cv
        | .reading _ => cv) ∧
      u.meas.convEnd = s.meas.convEnd ∧ u.meas.roundOn = s.meas.roundOn ∧ u.meas.remaining = s.meas.remaining ∧
      u.meas.leakCount = 0 ∧ u.meas.leakPresent = false ∧ u.meas.leakTest = .idle ∧ u.meas.midpoint = none ∧
      u.peers = { s.peers with entries := s.peers.entries.map fun p => { p with delta := none } } ∧
      u.budget = { s.budget with qs := 0, a := 0, k := 0 } ∧ u.hasCond .mainsLost none = true ∧ u.fault.watch = none ∧
      u.chans = s.chans ∧ u.station = s.station ∧ u.loader = s.loader ∧
      (s.meas.leakTest = .idle → u.cmd = s.cmd) ∧
      (∀ asker reqNo due, s.meas.leakTest ≠ .idle → s.cmd = .inFlight .leakTest asker reqNo due →
        let answer : AnswerContent := ⟨asker, reqNo, .wrongState, []⟩
        (due = false ∨ s.station.mute = true → u.cmd = .empty) ∧
        (due = true → s.station.mute = false → s.line.queue.length < 4 → u.cmd = .empty ∧ .answer answer ∈ u.line.queue) ∧
        (due = true → s.station.mute = false → 4 ≤ s.line.queue.length → u.cmd = .held answer)) ∧
      (s.halt.proc = .confirming → (∃ i, s.halt.mode = .halfCycles i) → u.halt.mode = .crystal (now + 100000)) ∧
      (s.halt.proc ≠ .confirming → u.halt = { s.halt with
        checks := .of fun c => if outstanding c then .requested else s.halt.checks.get c
        compRead := s.halt.compRead || decide (s.halt.proc = .checking)
        leakSeen := if s.halt.proc = .checking ∧ s.halt.compRead = false then decide (threshold < residual)
          else s.halt.leakSeen })

/-- R122: the slot choice at the end of a slot-choice interval and at the end of the listen interval. The chosen slot is one of the
least loaded, own id mod 8 if its load is least, else the lowest-numbered; it becomes the pending slot, replacing any other. Model's
choices: the microsecond clock (log 1). -/
def Obligations.SlotChoiceTakesTheLeastLoad : Prop :=
  ∀ s : State,
    let load := fun n : Nat => ((s.peers.entries.filter fun p =>
      decide (p.feeder = s.loader.image.feeder ∧ p.age ≠ .lost ∧ p.slot = n)).map (·.q)).sum
    let own := s.loader.image.id % 8
    ∃ n, n < 8 ∧ (∀ m, m < 8 → load n ≤ load m) ∧ ((∀ m, m < 8 → load own ≤ load m) → n = own) ∧
      (¬(∀ m, m < 8 → load own ≤ load m) → ∀ m, m < n → load n < load m) ∧
      (∀ e, s.burst.slotTimer = some e → exec .slotChoiceIntervalExpiry s =
        .next { s with now := max s.now e, burst := { s.burst with slotTimer := none, pendingSlot := some n } }) ∧
      (∀ e, s.station.state = .listening → s.station.listenTimer = some e →
        ∃ t, exec .listenIntervalExpiry s = .next t ∧ t.burst = { s.burst with pendingSlot := some n })

/-! ## Budget unit and channel control -/

/-- R128 to R135, R137: the share record of a control step. U, S, the allowance of the case that the station state, the mute flag
and S against U choose, and the scale factor k; outside RUNNING and ISOLATED Q_s, A_s and k are 0. -/
def Obligations.ControlStepWritesTheShareRecord : Prop :=
  ∀ s : State,
    let img := s.loader.image
    let b := (controlStep s).budget
    let peers := s.peers.entries.filter fun p => decide (p.feeder = img.feeder)
    let usable := img.cf - img.cf * img.margin / 64
    let share := usable / img.nf
    let unheard := (img.nf - 1) - peers.length
    let demand := b.qs + (peers.map (·.q)).sum + unheard * share
    let weighted := img.weight * b.qs + (peers.map fun p => p.weight * p.q).sum
    b.u = usable ∧ b.s = demand ∧
    (s.station.state = .isolated → b.a = min b.qs share) ∧
    (s.station.state = .running → s.station.mute = true → b.a = min b.qs share) ∧
    (s.station.state = .running → s.station.mute = false →
      (demand ≤ usable → b.a = b.qs) ∧
      (usable < demand → weighted = 0 → b.a = 0) ∧
      (usable < demand → weighted ≠ 0 →
        b.a = min b.qs ((usable - unheard * share) * img.weight * b.qs / weighted))) ∧
    (s.station.state = .running ∨ s.station.state = .isolated →
      (b.qs = 0 → b.k = 1024) ∧ (b.qs ≠ 0 → b.k = 1024 * b.a / b.qs)) ∧
    (s.station.state ≠ .running → s.station.state ≠ .isolated → b.qs = 0 ∧ b.a = 0 ∧ b.k = 0)

/-- R157, R127, R136: at every control step each channel's scaled demand is its demand scaled by the one factor k; in RUNNING and
ISOLATED the station demand is the sum of the current demands of the enabled firing channels, and the scaled demands draw no more
than the allowance. -/
def Obligations.ScaledDemandsStayWithinAllowance : Prop :=
  ∀ s : State,
    let t := controlStep s
    let current := fun c : Chan =>
      if s.enabled c = true ∧ (t.chans.get c).state.fires = true then ((t.chans.get c).d * (s.meas.chans.get c).iEff + 1023) / 1024
      else 0
    (∀ c, (t.chans.get c).ds = (t.chans.get c).d * t.budget.k / 1024 ∧ (t.chans.get c).ds ≤ (t.chans.get c).d) ∧
    (s.station.state = .running ∨ s.station.state = .isolated →
      t.budget.qs = current .c0 + current .c1 + current .c2 + current .c3 ∧
      ((Chan.list.filter s.enabled).map fun c =>
        (t.chans.get c).ds * (s.meas.chans.get c).iEff).sum ≤ 1024 * t.budget.a)

/-- R148 to R156, R158, R159: in RUNNING and ISOLATED a control step settles each channel's state and demand from its own
temperature, else a substitute, else the fallback duty; the substitute is the first valid one of the channel's list; a channel
that does not fire has demand 0, and so has every channel in the other station states. The integral of a channel whose demand is
computed from a temperature, in WARMUP, REGULATE or SUBSTITUTE, holds while the channel is below its target and power is withheld
(k below 1024) or the raw demand, flow term included, is above full on, and else moves by Ki times the error, clamped to 0..65535;
in every other state it holds. -/
def Obligations.ControlStepSettlesStateAndDemand : Prop :=
  ∀ (c : Chan) (s : State),
    let img := s.loader.image
    let ch := s.chans.get c
    let t := controlStep s
    let ch' := t.chans.get c
    let on := s.station.state = .running ∨ s.station.state = .isolated
    let usable := (ch.state = .warmup ∨ ch.state = .regulate) ∨ (s.meas.wall.get c).valid = 3
    let own := fun d : Chan =>
      if s.enabled d = true ∧ (s.meas.wall.get d).cond = none then (s.meas.wall.get d).accepted.map (·.value) else none
    let up := (upNeighbour s).bind (·.exit)
    let down := (downNeighbour s).bind (·.entry)
    let first := fun a b : Option (Int × TempSource) => match a with
      | some x => some x
      | none => b
    let middle := fun a b : Option Int => match a, b with
      | some x, some y => some (Int.fdiv (x + y) 2, .adjacent)
      | some x, none => some (x, .adjacent)
      | none, some y => some (y, .adjacent)
      | none, none => up.map fun v => (v, TempSource.neighbourUp)
    let borrowed := match c with
      | .c0 => first (up.map fun v => (v, .neighbourUp)) ((own .c1).map fun v => (v, .adjacent))
      | .c1 => middle (own .c0) (own .c2)
      | .c2 => middle (own .c1) (own .c3)
      | .c3 => first (down.map fun v => (v, .neighbourDown)) ((own .c2).map fun v => (v, .adjacent))
    let upstream := match c with
      | .c0 => up
      | .c1 => own .c0
      | .c2 => own .c1
      | .c3 => own .c2
    let settled := fun (target temp : Int) =>
      let e := max (-1000) (min 1000 (target - temp))
      let flow := match t.peers.flow, upstream with
        | .flowing, some u => (img.kf : Int) * max 0 (target - u) / 16
        | _, _ => 0
      let raw := (img.kp : Int) * e / 16 + ((ch.acc / 64 : Nat) : Int) + flow
      (ch'.d : Int) = max 0 (min 1024 raw) ∧
      (0 < e → (t.budget.k < 1024 ∨ 1024 < raw) → ch'.acc = ch.acc) ∧
      (¬(0 < e ∧ (t.budget.k < 1024 ∨ 1024 < raw)) → (ch'.acc : Int) = max 0 (min 65535 ((ch.acc : Int) + img.ki * e)))
    s.ownTemp c = own c ∧ substitute s c = borrowed ∧
    (¬on → ch'.d = 0 ∧ ch'.ds = 0 ∧ ch'.state = ch.state ∧ ch'.acc = ch.acc ∧ ch'.ramp = ch.ramp) ∧
    (on → ch.state.fires = false → ch'.d = 0 ∧ ch'.ds = 0 ∧ ch'.state = ch.state ∧ ch'.acc = ch.acc) ∧
    (on → ch.state.fires = true → ∀ temp, own c = some temp → usable →
      (ch.state ≠ .warmup → ch'.state = .regulate ∧ ch'.ramp = none ∧ ch'.ctlTemp = some temp ∧ ch'.ctlSrc = .own ∧
        settled ch.tSet temp) ∧
      (∀ ramp, ch.state = .warmup → ch.ramp = some ramp → ch.tSet ≤ ramp + img.rampStep →
        ch'.state = .regulate ∧ ch'.ramp = none ∧ ch'.ctlTemp = some temp ∧ ch'.ctlSrc = .own ∧ settled ch.tSet temp) ∧
      (∀ ramp, ch.state = .warmup → ch.ramp = some ramp → ramp + img.rampStep < ch.tSet →
        ch'.state = .warmup ∧ ch'.ramp = some (ramp + img.rampStep) ∧ ch'.ctlTemp = some temp ∧ ch'.ctlSrc = .own ∧
        settled (ramp + img.rampStep) temp)) ∧
    (on → ch.state.fires = true → (own c = none ∨ ¬usable) →
      (∀ temp src, borrowed = some (temp, src) → ch'.state = .substitute ∧ ch'.ramp = none ∧ ch'.ctlTemp = some temp ∧
        ch'.ctlSrc = src ∧ settled (ch.tSet + img.subMargin) temp) ∧
      (borrowed = none → ch'.state = .fallback ∧ ch'.ramp = none ∧ ch'.ctlTemp = none ∧ ch'.ctlSrc = .none ∧
        ch'.acc = ch.acc ∧
        ch'.d = match s.ambTemp with
          | some amb => if amb < img.tAmbSwitch then img.dCold else img.dMild
          | none => img.dCold)) ∧
    ch'.tSet = ch.tSet ∧ ch'.holdExpiry = ch.holdExpiry ∧ ch'.reclose = ch.reclose ∧ ch'.trial = ch.trial ∧ ch'.clean = ch.clean ∧
    ch'.trips = ch.trips

/-- R114: at a control step an enabled firing channel of a RUNNING or ISOLATED station fires 16ths of r + d' and carries the rest;
every other channel has firing count 0 and remainder 0. -/
def Obligations.FiringCountsCarryTheRemainder : Prop :=
  ∀ (c : Chan) (s : State),
    let t := controlStep s
    let b := s.burst.chans.get c
    let b' := t.burst.chans.get c
    let ds := (t.chans.get c).ds
    let fires := s.enabled c = true ∧ (s.station.state = .running ∨ s.station.state = .isolated) ∧
      (t.chans.get c).state.fires = true
    (fires → 16 * b'.h + b'.r = b.r + ds ∧ b'.r ≤ 15 ∧ (b.r ≤ 15 → ds ≤ 1024 → b'.h ≤ 64)) ∧
    (¬fires → b'.h = 0 ∧ b'.r = 0) ∧
    b'.out = b.out ∧ b'.check = b.check

/-- R126, R135, R114, R141, R143, R157, R158. After every step the allowance is at most the demand and the usable capacity, k is at
most 1024, and k scales the demand to no more than the allowance; and for every channel Acc is at most 65535, d at most 1024, d' at
most d, d is 0 in a state that does not fire, the trip count is at most 3, the firing count at most 64 and the remainder at most 15.
-/
def Obligations.ControlAndShareStayBounded : Prop :=
  (∀ s t : State, ShareBounded s.budget → step s = .next t → ShareBounded t.budget) ∧
  (∀ s t : State, ControlBounded s → step s = .next t → ControlBounded t)

/-- R162, R176, R177: a hold that expires gives the start choice; a reclose ends the trip with a trial of 30 s and the start choice,
or, with OVERTEMP active, makes OVERTEMP the trip cause; a trial and a clean period end, the latter with trip count 0. Model's
choices: the microsecond clock (log 1), conditions that end with the trip (log 17). -/
def Obligations.ChannelTimersEnd : Prop :=
  ∀ (c : Chan) (e : Nat) (s : State),
    let now := max s.now e
    let ch := s.chans.get c
    let fires := s.station.state.fires
    (ch.state = .hold → ch.holdExpiry = some e →
      ∃ ch', exec (.holdExpiry c) s = .next { s with now := now, chans := s.chans.set c ch' } ∧
        Started { s with now := now } fires c ch ch') ∧
    (ch.state = .tripped → ch.reclose = some e → s.hasCond .overtemp (some c) = false →
      ∃ ch', exec (.recloseTimerExpiry c) s = .next { s with
          now := now
          chans := s.chans.set c ch'
          fault := { s.fault with
            tripCause := s.fault.tripCause.set c none
            conds := s.fault.conds.filter fun x =>
              decide (¬((x.kind = .overcurrent ∨ x.kind = .heaterOpen) ∧ x.chan = some c)) } } ∧
        Started { s with now := now } fires c { ch with reclose := none, trial := some (now + 30000000) } ch') ∧
    (ch.state = .tripped → ch.reclose = some e → s.hasCond .overtemp (some c) = true →
      exec (.recloseTimerExpiry c) s = .next { s with
        now := now
        chans := s.chans.set c { ch with reclose := none }
        fault := { s.fault with
          tripCause := s.fault.tripCause.set c (some .overtemp)
          conds := s.fault.conds.filter fun x =>
            decide (¬((x.kind = .overcurrent ∨ x.kind = .heaterOpen) ∧ x.chan = some c)) } }) ∧
    (ch.trial = some e →
      exec (.trialTimerExpiry c) s = .next { s with now := now, chans := s.chans.set c { ch with trial := none } }) ∧
    (ch.clean = some e →
      exec (.cleanPeriodExpiry c) s = .next { s with now := now, chans := s.chans.set c { ch with clean := none, trips := 0 } })

/-- R144, R179: a LOCKED channel stays LOCKED, with its lock list only growing, over every step of a configured station but a power-
on, a supply failure and a RESET_TRIP. -/
def Obligations.LockedChannelLeavesOnlyByResetTrip : Prop :=
  ∀ (n : Chan) (c : Instr) (rest : List Instr) (s t : State), s.pending = c :: rest → s.loader.status = .passed →
    c ≠ .powerOn → c ≠ .supplyFailure → (∀ dt residual wave, c ≠ .resetTrip dt residual wave) →
    (∀ f, s.line.slot = some f → requestOf f ≠ some .resetTrip) →
    (s.chans.get n).state = .locked → step s = .next t →
    (t.chans.get n).state = .locked ∧ ∀ k, k ∈ s.fault.locks.get n → k ∈ t.fault.locks.get n

/-! ## Fault unit and halt unit -/

/-- R191, R192: an occurrence rewrites the record of its kind and channel in place, or is appended while the queue holds fewer than
8; into a full queue it comes only by displacing the oldest record of the lowest class and level, where that ranks below it. R195,
R196, R35: the notice of a due occurrence. A pending or QUEUED notice of its kind and channel takes its class if higher; a pending
notice gives way to a higher level; a QUEUED notice is replaced in place by a higher level; while a notice is STARTED the content
stays pending; and with none it is placed, or stays pending where the queue has no room. What gives way and what does not displace
goes to the awaiting list, which holds one entry for each kind and channel. An entry of the occurrence's kind and channel that
already waits there takes its class if higher, in place, whichever of these applies. Model's choices: where such an entry waits, the
occurrence is offered or becomes pending all the same, beside it (log 44). -/
def Obligations.OccurrenceIsWrittenIntoFaultQueue : Prop :=
  ((∀ (o : Occ) (s : State), QueueBounded s.line → s.station.mute = false →
    let same := fun n : NoticeContent => n.occ.kind = o.kind ∧ n.occ.chan = o.chan
    let raised := fun n : NoticeContent =>
      { n with occ := { n.occ with cls := if n.occ.cls.code < o.cls.code then o.cls else n.occ.cls } }
    let content : NoticeContent := ⟨o, s.station.state, s.budget.qs, s.budget.a⟩
    let lower := fun n : NoticeContent => n.occ.kind.level < o.kind.level
    let queued := fun n : NoticeContent => s.fault.placed = some .queued ∧ .notice n ∈ s.line.queue
    let awaiting := s.fault.awaiting.map fun x =>
      { x with cls := if x.kind = o.kind ∧ x.chan = o.chan ∧ x.cls.code < o.cls.code then o.cls else x.cls }
    let fault := { s.fault with awaiting := awaiting }
    let waits := fun x : Occ => { s.fault with awaiting := addAwaiting x awaiting }
    let swapped := fun n n' : NoticeContent =>
      { s.line with queue := s.line.queue.map fun f => if f = .notice n then .notice n' else f }
    let sending := s.line.tx ≠ .idle ∧ ∃ n behind, s.line.queue = .notice n :: behind
    let t := settleNotice o s
    (∀ p, s.fault.pendingNotice = some p → same p → t = { s with fault := { fault with pendingNotice := some (raised p) } }) ∧
    (∀ q, queued q → same q → (∀ p, s.fault.pendingNotice = some p → ¬same p) →
      t = { s with line := swapped q (raised q), fault := fault }) ∧
    (∀ p, s.fault.pendingNotice = some p → ¬same p → (∀ q, queued q → ¬same q) →
      (lower p → t = { s with fault := { waits p.occ with pendingNotice := some content } }) ∧
      (¬lower p → t = { s with fault := waits o })) ∧
    (∀ q, s.fault.pendingNotice = none → queued q → ¬same q →
      (lower q → ¬sending → t = { s with line := swapped q content, fault := waits q.occ }) ∧
      (¬lower q → t = { s with fault := waits o })) ∧
    (s.fault.pendingNotice = none → s.fault.placed = some .started → sending →
      t = { s with fault := { fault with pendingNotice := some content } }) ∧
    (s.fault.pendingNotice = none → s.fault.placed = none → s.line.queue.any OutFrame.isNotice = false →
      let placed := fun queue : List OutFrame =>
        { s with line := { s.line with queue := queue }, fault := { fault with placed := some .queued } }
      (s.line.queue.length < 4 → t = placed (s.line.queue ++ [.notice content])) ∧
      (∀ before r behind, s.line.queue.length = 4 → s.line.queue = before ++ .report r :: behind →
        (s.line.tx = .idle ∨ before ≠ []) → t = placed (before ++ behind ++ [.notice content])) ∧
      (s.line.queue.length = 4 →
        (∀ before r behind, s.line.queue = before ++ .report r :: behind → s.line.tx ≠ .idle ∧ before = []) →
        t = { s with fault := { fault with pendingNotice := some content } }))) ∧
  (∀ (o : Occ) (l : List Occ),
    (∀ before x behind, l = before ++ x :: behind → x.kind = o.kind → x.chan = o.chan →
      (∀ y ∈ before ++ behind, ¬(y.kind = o.kind ∧ y.chan = o.chan)) →
      addAwaiting o l = before ++ { x with cls := if x.cls.code < o.cls.code then o.cls else x.cls } :: behind) ∧
    ((∀ y ∈ l, ¬(y.kind = o.kind ∧ y.chan = o.chan)) → addAwaiting o l = l ++ [o]))) ∧
  (∀ (q : List FaultRecord) (now : Nat) (d : Detection) (cls : FaultClass) (trial : Bool), FaultQueueBounded q →
    let q' := queueAfter q now d cls trial
    let new : FaultRecord := ⟨d.kind, d.chan, cls, now, now, 1, d.value, trial⟩
    let lower := fun (a : FaultRecord) (b : FaultRecord) =>
      a.cls.code < b.cls.code ∨ (a.cls.code = b.cls.code ∧ a.kind.level < b.kind.level)
    (∀ r before behind, q = before ++ r :: behind → r.kind = d.kind → r.chan = d.chan →
      ∃ r', q' = before ++ r' :: behind ∧ r'.kind = r.kind ∧ r'.chan = r.chan ∧ r'.first = r.first ∧ r'.latest = now ∧
        r'.count = min (r.count + 1) 255 ∧ r'.value = d.value.or r.value ∧ r'.trial = (r.trial || trial) ∧
        r'.cls.code = max r.cls.code cls.code) ∧
    ((∀ r ∈ q, ¬(r.kind = d.kind ∧ r.chan = d.chan)) → q.length < 8 → q' = q ++ [new]) ∧
    ((∀ r ∈ q, ¬(r.kind = d.kind ∧ r.chan = d.chan)) → q.length = 8 →
      ∀ r before behind, q = before ++ r :: behind → (∀ x ∈ before, lower r x) → (∀ x ∈ behind, ¬lower x r) →
        (lower r new → q' = before ++ behind ++ [new]) ∧ (¬lower r new → q' = q)))

/-- R181, R118, R200, R202: the leakage watch returns to IDLE, raising LEAKAGE_PERSISTS where leakage is still present, and a halt
cause in LISTENING, RUNNING or ISOLATED begins the halt procedure; a readback that differs at an edge is such a cause. R207: the
watch's decision may come before the other work of the edge that ends its count, then with the share figures from before that
edge; at a period end the readback checks come before the control step, which then finds the station HALTING and writes 0, or
after it, and then the record holds the figures of that step. R57, R108, R49: a leak test ends there with completion WRONG_STATE,
ahead of the REPORT of the entry to HALTING. R205: a cause during HALTING is written as second cause where that is empty, and one
that is not taken, there or in HALTED, is written to the fault queue only; the rest of the halt record stays. Model's choices: the
microsecond clock (log 1), a count of 10 decides at its edge or waits for its row (log 7), two rows for one edge (log 8), the
order operands of an edge (log 6), the order within an edge, by which the readback's halt ends a leak test with WRONG_STATE also
at the edge that ends its eighth half-cycle (log 19), the times at 60 Hz in whole microseconds (log 24), the completion before the
REPORT (log 43), an entry that waits for its notice (log 44), the half-cycle in which a leak test ended (log 46). -/
def Obligations.DetectionsBeginTheHaltProcedure : Prop :=
  (∀ s : State, s.halt.proc = .idle → (s.station.state = .listening ∨ s.station.state = .running ∨ s.station.state = .isolated) →
    let halts := fun (cause : HaltCause) (b : Budget) (t : State) =>
      t.station.state = .halting ∧ t.halt.proc = .confirming ∧ t.halt.record.valid = true ∧ t.halt.record.first = some cause ∧
      t.halt.record.qs = b.qs ∧ t.halt.record.a = b.a ∧ t.contactorPin = false ∧ (∀ c, t.heaterPin c = false) ∧
      t.meas.leakTest = .idle ∧ (s.meas.leakTest = .idle → t.cmd = s.cmd) ∧
      (∀ asker reqNo due, s.meas.leakTest ≠ .idle → s.cmd = .inFlight .leakTest asker reqNo due →
        let answer : AnswerContent := ⟨asker, reqNo, .wrongState, []⟩
        (due = false ∨ s.station.mute = true → t.cmd = .empty) ∧
        (due = true → s.station.mute = false → s.line.queue.length ≤ 2 → t.cmd = .empty ∧ .answer answer ∈ t.line.queue) ∧
        (due = true → s.station.mute = false → s.line.queue = [] →
          ∃ before r, t.line.queue = before ++ [.answer answer, .report r]) ∧
        (QueueBounded s.line → due = true → s.station.mute = false → 4 ≤ s.line.queue.length → t.cmd = .held answer))
    (s.fault.watch = some 10 → s.meas.leakPresent = false →
      exec .leakageWatchExpiry s = .next { s with fault := { s.fault with watch := none } }) ∧
    (s.fault.watch = some 10 → s.meas.leakPresent = true → s.hasCond .leakagePersists none = false →
      ∃ t, exec .leakageWatchExpiry s = .next t ∧ t.fault.watch = none ∧ t.hasCond .leakagePersists none = true ∧
        halts .leakagePersists s.budget t ∧ t.meas.leakPause = (s.meas.leakPause || decide (s.meas.leakTest ≠ .idle))) ∧
    (∀ e : EdgeIn, edgeAccepted (s.advance e.dt) = true → e.watchFirst = true → s.fault.watch = some 9 → s.meas.leakPresent = true →
      s.hasCond .leakagePersists none = false →
      ∃ t, exec (.zeroCrossEdge e) s = .next t ∧ (atPeriodEnd s = true → exec (.periodEnd e) s = .next t) ∧ t.fault.watch = none ∧
        t.hasCond .leakagePersists none = true ∧ halts .leakagePersists s.budget t ∧ t.meas.leakPause = false) ∧
    let sticks := fun d : Chan => s.enabled d = true ∧ (s.meas.chans.get d).offTaken = true ∧
      s.loader.image.iNom.get d / 8 < (s.meas.chans.get d).lastOff.getD 0 ∧ 2 ≤ (s.meas.chans.get d).stuckCount
    (∀ (e : EdgeIn) (c : Chan) (k : ReadbackCheck), edgeAccepted (s.advance e.dt) = true →
      (e.watchFirst = true → s.meas.leakPresent = true → ∀ n, s.fault.watch = some n → n < 9) →
      (s.burst.chans.get c).check = some k → halfCycle s.loader.image ≤ 2 * (s.now + e.dt - k.since) → e.hr.get c ≠ k.level →
      (∀ d, s.hasCond .outputReadback (some d) = false) →
      (atPeriodEnd s = false → ∃ t, exec (.zeroCrossEdge e) s = .next t ∧ t.hasCond .outputReadback (some c) = true ∧
        halts .outputReadback s.budget t) ∧
      (atPeriodEnd s = true → (e.checksFirst = false → ∀ d, ¬sticks d) →
        ∃ t, exec (.zeroCrossEdge e) s = .next t ∧ exec (.periodEnd e) s = .next t ∧
          t.hasCond .outputReadback (some c) = true ∧
          (e.checksFirst = true → halts .outputReadback s.budget t ∧ t.budget.qs = 0 ∧ t.budget.a = 0 ∧ t.budget.k = 0) ∧
          (e.checksFirst = false → halts .outputReadback t.budget t) ∧
          (e.checksFirst = false → e.closeFirst = false → t.budget = (controlStep s).budget)))) ∧
  (∀ s : State, s.halt.proc ≠ .idle → s.fault.watch = some 10 → s.meas.leakPresent = true →
    s.hasCond .leakagePersists none = false →
    let free := s.halt.record.second = none ∧ (s.halt.proc = .confirming ∨ s.halt.proc = .checking)
    let fault := { s.fault with
      watch := none
      conds := s.fault.conds ++ [⟨.leakagePersists, none, .halt⟩]
      queue := queueAfter s.fault.queue s.uptime ⟨.leakagePersists, none, none⟩ .halt false }
    (free → exec .leakageWatchExpiry s = .next (settleNotice ⟨.leakagePersists, none, .halt⟩ { s with
      fault := fault, halt := { s.halt with record := { s.halt.record with second := some .leakagePersists } } })) ∧
    (¬free → exec .leakageWatchExpiry s = .next { s with fault := fault })) ∧
  (∀ (e : EdgeIn) (c : Chan) (k : ReadbackCheck) (s : State), edgeAccepted (s.advance e.dt) = true →
    (atPeriodEnd s = true → e.checksFirst = false → ∀ d, ¬(s.enabled d = true ∧ (s.meas.chans.get d).offTaken = true ∧
      s.loader.image.iNom.get d / 8 < (s.meas.chans.get d).lastOff.getD 0 ∧ 2 ≤ (s.meas.chans.get d).stuckCount)) →
    s.halt.proc ≠ .idle → s.meas.leakTest = .idle →
    (e.watchFirst = true → s.meas.leakPresent = true → ∀ n, s.fault.watch = some n → n < 9) →
    (s.burst.chans.get c).check = some k → halfCycle s.loader.image ≤ 2 * (s.now + e.dt - k.since) → e.hr.get c ≠ k.level →
    (∀ d, s.hasCond .outputReadback (some d) = false) →
    ∃ t, exec (.zeroCrossEdge e) s = .next t ∧ (atPeriodEnd s = true → exec (.periodEnd e) s = .next t) ∧
      t.hasCond .outputReadback (some c) = true ∧ t.station = s.station ∧
      t.halt.proc = s.halt.proc ∧ { t.halt.record with second := s.halt.record.second } = s.halt.record ∧
      (s.halt.record.second = none → (s.halt.proc = .confirming ∨ s.halt.proc = .checking) →
        t.halt.record.second = some .outputReadback) ∧
      (s.halt.record.second ≠ none ∨ s.halt.proc = .complete →
        t.halt.record = s.halt.record ∧ (atPeriodEnd s = false → t.line = s.line)))

/-- R204, R205: the confirmation time ends in CHECKING with a sample wanted of every enabled channel; with no period running they are
asked at once, the comparator is read, and an idle converter takes the first of them (R88). The last counted sample enters HALTED,
with CONTACTOR_FAIL as second cause exactly where current or leakage was seen and the field was empty. Model's choices: the
microsecond clock (log 1), a count holds at 10 for the row that decides (log 7), the residual current at the threshold (log 37),
requests at a conversion end (log 38), a check sample on the crystal time base over a mains return (log 45). -/
def Obligations.ConfirmationEndsInHalted : Prop :=
  (∀ s : State, s.halt.proc = .confirming →
    let checking := fun how : CheckState =>
      { s.halt with proc := .checking, mode := .none, checks := .of fun c => if s.enabled c = true then how else .none }
    (s.halt.mode = .halfCycles 10 → exec .confirmationCountEnd s = .next { s with halt := checking .wanted }) ∧
    let code := s.loader.image.leakCode
    let threshold := if code = 0 then 30 else if code = 1 then 100 else 300
    (∀ e residual, s.halt.mode = .crystal e → s.burst.period = .running → exec (.confirmationTimerExpiry residual) s =
      .next { s with now := max s.now e, pins := { s.pins with residual := residual }, halt := checking .afterEdge }) ∧
    let askedOf := fun (now : Nat) (c : Chan) =>
      if s.enabled c = true then { s.meas.chans.get c with reqCheck := .crystal (now + 10000) } else s.meas.chans.get c
    (∀ e residual, s.halt.mode = .crystal e → s.burst.period ≠ .running → s.halt.compRead = false →
      ∃ t, exec (.confirmationTimerExpiry residual) s = .next t ∧ RequestsServed { s with
        now := max s.now e
        pins := { s.pins with residual := residual }
        meas := { s.meas with chans := .of (askedOf (max s.now e)) }
        halt := { checking .requested with compRead := true, leakSeen := decide (threshold < residual) } } t)) ∧
  (∀ (raw : Word16) (c : Chan) (limit : Option Nat) (e : Nat) (s : State),
    s.meas.conv = some ⟨.current c .check, true, .live, limit, e⟩ → s.halt.proc = .checking →
    (∀ d, d ≠ c → s.enabled d = true → s.halt.checks.get d = .counted) →
    let seen := s.halt.currentSeen = true ∨ s.loader.image.iNom.get c / 8 < raw.toNat / 32
    ∃ t, exec (.conversionEnd raw) s = .next t ∧ t.station = { s.station with state := .halted } ∧ t.halt.proc = .complete ∧
      (t.halt.currentSeen = true ↔ seen) ∧ t.halt.record.first = s.halt.record.first ∧ t.halt.record.valid = s.halt.record.valid ∧
      (s.halt.record.second = none → (seen ∨ s.halt.leakSeen = true) → t.halt.record.second = some .contactorFail) ∧
      (s.halt.record.second = none → ¬(seen ∨ s.halt.leakSeen = true) → t.halt.record.second = none) ∧
      (∀ x, s.halt.record.second = some x → t.halt.record.second = some x) ∧
      t.line.reportTimer = some (max s.now e + seconds s.loader.image.rInt) ∧
      t.burst = s.burst ∧ t.chans = s.chans ∧ t.fault = s.fault ∧ t.budget = s.budget ∧ t.peers = s.peers ∧ t.loader = s.loader ∧
      t.cmd = s.cmd)
end

