-- ==== Sys2Proof/Laws/State.lean ====
section
/-! SUPPORT. The small lemmas of the state: what each named update leaves as it was, and what it writes; and the laws of one value
for each channel. -/

namespace Sys2Proof

/-! ## One value for each channel -/

@[simp] theorem Four.get_set_same {α : Type} (f : Four α) (c : Chan) (a : α) : (f.set c a).get c = a := by
  cases c <;> rfl

@[simp] theorem Four.get_set_other {α : Type} (f : Four α) {c d : Chan} (a : α) (h : d ≠ c) : (f.set c a).get d = f.get d := by
  cases c <;> cases d <;> first | rfl | exact absurd rfl h

@[simp] theorem Four.get_of {α : Type} (g : Chan → α) (c : Chan) : (Four.of g).get c = g c := by cases c <;> rfl

@[simp] theorem Four.get_map {α β : Type} (f : Four α) (g : α → β) (c : Chan) : (f.map g).get c = g (f.get c) := by
  cases c <;> rfl

@[simp] theorem Four.get_const {α : Type} (a : α) (c : Chan) : (Four.const a).get c = a := by cases c <;> rfl

/-- Two collections with equal values on every channel are equal. -/
theorem Four.ext_get {α : Type} {f g : Four α} (h : ∀ c, f.get c = g.get c) : f = g := by
  obtain ⟨a, b, c, d⟩ := f
  obtain ⟨a', b', c', d'⟩ := g
  have h0 : a = a' := h .c0
  have h1 : b = b' := h .c1
  have h2 : c = c' := h .c2
  have h3 : d = d' := h .c3
  subst h0 h1 h2 h3
  rfl

/-- Every channel is one of the four. -/
theorem Chan.mem_list (c : Chan) : c ∈ Chan.list := by cases c <;> decide

namespace Machine

/-! ## Time -/

@[simp] theorem State.advance_powered (s : State) (dt : Nat) : (s.advance dt).powered = s.powered := rfl
@[simp] theorem State.advance_pins (s : State) (dt : Nat) : (s.advance dt).pins = s.pins := rfl
@[simp] theorem State.advance_loader (s : State) (dt : Nat) : (s.advance dt).loader = s.loader := rfl
@[simp] theorem State.advance_station (s : State) (dt : Nat) : (s.advance dt).station = s.station := rfl
@[simp] theorem State.advance_line (s : State) (dt : Nat) : (s.advance dt).line = s.line := rfl
@[simp] theorem State.advance_cmd (s : State) (dt : Nat) : (s.advance dt).cmd = s.cmd := rfl
@[simp] theorem State.advance_peers (s : State) (dt : Nat) : (s.advance dt).peers = s.peers := rfl
@[simp] theorem State.advance_meas (s : State) (dt : Nat) : (s.advance dt).meas = s.meas := rfl
@[simp] theorem State.advance_burst (s : State) (dt : Nat) : (s.advance dt).burst = s.burst := rfl
@[simp] theorem State.advance_budget (s : State) (dt : Nat) : (s.advance dt).budget = s.budget := rfl
@[simp] theorem State.advance_chans (s : State) (dt : Nat) : (s.advance dt).chans = s.chans := rfl
@[simp] theorem State.advance_fault (s : State) (dt : Nat) : (s.advance dt).fault = s.fault := rfl
@[simp] theorem State.advance_halt (s : State) (dt : Nat) : (s.advance dt).halt = s.halt := rfl
@[simp] theorem State.advance_pending (s : State) (dt : Nat) : (s.advance dt).pending = s.pending := rfl
@[simp] theorem State.advance_now (s : State) (dt : Nat) : (s.advance dt).now = s.now + dt := rfl

@[simp] theorem State.reach_powered (s : State) (t : Nat) : (s.reach t).powered = s.powered := rfl
@[simp] theorem State.reach_pins (s : State) (t : Nat) : (s.reach t).pins = s.pins := rfl
@[simp] theorem State.reach_loader (s : State) (t : Nat) : (s.reach t).loader = s.loader := rfl
@[simp] theorem State.reach_station (s : State) (t : Nat) : (s.reach t).station = s.station := rfl
@[simp] theorem State.reach_line (s : State) (t : Nat) : (s.reach t).line = s.line := rfl
@[simp] theorem State.reach_cmd (s : State) (t : Nat) : (s.reach t).cmd = s.cmd := rfl
@[simp] theorem State.reach_peers (s : State) (t : Nat) : (s.reach t).peers = s.peers := rfl
@[simp] theorem State.reach_meas (s : State) (t : Nat) : (s.reach t).meas = s.meas := rfl
@[simp] theorem State.reach_burst (s : State) (t : Nat) : (s.reach t).burst = s.burst := rfl
@[simp] theorem State.reach_budget (s : State) (t : Nat) : (s.reach t).budget = s.budget := rfl
@[simp] theorem State.reach_chans (s : State) (t : Nat) : (s.reach t).chans = s.chans := rfl
@[simp] theorem State.reach_fault (s : State) (t : Nat) : (s.reach t).fault = s.fault := rfl
@[simp] theorem State.reach_halt (s : State) (t : Nat) : (s.reach t).halt = s.halt := rfl
@[simp] theorem State.reach_pending (s : State) (t : Nat) : (s.reach t).pending = s.pending := rfl
@[simp] theorem State.reach_now (s : State) (t : Nat) : (s.reach t).now = max s.now t := rfl

/-! ## One channel -/

@[simp] theorem State.modChan_powered (s : State) (c : Chan) (f : Channel → Channel) : (s.modChan c f).powered = s.powered := rfl
@[simp] theorem State.modChan_now (s : State) (c : Chan) (f : Channel → Channel) : (s.modChan c f).now = s.now := rfl
@[simp] theorem State.modChan_pins (s : State) (c : Chan) (f : Channel → Channel) : (s.modChan c f).pins = s.pins := rfl
@[simp] theorem State.modChan_loader (s : State) (c : Chan) (f : Channel → Channel) : (s.modChan c f).loader = s.loader := rfl
@[simp] theorem State.modChan_station (s : State) (c : Chan) (f : Channel → Channel) : (s.modChan c f).station = s.station := rfl
@[simp] theorem State.modChan_line (s : State) (c : Chan) (f : Channel → Channel) : (s.modChan c f).line = s.line := rfl
@[simp] theorem State.modChan_cmd (s : State) (c : Chan) (f : Channel → Channel) : (s.modChan c f).cmd = s.cmd := rfl
@[simp] theorem State.modChan_peers (s : State) (c : Chan) (f : Channel → Channel) : (s.modChan c f).peers = s.peers := rfl
@[simp] theorem State.modChan_meas (s : State) (c : Chan) (f : Channel → Channel) : (s.modChan c f).meas = s.meas := rfl
@[simp] theorem State.modChan_burst (s : State) (c : Chan) (f : Channel → Channel) : (s.modChan c f).burst = s.burst := rfl
@[simp] theorem State.modChan_budget (s : State) (c : Chan) (f : Channel → Channel) : (s.modChan c f).budget = s.budget := rfl
@[simp] theorem State.modChan_fault (s : State) (c : Chan) (f : Channel → Channel) : (s.modChan c f).fault = s.fault := rfl
@[simp] theorem State.modChan_halt (s : State) (c : Chan) (f : Channel → Channel) : (s.modChan c f).halt = s.halt := rfl
@[simp] theorem State.modChan_pending (s : State) (c : Chan) (f : Channel → Channel) : (s.modChan c f).pending = s.pending := rfl
@[simp] theorem State.modChan_chans (s : State) (c : Chan) (f : Channel → Channel) : (s.modChan c f).chans = s.chans.set c (f (s.chans.get c)) := rfl

@[simp] theorem State.modBurst_powered (s : State) (c : Chan) (f : ChanBurst → ChanBurst) : (s.modBurst c f).powered = s.powered := rfl
@[simp] theorem State.modBurst_now (s : State) (c : Chan) (f : ChanBurst → ChanBurst) : (s.modBurst c f).now = s.now := rfl
@[simp] theorem State.modBurst_pins (s : State) (c : Chan) (f : ChanBurst → ChanBurst) : (s.modBurst c f).pins = s.pins := rfl
@[simp] theorem State.modBurst_loader (s : State) (c : Chan) (f : ChanBurst → ChanBurst) : (s.modBurst c f).loader = s.loader := rfl
@[simp] theorem State.modBurst_station (s : State) (c : Chan) (f : ChanBurst → ChanBurst) : (s.modBurst c f).station = s.station := rfl
@[simp] theorem State.modBurst_line (s : State) (c : Chan) (f : ChanBurst → ChanBurst) : (s.modBurst c f).line = s.line := rfl
@[simp] theorem State.modBurst_cmd (s : State) (c : Chan) (f : ChanBurst → ChanBurst) : (s.modBurst c f).cmd = s.cmd := rfl
@[simp] theorem State.modBurst_peers (s : State) (c : Chan) (f : ChanBurst → ChanBurst) : (s.modBurst c f).peers = s.peers := rfl
@[simp] theorem State.modBurst_meas (s : State) (c : Chan) (f : ChanBurst → ChanBurst) : (s.modBurst c f).meas = s.meas := rfl
@[simp] theorem State.modBurst_budget (s : State) (c : Chan) (f : ChanBurst → ChanBurst) : (s.modBurst c f).budget = s.budget := rfl
@[simp] theorem State.modBurst_chans (s : State) (c : Chan) (f : ChanBurst → ChanBurst) : (s.modBurst c f).chans = s.chans := rfl
@[simp] theorem State.modBurst_fault (s : State) (c : Chan) (f : ChanBurst → ChanBurst) : (s.modBurst c f).fault = s.fault := rfl
@[simp] theorem State.modBurst_halt (s : State) (c : Chan) (f : ChanBurst → ChanBurst) : (s.modBurst c f).halt = s.halt := rfl
@[simp] theorem State.modBurst_pending (s : State) (c : Chan) (f : ChanBurst → ChanBurst) : (s.modBurst c f).pending = s.pending := rfl
@[simp] theorem State.modBurst_burst (s : State) (c : Chan) (f : ChanBurst → ChanBurst) : (s.modBurst c f).burst = { s.burst with chans := s.burst.chans.set c (f (s.burst.chans.get c)) } := rfl

@[simp] theorem State.modMeas_powered (s : State) (c : Chan) (f : ChanMeas → ChanMeas) : (s.modMeas c f).powered = s.powered := rfl
@[simp] theorem State.modMeas_now (s : State) (c : Chan) (f : ChanMeas → ChanMeas) : (s.modMeas c f).now = s.now := rfl
@[simp] theorem State.modMeas_pins (s : State) (c : Chan) (f : ChanMeas → ChanMeas) : (s.modMeas c f).pins = s.pins := rfl
@[simp] theorem State.modMeas_loader (s : State) (c : Chan) (f : ChanMeas → ChanMeas) : (s.modMeas c f).loader = s.loader := rfl
@[simp] theorem State.modMeas_station (s : State) (c : Chan) (f : ChanMeas → ChanMeas) : (s.modMeas c f).station = s.station := rfl
@[simp] theorem State.modMeas_line (s : State) (c : Chan) (f : ChanMeas → ChanMeas) : (s.modMeas c f).line = s.line := rfl
@[simp] theorem State.modMeas_cmd (s : State) (c : Chan) (f : ChanMeas → ChanMeas) : (s.modMeas c f).cmd = s.cmd := rfl
@[simp] theorem State.modMeas_peers (s : State) (c : Chan) (f : ChanMeas → ChanMeas) : (s.modMeas c f).peers = s.peers := rfl
@[simp] theorem State.modMeas_burst (s : State) (c : Chan) (f : ChanMeas → ChanMeas) : (s.modMeas c f).burst = s.burst := rfl
@[simp] theorem State.modMeas_budget (s : State) (c : Chan) (f : ChanMeas → ChanMeas) : (s.modMeas c f).budget = s.budget := rfl
@[simp] theorem State.modMeas_chans (s : State) (c : Chan) (f : ChanMeas → ChanMeas) : (s.modMeas c f).chans = s.chans := rfl
@[simp] theorem State.modMeas_fault (s : State) (c : Chan) (f : ChanMeas → ChanMeas) : (s.modMeas c f).fault = s.fault := rfl
@[simp] theorem State.modMeas_halt (s : State) (c : Chan) (f : ChanMeas → ChanMeas) : (s.modMeas c f).halt = s.halt := rfl
@[simp] theorem State.modMeas_pending (s : State) (c : Chan) (f : ChanMeas → ChanMeas) : (s.modMeas c f).pending = s.pending := rfl
@[simp] theorem State.modMeas_meas (s : State) (c : Chan) (f : ChanMeas → ChanMeas) : (s.modMeas c f).meas = { s.meas with chans := s.meas.chans.set c (f (s.meas.chans.get c)) } := rfl

/-! ## Conditions -/

@[simp] theorem State.addCond_powered (s : State) (x : Cond) : (s.addCond x).powered = s.powered := rfl
@[simp] theorem State.addCond_now (s : State) (x : Cond) : (s.addCond x).now = s.now := rfl
@[simp] theorem State.addCond_pins (s : State) (x : Cond) : (s.addCond x).pins = s.pins := rfl
@[simp] theorem State.addCond_loader (s : State) (x : Cond) : (s.addCond x).loader = s.loader := rfl
@[simp] theorem State.addCond_station (s : State) (x : Cond) : (s.addCond x).station = s.station := rfl
@[simp] theorem State.addCond_line (s : State) (x : Cond) : (s.addCond x).line = s.line := rfl
@[simp] theorem State.addCond_cmd (s : State) (x : Cond) : (s.addCond x).cmd = s.cmd := rfl
@[simp] theorem State.addCond_peers (s : State) (x : Cond) : (s.addCond x).peers = s.peers := rfl
@[simp] theorem State.addCond_meas (s : State) (x : Cond) : (s.addCond x).meas = s.meas := rfl
@[simp] theorem State.addCond_burst (s : State) (x : Cond) : (s.addCond x).burst = s.burst := rfl
@[simp] theorem State.addCond_budget (s : State) (x : Cond) : (s.addCond x).budget = s.budget := rfl
@[simp] theorem State.addCond_chans (s : State) (x : Cond) : (s.addCond x).chans = s.chans := rfl
@[simp] theorem State.addCond_halt (s : State) (x : Cond) : (s.addCond x).halt = s.halt := rfl
@[simp] theorem State.addCond_pending (s : State) (x : Cond) : (s.addCond x).pending = s.pending := rfl
@[simp] theorem State.addCond_fault (s : State) (x : Cond) : (s.addCond x).fault = { s.fault with conds := s.fault.conds ++ [x] } := rfl

@[simp] theorem State.keepConds_powered (s : State) (keep : Cond → Bool) : (s.keepConds keep).powered = s.powered := rfl
@[simp] theorem State.keepConds_now (s : State) (keep : Cond → Bool) : (s.keepConds keep).now = s.now := rfl
@[simp] theorem State.keepConds_pins (s : State) (keep : Cond → Bool) : (s.keepConds keep).pins = s.pins := rfl
@[simp] theorem State.keepConds_loader (s : State) (keep : Cond → Bool) : (s.keepConds keep).loader = s.loader := rfl
@[simp] theorem State.keepConds_station (s : State) (keep : Cond → Bool) : (s.keepConds keep).station = s.station := rfl
@[simp] theorem State.keepConds_line (s : State) (keep : Cond → Bool) : (s.keepConds keep).line = s.line := rfl
@[simp] theorem State.keepConds_cmd (s : State) (keep : Cond → Bool) : (s.keepConds keep).cmd = s.cmd := rfl
@[simp] theorem State.keepConds_peers (s : State) (keep : Cond → Bool) : (s.keepConds keep).peers = s.peers := rfl
@[simp] theorem State.keepConds_meas (s : State) (keep : Cond → Bool) : (s.keepConds keep).meas = s.meas := rfl
@[simp] theorem State.keepConds_burst (s : State) (keep : Cond → Bool) : (s.keepConds keep).burst = s.burst := rfl
@[simp] theorem State.keepConds_budget (s : State) (keep : Cond → Bool) : (s.keepConds keep).budget = s.budget := rfl
@[simp] theorem State.keepConds_chans (s : State) (keep : Cond → Bool) : (s.keepConds keep).chans = s.chans := rfl
@[simp] theorem State.keepConds_halt (s : State) (keep : Cond → Bool) : (s.keepConds keep).halt = s.halt := rfl
@[simp] theorem State.keepConds_pending (s : State) (keep : Cond → Bool) : (s.keepConds keep).pending = s.pending := rfl
@[simp] theorem State.keepConds_fault (s : State) (keep : Cond → Bool) : (s.keepConds keep).fault = { s.fault with conds := s.fault.conds.filter keep } := rfl

@[simp] theorem State.clearCond_powered (s : State) (k : FaultKind) (c : Option Chan) : (s.clearCond k c).powered = s.powered := rfl
@[simp] theorem State.clearCond_now (s : State) (k : FaultKind) (c : Option Chan) : (s.clearCond k c).now = s.now := rfl
@[simp] theorem State.clearCond_pins (s : State) (k : FaultKind) (c : Option Chan) : (s.clearCond k c).pins = s.pins := rfl
@[simp] theorem State.clearCond_loader (s : State) (k : FaultKind) (c : Option Chan) : (s.clearCond k c).loader = s.loader := rfl
@[simp] theorem State.clearCond_station (s : State) (k : FaultKind) (c : Option Chan) : (s.clearCond k c).station = s.station := rfl
@[simp] theorem State.clearCond_line (s : State) (k : FaultKind) (c : Option Chan) : (s.clearCond k c).line = s.line := rfl
@[simp] theorem State.clearCond_cmd (s : State) (k : FaultKind) (c : Option Chan) : (s.clearCond k c).cmd = s.cmd := rfl
@[simp] theorem State.clearCond_peers (s : State) (k : FaultKind) (c : Option Chan) : (s.clearCond k c).peers = s.peers := rfl
@[simp] theorem State.clearCond_meas (s : State) (k : FaultKind) (c : Option Chan) : (s.clearCond k c).meas = s.meas := rfl
@[simp] theorem State.clearCond_burst (s : State) (k : FaultKind) (c : Option Chan) : (s.clearCond k c).burst = s.burst := rfl
@[simp] theorem State.clearCond_budget (s : State) (k : FaultKind) (c : Option Chan) : (s.clearCond k c).budget = s.budget := rfl
@[simp] theorem State.clearCond_chans (s : State) (k : FaultKind) (c : Option Chan) : (s.clearCond k c).chans = s.chans := rfl
@[simp] theorem State.clearCond_halt (s : State) (k : FaultKind) (c : Option Chan) : (s.clearCond k c).halt = s.halt := rfl
@[simp] theorem State.clearCond_pending (s : State) (k : FaultKind) (c : Option Chan) : (s.clearCond k c).pending = s.pending := rfl
@[simp] theorem State.clearCond_fault (s : State) (k : FaultKind) (c : Option Chan) : (s.clearCond k c).fault = { s.fault with conds := s.fault.conds.filter fun x => !decide (x.kind = k ∧ x.chan = c) } := rfl

/-! ## What the pins and the line show -/

@[simp] theorem State.showResidual_powered (s : State) (residual : Nat) : (s.showResidual residual).powered = s.powered := rfl
@[simp] theorem State.showResidual_now (s : State) (residual : Nat) : (s.showResidual residual).now = s.now := rfl
@[simp] theorem State.showResidual_loader (s : State) (residual : Nat) : (s.showResidual residual).loader = s.loader := rfl
@[simp] theorem State.showResidual_station (s : State) (residual : Nat) : (s.showResidual residual).station = s.station := rfl
@[simp] theorem State.showResidual_line (s : State) (residual : Nat) : (s.showResidual residual).line = s.line := rfl
@[simp] theorem State.showResidual_cmd (s : State) (residual : Nat) : (s.showResidual residual).cmd = s.cmd := rfl
@[simp] theorem State.showResidual_peers (s : State) (residual : Nat) : (s.showResidual residual).peers = s.peers := rfl
@[simp] theorem State.showResidual_meas (s : State) (residual : Nat) : (s.showResidual residual).meas = s.meas := rfl
@[simp] theorem State.showResidual_burst (s : State) (residual : Nat) : (s.showResidual residual).burst = s.burst := rfl
@[simp] theorem State.showResidual_budget (s : State) (residual : Nat) : (s.showResidual residual).budget = s.budget := rfl
@[simp] theorem State.showResidual_chans (s : State) (residual : Nat) : (s.showResidual residual).chans = s.chans := rfl
@[simp] theorem State.showResidual_fault (s : State) (residual : Nat) : (s.showResidual residual).fault = s.fault := rfl
@[simp] theorem State.showResidual_halt (s : State) (residual : Nat) : (s.showResidual residual).halt = s.halt := rfl
@[simp] theorem State.showResidual_pending (s : State) (residual : Nat) : (s.showResidual residual).pending = s.pending := rfl
@[simp] theorem State.showResidual_pins (s : State) (residual : Nat) : (s.showResidual residual).pins = { s.pins with residual := residual } := rfl

@[simp] theorem State.hear_powered (s : State) (dt : Nat) (wave : List Bool) : (s.hear dt wave).powered = s.powered := rfl
@[simp] theorem State.hear_pins (s : State) (dt : Nat) (wave : List Bool) : (s.hear dt wave).pins = s.pins := rfl
@[simp] theorem State.hear_loader (s : State) (dt : Nat) (wave : List Bool) : (s.hear dt wave).loader = s.loader := rfl
@[simp] theorem State.hear_station (s : State) (dt : Nat) (wave : List Bool) : (s.hear dt wave).station = s.station := rfl
@[simp] theorem State.hear_cmd (s : State) (dt : Nat) (wave : List Bool) : (s.hear dt wave).cmd = s.cmd := rfl
@[simp] theorem State.hear_peers (s : State) (dt : Nat) (wave : List Bool) : (s.hear dt wave).peers = s.peers := rfl
@[simp] theorem State.hear_meas (s : State) (dt : Nat) (wave : List Bool) : (s.hear dt wave).meas = s.meas := rfl
@[simp] theorem State.hear_burst (s : State) (dt : Nat) (wave : List Bool) : (s.hear dt wave).burst = s.burst := rfl
@[simp] theorem State.hear_budget (s : State) (dt : Nat) (wave : List Bool) : (s.hear dt wave).budget = s.budget := rfl
@[simp] theorem State.hear_chans (s : State) (dt : Nat) (wave : List Bool) : (s.hear dt wave).chans = s.chans := rfl
@[simp] theorem State.hear_fault (s : State) (dt : Nat) (wave : List Bool) : (s.hear dt wave).fault = s.fault := rfl
@[simp] theorem State.hear_halt (s : State) (dt : Nat) (wave : List Bool) : (s.hear dt wave).halt = s.halt := rfl
@[simp] theorem State.hear_pending (s : State) (dt : Nat) (wave : List Bool) : (s.hear dt wave).pending = s.pending := rfl
@[simp] theorem State.hear_now (s : State) (dt : Nat) (wave : List Bool) : (s.hear dt wave).now = s.now + dt := rfl
@[simp] theorem State.hear_line (s : State) (dt : Nat) (wave : List Bool) : (s.hear dt wave).line = if s.active then s.line.hear wave else s.line := rfl

/-! ## One operation for each channel of a list -/

/-- What every single application keeps, the whole keeps. -/
theorem State.each_keeps {β : Type} (g : State → β) {f : Chan → State → State} (h : ∀ c s, g (f c s) = g s) (cs : List Chan)
    (s : State) : g (s.each cs f) = g s := by
  induction cs generalizing s with
  | nil => rfl
  | cons c cs ih => exact (ih (f c s)).trans (h c s)

/-- A property that every single application on the list keeps holds after the whole. -/
theorem State.each_inv (P : State → Prop) {f : Chan → State → State} {cs : List Chan} (h : ∀ c ∈ cs, ∀ s, P s → P (f c s))
    {s : State} (hs : P s) : P (s.each cs f) := by
  induction cs generalizing s with
  | nil => exact hs
  | cons c cs ih =>
    exact ih (fun d hd => h d (List.mem_cons_of_mem c hd)) (h c (List.mem_cons_self ..) s hs)

/-- Detections taken one after another keep what each keeps. -/
theorem occurAll_inv (P : State → Prop) (h : ∀ d s, P s → P (occur d s)) (ds : List Detection) {s : State} (hs : P s) :
    P (occurAll ds s) := by
  induction ds generalizing s with
  | nil => exact hs
  | cons d ds ih => exact ih (h d s hs)

end Machine

end Sys2Proof
end

