-- ==== Sys2Proof/Laws/Arbiter.lean ====
section
/-! SUPPORT. What the arbiter of the converter makes of current requests: one lemma for the idle converter, one for requests made at any
moment; and the fields that the end of a leak test writes. -/

namespace Sys2Proof.Machine

/-- A channel has a pending request exactly where one of its three flags is set. -/
theorem request_isSome_iff (m : ChanMeas) : m.request.isSome = false ↔ NoRequest m := by
  unfold ChanMeas.request NoRequest
  cases hc : m.reqCheck <;> cases hf : m.reqOff <;> cases ho : m.reqOn <;> simp

/-- No channel has a pending request. -/
theorem pendingChan_none (s : State) : pendingChan s = none ↔ ∀ c, NoRequest (s.meas.chans.get c) := by
  simp only [pendingChan, Chan.list, List.find?_eq_none]
  constructor
  · intro h c
    rw [← request_isSome_iff]
    have := h c (by cases c <;> simp)
    simpa using this
  · intro h c _
    simpa using (request_isSome_iff _).mpr (h c)

/-- The first channel in channel order with a pending request. -/
theorem pendingChan_some (s : State) (c : Chan) (h : ∀ d : Chan, d.num < c.num → NoRequest (s.meas.chans.get d))
    (hc : ¬NoRequest (s.meas.chans.get c)) : pendingChan s = some c := by
  have hs : (s.meas.chans.get c).request.isSome = true := by
    cases e : (s.meas.chans.get c).request.isSome with
    | true => rfl
    | false => exact absurd ((request_isSome_iff _).mp e) hc
  have hn : ∀ d : Chan, d.num < c.num → (s.meas.chans.get d).request.isSome = false := fun d hd => (request_isSome_iff _).mpr (h d hd)
  unfold pendingChan Chan.list
  cases c
  · simp [hs]
  · simp [hs, hn .c0 (by decide)]
  · simp [hs, hn .c0 (by decide), hn .c1 (by decide)]
  · simp [hs, hn .c0 (by decide), hn .c1 (by decide), hn .c2 (by decide)]

/-- The arbiter at an idle converter (R88). -/
theorem startNext_takes (s : State) (h : s.meas.conv = none) : ArbiterTakes s (startNext s) where
  nothing hn hr := by
    simp only [startNext, h, (pendingChan_none s).mpr hn]
    rcases hr with hr | hr <;> simp [hr]
  reading r rest hn hr hl := by
    simp [startNext, h, (pendingChan_none s).mpr hn, hr, hl, State.convert, firstConversion]
  check c hd := by
    dsimp only
    refine ⟨fun e => ?_, fun x e => ?_⟩ <;>
    · have hp := pendingChan_some s c hd (fun hn => by simp [hn.2.2] at e)
      simp [startNext, h, hp, ChanMeas.request, e, State.convert, firstConversion, State.modMeas, ChanMeas.takeRequest]
  half c hd hc := by
    dsimp only
    refine ⟨fun e => ?_, fun e e' => ?_⟩
    · have hp := pendingChan_some s c hd (fun hn => by simp [hn.2.1] at e)
      simp [startNext, h, hp, ChanMeas.request, hc, e, State.convert, firstConversion, State.modMeas, ChanMeas.takeRequest]
    · have hp := pendingChan_some s c hd (fun hn => by simp [hn.1] at e')
      simp [startNext, h, hp, ChanMeas.request, hc, e, e', State.convert, firstConversion, State.modMeas, ChanMeas.takeRequest]

/-- The arbiter's test is that of log 38. -/
theorem givesWay_iff (s : State) (cv : Conversion) :
    (s.justBegun cv && cv.yields && (pendingChan s).isSome) = true ↔ GivesWay s cv := by
  have hp : (pendingChan s).isSome = true ↔ ¬∀ c, NoRequest (s.meas.chans.get c) := by
    rw [← pendingChan_none]; cases pendingChan s <;> simp
  simp only [GivesWay, State.justBegun, Conversion.yields, Bool.and_eq_true, decide_eq_true_eq, hp]
  cases hs : cv.sample <;> simp [and_assoc]

/-- What the arbiter makes of current requests (R88; log 38). -/
theorem startRequested_served (s : State) : RequestsServed s (startRequested s) where
  goesOn cv h hg := by
    rw [← givesWay_iff] at hg
    simp [startRequested, h, hg]
  idle h := by
    have e : startRequested s = startNext s := by simp [startRequested, h]
    rw [e]; exact startNext_takes s h
  dropped cv h hg hr := by
    have hg' := (givesWay_iff s cv).mpr hg
    have e : startRequested s = startNext { s with meas := { s.meas with conv := none } } := by
      simp only [startRequested, h, hg', if_true]
      congr 1
      rcases hr with ⟨r, hr⟩ | hr
      · simp [putBack, hr]
      · unfold putBack; split <;> simp [hr]
    rw [e]; exact startNext_takes _ rfl
  again cv c k h hg hk hl := by
    have hg' := (givesWay_iff s cv).mpr hg
    have e : startRequested s = startNext { s with meas := { s.meas with
        conv := none
        chans := s.meas.chans.set c ((s.meas.chans.get c).putRequest cv.limit k) } } := by
      simp [startRequested, h, hg', putBack, hk, hl, State.modMeas]
    rw [e]
    have t := startNext_takes { s with meas := { s.meas with
        conv := none
        chans := s.meas.chans.set c ((s.meas.chans.get c).putRequest cv.limit k) } } rfl
    cases k <;> cases hx : cv.limit <;> simpa [ChanMeas.putRequest, checkRequest, hx] using t

@[simp] theorem endLeakTest_meas (s : State) :
    (endLeakTest s).meas = { s.meas with leakTest := .idle, leakCount := 0, leakPause := true } := rfl

end Sys2Proof.Machine
end

