-- ==== Sys2Proof/Laws/Crc.lean ====
section
/-! SUPPORT. The laws of the CRC (R25): a shift loses nothing, so that a remainder is taken to 0 by its own two characters alone. -/

namespace Sys2Proof.Machine

/-- The eight shifts of one character. -/
def crcShift8 (r : Word16) : Word16 := crcShift (crcShift (crcShift (crcShift (crcShift (crcShift (crcShift (crcShift r)))))))

theorem crcStep_eq (r : Word16) (b : Byte) : crcStep r b = crcShift8 (r ^^^ ((b.setWidth 16) <<< 8)) := rfl

theorem crc16_append (as bs : List Byte) : crc16 (as ++ bs) = bs.foldl crcStep (crc16 as) := by simp [crc16]

/-- The lowest bit of a shifted remainder tells the bit that left it. -/
theorem crcShift_lsb (r : Word16) : (crcShift r).getLsbD 0 = r.msb := by
  unfold crcShift
  cases h : r.msb <;> simp

/-- Two remainders that shift to the same remainder are the same. -/
theorem crcShift_inj {a b : Word16} (h : crcShift a = crcShift b) : a = b := by
  have hm : a.msb = b.msb := by rw [← crcShift_lsb, ← crcShift_lsb, h]
  have hs : a <<< 1 = b <<< 1 := by
    unfold crcShift at h
    rw [hm] at h
    split at h
    · have h2 := congrArg (· ^^^ 0x1021#16) h
      simpa [BitVec.xor_assoc] using h2
    · exact h
  apply BitVec.eq_of_getLsbD_eq
  intro i hi
  by_cases h15 : i = 15
  · subst h15
    simpa [BitVec.msb_eq_getLsbD_last] using hm
  · have := congrArg (fun x => x.getLsbD (i + 1)) hs
    simpa [show i + 1 < 16 by omega, BitVec.getLsbD_eq_getElem hi] using this

theorem crcShift8_inj {a b : Word16} (h : crcShift8 a = crcShift8 b) : a = b :=
  crcShift_inj (crcShift_inj (crcShift_inj (crcShift_inj (crcShift_inj (crcShift_inj (crcShift_inj (crcShift_inj h)))))))

/-- A character in the low half moves to the high half. -/
theorem crcShift8_low (b : Byte) : crcShift8 (b.setWidth 16) = (b.setWidth 16) <<< 8 := by
  revert b
  decide +revert
/-- A character in both halves splits into the two. -/
theorem word_split (r : Word16) : r = (((r >>> 8).setWidth 8).setWidth 16 <<< 8) ^^^ ((r.setWidth 8).setWidth 16) := by
  apply BitVec.eq_of_getLsbD_eq
  intro i hi
  by_cases h : i < 8
  · simp [h, hi]
  · have h2 : i - 8 + 8 = i := by omega
    have h3 : i - 8 < 8 := by omega
    simp [h, hi, h3, h2, Nat.add_comm 8]

end Sys2Proof.Machine
end

