-- ==== Sys2Proof/Laws/Frames.lean ====
section
/-! SUPPORT. What each shared operation leaves unchanged: one lemma for each operation, naming every block it does not touch. -/

namespace Sys2Proof.Machine

/-! ## Channels and outputs -/

@[simp] theorem startChoice_frame (c : Chan) (s : State) :
    (startChoice c s).powered = s.powered ∧
    (startChoice c s).now = s.now ∧
    (startChoice c s).pins = s.pins ∧
    (startChoice c s).loader = s.loader ∧
    (startChoice c s).station = s.station ∧
    (startChoice c s).line = s.line ∧
    (startChoice c s).cmd = s.cmd ∧
    (startChoice c s).peers = s.peers ∧
    (startChoice c s).meas = s.meas ∧
    (startChoice c s).burst = s.burst ∧
    (startChoice c s).budget = s.budget ∧
    (startChoice c s).fault = s.fault ∧
    (startChoice c s).halt = s.halt ∧
    (startChoice c s).pending = s.pending := by
  simp [startChoice]

@[simp] theorem stopFiring_frame (c : Chan) (s : State) :
    (stopFiring c s).powered = s.powered ∧
    (stopFiring c s).now = s.now ∧
    (stopFiring c s).pins = s.pins ∧
    (stopFiring c s).loader = s.loader ∧
    (stopFiring c s).station = s.station ∧
    (stopFiring c s).line = s.line ∧
    (stopFiring c s).cmd = s.cmd ∧
    (stopFiring c s).peers = s.peers ∧
    (stopFiring c s).meas = s.meas ∧
    (stopFiring c s).budget = s.budget ∧
    (stopFiring c s).chans = s.chans ∧
    (stopFiring c s).fault = s.fault ∧
    (stopFiring c s).halt = s.halt ∧
    (stopFiring c s).pending = s.pending := by
  simp [stopFiring]

@[simp] theorem chanToOff_frame (c : Chan) (s : State) :
    (chanToOff c s).powered = s.powered ∧
    (chanToOff c s).now = s.now ∧
    (chanToOff c s).pins = s.pins ∧
    (chanToOff c s).loader = s.loader ∧
    (chanToOff c s).station = s.station ∧
    (chanToOff c s).line = s.line ∧
    (chanToOff c s).cmd = s.cmd ∧
    (chanToOff c s).peers = s.peers ∧
    (chanToOff c s).meas = s.meas ∧
    (chanToOff c s).budget = s.budget ∧
    (chanToOff c s).fault = s.fault ∧
    (chanToOff c s).halt = s.halt ∧
    (chanToOff c s).pending = s.pending := by
  simp [chanToOff]

@[simp] theorem cutFirst_frame (c : Chan) (s : State) :
    (cutFirst c s).powered = s.powered ∧
    (cutFirst c s).now = s.now ∧
    (cutFirst c s).pins = s.pins ∧
    (cutFirst c s).loader = s.loader ∧
    (cutFirst c s).station = s.station ∧
    (cutFirst c s).line = s.line ∧
    (cutFirst c s).cmd = s.cmd ∧
    (cutFirst c s).peers = s.peers ∧
    (cutFirst c s).budget = s.budget ∧
    (cutFirst c s).chans = s.chans ∧
    (cutFirst c s).fault = s.fault ∧
    (cutFirst c s).halt = s.halt ∧
    (cutFirst c s).pending = s.pending := by
  unfold cutFirst
  split <;> simp

/-- All that `cutFirst` can do: an output that has just come on with a new period goes off again, its check armed with OFF and the
sequencer told; at any other moment, and for an output that is off, nothing (R117, R145). -/
theorem cutFirst_cases (c : Chan) (s : State) :
    ((s.atPeriodStart = true ∧ (s.burst.chans.get c).out = true) ∧
      cutFirst c s = { s with
        burst := { s.burst with
          chans := s.burst.chans.set c { s.burst.chans.get c with out := false, check := some ⟨false, s.now⟩ } }
        meas := { s.meas with chans := s.meas.chans.set c (s.meas.chans.get c).untell } }) ∨
    (¬(s.atPeriodStart = true ∧ (s.burst.chans.get c).out = true) ∧ cutFirst c s = s) := by
  by_cases h : s.atPeriodStart = true ∧ (s.burst.chans.get c).out = true
  · exact .inl ⟨h, by simp [cutFirst, h.1, h.2, ChanBurst.drive, State.modBurst, State.modMeas]⟩
  · exact .inr ⟨h, by simp only [cutFirst, Bool.and_eq_true, h, if_false]⟩

/-- A stop keeps all that the sequencer holds but the telling of one channel. -/
theorem stopChan_meas (c : Chan) (st : ChanState) (hold : Option Nat) (s : State) :
    { (stopChan c st hold s).meas with chans := s.meas.chans } = s.meas := by
  rcases cutFirst_cases c (stopFiring c (s.modChan c fun ch => ch.stopped st hold)) with ⟨_, h⟩ | ⟨_, h⟩ <;>
    simp [stopChan, h]

@[simp] theorem stopChan_frame (c : Chan) (st : ChanState) (hold : Option Nat) (s : State) :
    (stopChan c st hold s).powered = s.powered ∧
    (stopChan c st hold s).now = s.now ∧
    (stopChan c st hold s).pins = s.pins ∧
    (stopChan c st hold s).loader = s.loader ∧
    (stopChan c st hold s).station = s.station ∧
    (stopChan c st hold s).line = s.line ∧
    (stopChan c st hold s).cmd = s.cmd ∧
    (stopChan c st hold s).peers = s.peers ∧
    (stopChan c st hold s).budget = s.budget ∧
    (stopChan c st hold s).fault = s.fault ∧
    (stopChan c st hold s).halt = s.halt ∧
    (stopChan c st hold s).pending = s.pending := by
  simp [stopChan]

@[simp] theorem holdChan_frame (expiry : Nat) (c : Chan) (s : State) :
    (holdChan expiry c s).powered = s.powered ∧
    (holdChan expiry c s).now = s.now ∧
    (holdChan expiry c s).pins = s.pins ∧
    (holdChan expiry c s).loader = s.loader ∧
    (holdChan expiry c s).station = s.station ∧
    (holdChan expiry c s).line = s.line ∧
    (holdChan expiry c s).cmd = s.cmd ∧
    (holdChan expiry c s).peers = s.peers ∧
    (holdChan expiry c s).budget = s.budget ∧
    (holdChan expiry c s).fault = s.fault ∧
    (holdChan expiry c s).halt = s.halt ∧
    (holdChan expiry c s).pending = s.pending := by
  unfold holdChan
  (repeat' split) <;> simp

@[simp] theorem firingToOff_frame (s : State) :
    (firingToOff s).powered = s.powered ∧
    (firingToOff s).now = s.now ∧
    (firingToOff s).pins = s.pins ∧
    (firingToOff s).loader = s.loader ∧
    (firingToOff s).station = s.station ∧
    (firingToOff s).line = s.line ∧
    (firingToOff s).cmd = s.cmd ∧
    (firingToOff s).peers = s.peers ∧
    (firingToOff s).meas = s.meas ∧
    (firingToOff s).budget = s.budget ∧
    (firingToOff s).fault = s.fault ∧
    (firingToOff s).halt = s.halt ∧
    (firingToOff s).pending = s.pending := by
  refine ⟨?_, ?_, ?_, ?_, ?_, ?_, ?_, ?_, ?_, ?_, ?_, ?_, ?_⟩ <;>
    exact State.each_keeps _ (fun c s => by split <;> simp) _ _

@[simp] theorem startOffChannels_frame (s : State) :
    (startOffChannels s).powered = s.powered ∧
    (startOffChannels s).now = s.now ∧
    (startOffChannels s).pins = s.pins ∧
    (startOffChannels s).loader = s.loader ∧
    (startOffChannels s).station = s.station ∧
    (startOffChannels s).line = s.line ∧
    (startOffChannels s).cmd = s.cmd ∧
    (startOffChannels s).peers = s.peers ∧
    (startOffChannels s).meas = s.meas ∧
    (startOffChannels s).burst = s.burst ∧
    (startOffChannels s).budget = s.budget ∧
    (startOffChannels s).fault = s.fault ∧
    (startOffChannels s).halt = s.halt ∧
    (startOffChannels s).pending = s.pending := by
  refine ⟨?_, ?_, ?_, ?_, ?_, ?_, ?_, ?_, ?_, ?_, ?_, ?_, ?_, ?_⟩ <;>
    exact State.each_keeps _ (fun c s => by split <;> simp) _ _

@[simp] theorem outputsOff_frame (s : State) :
    (outputsOff s).powered = s.powered ∧
    (outputsOff s).now = s.now ∧
    (outputsOff s).pins = s.pins ∧
    (outputsOff s).loader = s.loader ∧
    (outputsOff s).station = s.station ∧
    (outputsOff s).line = s.line ∧
    (outputsOff s).cmd = s.cmd ∧
    (outputsOff s).peers = s.peers ∧
    (outputsOff s).budget = s.budget ∧
    (outputsOff s).chans = s.chans ∧
    (outputsOff s).fault = s.fault ∧
    (outputsOff s).halt = s.halt ∧
    (outputsOff s).pending = s.pending := by
  simp [outputsOff]

@[simp] theorem discardChecks_frame (s : State) :
    (discardChecks s).powered = s.powered ∧
    (discardChecks s).now = s.now ∧
    (discardChecks s).pins = s.pins ∧
    (discardChecks s).loader = s.loader ∧
    (discardChecks s).station = s.station ∧
    (discardChecks s).line = s.line ∧
    (discardChecks s).cmd = s.cmd ∧
    (discardChecks s).peers = s.peers ∧
    (discardChecks s).meas = s.meas ∧
    (discardChecks s).budget = s.budget ∧
    (discardChecks s).chans = s.chans ∧
    (discardChecks s).fault = s.fault ∧
    (discardChecks s).halt = s.halt ∧
    (discardChecks s).pending = s.pending := by
  simp [discardChecks]

@[simp] theorem settleOutputs_frame (s : State) :
    (settleOutputs s).powered = s.powered ∧
    (settleOutputs s).now = s.now ∧
    (settleOutputs s).pins = s.pins ∧
    (settleOutputs s).loader = s.loader ∧
    (settleOutputs s).station = s.station ∧
    (settleOutputs s).line = s.line ∧
    (settleOutputs s).cmd = s.cmd ∧
    (settleOutputs s).peers = s.peers ∧
    (settleOutputs s).budget = s.budget ∧
    (settleOutputs s).chans = s.chans ∧
    (settleOutputs s).fault = s.fault ∧
    (settleOutputs s).halt = s.halt ∧
    (settleOutputs s).pending = s.pending := by
  simp [settleOutputs]

@[simp] theorem clearPhases_frame (s : State) :
    (clearPhases s).powered = s.powered ∧
    (clearPhases s).now = s.now ∧
    (clearPhases s).pins = s.pins ∧
    (clearPhases s).loader = s.loader ∧
    (clearPhases s).station = s.station ∧
    (clearPhases s).line = s.line ∧
    (clearPhases s).cmd = s.cmd ∧
    (clearPhases s).meas = s.meas ∧
    (clearPhases s).burst = s.burst ∧
    (clearPhases s).budget = s.budget ∧
    (clearPhases s).chans = s.chans ∧
    (clearPhases s).fault = s.fault ∧
    (clearPhases s).halt = s.halt ∧
    (clearPhases s).pending = s.pending := by
  simp [clearPhases]

@[simp] theorem alignment_frame (s : State) :
    (alignment s).powered = s.powered ∧
    (alignment s).now = s.now ∧
    (alignment s).pins = s.pins ∧
    (alignment s).loader = s.loader ∧
    (alignment s).station = s.station ∧
    (alignment s).line = s.line ∧
    (alignment s).cmd = s.cmd ∧
    (alignment s).meas = s.meas ∧
    (alignment s).budget = s.budget ∧
    (alignment s).chans = s.chans ∧
    (alignment s).fault = s.fault ∧
    (alignment s).halt = s.halt ∧
    (alignment s).pending = s.pending := by
  simp [alignment]

@[simp] theorem applySlot_frame (s : State) :
    (applySlot s).powered = s.powered ∧
    (applySlot s).now = s.now ∧
    (applySlot s).pins = s.pins ∧
    (applySlot s).loader = s.loader ∧
    (applySlot s).station = s.station ∧
    (applySlot s).line = s.line ∧
    (applySlot s).cmd = s.cmd ∧
    (applySlot s).peers = s.peers ∧
    (applySlot s).meas = s.meas ∧
    (applySlot s).budget = s.budget ∧
    (applySlot s).chans = s.chans ∧
    (applySlot s).fault = s.fault ∧
    (applySlot s).halt = s.halt ∧
    (applySlot s).pending = s.pending := by
  unfold applySlot
  dsimp only
  (repeat' split) <;> simp

@[simp] theorem freshPeriod_frame (s : State) :
    (freshPeriod s).powered = s.powered ∧
    (freshPeriod s).now = s.now ∧
    (freshPeriod s).pins = s.pins ∧
    (freshPeriod s).loader = s.loader ∧
    (freshPeriod s).station = s.station ∧
    (freshPeriod s).line = s.line ∧
    (freshPeriod s).cmd = s.cmd ∧
    (freshPeriod s).peers = s.peers ∧
    (freshPeriod s).meas = s.meas ∧
    (freshPeriod s).budget = s.budget ∧
    (freshPeriod s).chans = s.chans ∧
    (freshPeriod s).fault = s.fault ∧
    (freshPeriod s).halt = s.halt ∧
    (freshPeriod s).pending = s.pending := by
  simp [freshPeriod]

@[simp] theorem setContactor_frame (closed : Bool) (s : State) :
    (setContactor closed s).powered = s.powered ∧
    (setContactor closed s).now = s.now ∧
    (setContactor closed s).pins = s.pins ∧
    (setContactor closed s).loader = s.loader ∧
    (setContactor closed s).station = s.station ∧
    (setContactor closed s).line = s.line ∧
    (setContactor closed s).cmd = s.cmd ∧
    (setContactor closed s).peers = s.peers ∧
    (setContactor closed s).meas = s.meas ∧
    (setContactor closed s).budget = s.budget ∧
    (setContactor closed s).chans = s.chans ∧
    (setContactor closed s).fault = s.fault ∧
    (setContactor closed s).halt = s.halt ∧
    (setContactor closed s).pending = s.pending := by
  simp [setContactor]

@[simp] theorem stopAllFiring_frame (s : State) :
    (stopAllFiring s).powered = s.powered ∧
    (stopAllFiring s).now = s.now ∧
    (stopAllFiring s).pins = s.pins ∧
    (stopAllFiring s).loader = s.loader ∧
    (stopAllFiring s).station = s.station ∧
    (stopAllFiring s).line = s.line ∧
    (stopAllFiring s).cmd = s.cmd ∧
    (stopAllFiring s).peers = s.peers ∧
    (stopAllFiring s).meas = s.meas ∧
    (stopAllFiring s).budget = s.budget ∧
    (stopAllFiring s).chans = s.chans ∧
    (stopAllFiring s).fault = s.fault ∧
    (stopAllFiring s).halt = s.halt ∧
    (stopAllFiring s).pending = s.pending := by
  simp [stopAllFiring]

@[simp] theorem makeSlotChoice_frame (s : State) :
    (makeSlotChoice s).powered = s.powered ∧
    (makeSlotChoice s).now = s.now ∧
    (makeSlotChoice s).pins = s.pins ∧
    (makeSlotChoice s).loader = s.loader ∧
    (makeSlotChoice s).station = s.station ∧
    (makeSlotChoice s).line = s.line ∧
    (makeSlotChoice s).cmd = s.cmd ∧
    (makeSlotChoice s).peers = s.peers ∧
    (makeSlotChoice s).meas = s.meas ∧
    (makeSlotChoice s).budget = s.budget ∧
    (makeSlotChoice s).chans = s.chans ∧
    (makeSlotChoice s).fault = s.fault ∧
    (makeSlotChoice s).halt = s.halt ∧
    (makeSlotChoice s).pending = s.pending := by
  simp [makeSlotChoice]

@[simp] theorem setFlow_frame (s : State) :
    (setFlow s).powered = s.powered ∧
    (setFlow s).now = s.now ∧
    (setFlow s).pins = s.pins ∧
    (setFlow s).loader = s.loader ∧
    (setFlow s).station = s.station ∧
    (setFlow s).line = s.line ∧
    (setFlow s).cmd = s.cmd ∧
    (setFlow s).meas = s.meas ∧
    (setFlow s).burst = s.burst ∧
    (setFlow s).budget = s.budget ∧
    (setFlow s).chans = s.chans ∧
    (setFlow s).fault = s.fault ∧
    (setFlow s).halt = s.halt ∧
    (setFlow s).pending = s.pending := by
  unfold setFlow
  dsimp only
  (repeat' split) <;> simp

/-! ## The outgoing queue -/

@[simp] theorem reportInstant_frame (s : State) :
    (reportInstant s).powered = s.powered ∧
    (reportInstant s).now = s.now ∧
    (reportInstant s).pins = s.pins ∧
    (reportInstant s).loader = s.loader ∧
    (reportInstant s).station = s.station ∧
    (reportInstant s).cmd = s.cmd ∧
    (reportInstant s).peers = s.peers ∧
    (reportInstant s).meas = s.meas ∧
    (reportInstant s).burst = s.burst ∧
    (reportInstant s).budget = s.budget ∧
    (reportInstant s).chans = s.chans ∧
    (reportInstant s).fault = s.fault ∧
    (reportInstant s).halt = s.halt ∧
    (reportInstant s).pending = s.pending := by
  simp [reportInstant]

@[simp] theorem placeNotice_frame (q : List OutFrame) (s : State) :
    (placeNotice q s).powered = s.powered ∧
    (placeNotice q s).now = s.now ∧
    (placeNotice q s).pins = s.pins ∧
    (placeNotice q s).loader = s.loader ∧
    (placeNotice q s).station = s.station ∧
    (placeNotice q s).cmd = s.cmd ∧
    (placeNotice q s).peers = s.peers ∧
    (placeNotice q s).meas = s.meas ∧
    (placeNotice q s).burst = s.burst ∧
    (placeNotice q s).budget = s.budget ∧
    (placeNotice q s).chans = s.chans ∧
    (placeNotice q s).halt = s.halt ∧
    (placeNotice q s).pending = s.pending := by
  simp [placeNotice]

@[simp] theorem keepPending_frame (n : NoticeContent) (s : State) :
    (keepPending n s).powered = s.powered ∧
    (keepPending n s).now = s.now ∧
    (keepPending n s).pins = s.pins ∧
    (keepPending n s).loader = s.loader ∧
    (keepPending n s).station = s.station ∧
    (keepPending n s).line = s.line ∧
    (keepPending n s).cmd = s.cmd ∧
    (keepPending n s).peers = s.peers ∧
    (keepPending n s).meas = s.meas ∧
    (keepPending n s).burst = s.burst ∧
    (keepPending n s).budget = s.budget ∧
    (keepPending n s).chans = s.chans ∧
    (keepPending n s).halt = s.halt ∧
    (keepPending n s).pending = s.pending := by
  simp [keepPending]

@[simp] theorem offerNotice_frame (n : NoticeContent) (s : State) :
    (offerNotice n s).powered = s.powered ∧
    (offerNotice n s).now = s.now ∧
    (offerNotice n s).pins = s.pins ∧
    (offerNotice n s).loader = s.loader ∧
    (offerNotice n s).station = s.station ∧
    (offerNotice n s).cmd = s.cmd ∧
    (offerNotice n s).peers = s.peers ∧
    (offerNotice n s).meas = s.meas ∧
    (offerNotice n s).burst = s.burst ∧
    (offerNotice n s).budget = s.budget ∧
    (offerNotice n s).chans = s.chans ∧
    (offerNotice n s).halt = s.halt ∧
    (offerNotice n s).pending = s.pending := by
  unfold offerNotice
  dsimp only
  (repeat' split) <;> simp

@[simp] theorem nextNotice_frame (s : State) :
    (nextNotice s).powered = s.powered ∧
    (nextNotice s).now = s.now ∧
    (nextNotice s).pins = s.pins ∧
    (nextNotice s).loader = s.loader ∧
    (nextNotice s).station = s.station ∧
    (nextNotice s).cmd = s.cmd ∧
    (nextNotice s).peers = s.peers ∧
    (nextNotice s).meas = s.meas ∧
    (nextNotice s).burst = s.burst ∧
    (nextNotice s).budget = s.budget ∧
    (nextNotice s).chans = s.chans ∧
    (nextNotice s).halt = s.halt ∧
    (nextNotice s).pending = s.pending := by
  unfold nextNotice
  dsimp only
  (repeat' split) <;> simp

@[simp] theorem offerPending_frame (s : State) :
    (offerPending s).powered = s.powered ∧
    (offerPending s).now = s.now ∧
    (offerPending s).pins = s.pins ∧
    (offerPending s).loader = s.loader ∧
    (offerPending s).station = s.station ∧
    (offerPending s).cmd = s.cmd ∧
    (offerPending s).peers = s.peers ∧
    (offerPending s).meas = s.meas ∧
    (offerPending s).burst = s.burst ∧
    (offerPending s).budget = s.budget ∧
    (offerPending s).chans = s.chans ∧
    (offerPending s).halt = s.halt ∧
    (offerPending s).pending = s.pending := by
  unfold offerPending
  (repeat' split) <;> simp

@[simp] theorem offerHold_frame (s : State) :
    (offerHold s).powered = s.powered ∧
    (offerHold s).now = s.now ∧
    (offerHold s).pins = s.pins ∧
    (offerHold s).loader = s.loader ∧
    (offerHold s).station = s.station ∧
    (offerHold s).cmd = s.cmd ∧
    (offerHold s).peers = s.peers ∧
    (offerHold s).meas = s.meas ∧
    (offerHold s).burst = s.burst ∧
    (offerHold s).budget = s.budget ∧
    (offerHold s).chans = s.chans ∧
    (offerHold s).fault = s.fault ∧
    (offerHold s).halt = s.halt ∧
    (offerHold s).pending = s.pending := by
  unfold offerHold
  dsimp only
  (repeat' split) <;> simp

@[simp] theorem offerCompletion_frame (s : State) :
    (offerCompletion s).powered = s.powered ∧
    (offerCompletion s).now = s.now ∧
    (offerCompletion s).pins = s.pins ∧
    (offerCompletion s).loader = s.loader ∧
    (offerCompletion s).station = s.station ∧
    (offerCompletion s).peers = s.peers ∧
    (offerCompletion s).meas = s.meas ∧
    (offerCompletion s).burst = s.burst ∧
    (offerCompletion s).budget = s.budget ∧
    (offerCompletion s).chans = s.chans ∧
    (offerCompletion s).fault = s.fault ∧
    (offerCompletion s).halt = s.halt ∧
    (offerCompletion s).pending = s.pending := by
  unfold offerCompletion
  (repeat' split) <;> simp

@[simp] theorem placeFreed_frame (s : State) :
    (placeFreed s).powered = s.powered ∧
    (placeFreed s).now = s.now ∧
    (placeFreed s).pins = s.pins ∧
    (placeFreed s).loader = s.loader ∧
    (placeFreed s).station = s.station ∧
    (placeFreed s).peers = s.peers ∧
    (placeFreed s).meas = s.meas ∧
    (placeFreed s).burst = s.burst ∧
    (placeFreed s).budget = s.budget ∧
    (placeFreed s).chans = s.chans ∧
    (placeFreed s).halt = s.halt ∧
    (placeFreed s).pending = s.pending := by
  simp [placeFreed]

/-- R49: all that the end of a deferred command's work can do. -/
theorem completeDeferred_cases (name : Deferred) (status : Status) (result : List Byte) (s : State) :
    completeDeferred name status result s = s ∨
    ∃ asker reqNo due, s.cmd = .inFlight name asker reqNo due ∧
      ((due = false ∨ s.station.mute = true) ∧ completeDeferred name status result s = { s with cmd := .empty } ∨
        (due = true ∧ s.station.mute = false ∧ s.line.queue.length < 4 ∧ completeDeferred name status result s =
          { s with line := s.line.append (.answer ⟨asker, reqNo, status, result⟩), cmd := .empty }) ∨
        (due = true ∧ s.station.mute = false ∧ 4 ≤ s.line.queue.length ∧ completeDeferred name status result s =
          { s with cmd := .held ⟨asker, reqNo, status, result⟩ })) := by
  unfold completeDeferred
  split
  · rename_i n asker reqNo due hc
    split
    · exact .inl rfl
    · rename_i hn
      obtain rfl := not_not.mp hn
      refine .inr ⟨asker, reqNo, due, hc, ?_⟩
      split
      · rename_i h; exact .inl ⟨by simpa using h, rfl⟩
      · rename_i h
        obtain ⟨h1, h2⟩ : due = true ∧ s.station.mute = false := by simpa using h
        split
        · rename_i hr; exact .inr (.inl ⟨h1, h2, by simpa [Line.hasRoom] using hr, rfl⟩)
        · rename_i hr; exact .inr (.inr ⟨h1, h2, by simpa [Line.hasRoom] using hr, rfl⟩)
  · exact .inl rfl

@[simp] theorem completeDeferred_frame (name : Deferred) (status : Status) (result : List Byte) (s : State) :
    (completeDeferred name status result s).powered = s.powered ∧
    (completeDeferred name status result s).now = s.now ∧
    (completeDeferred name status result s).pins = s.pins ∧
    (completeDeferred name status result s).loader = s.loader ∧
    (completeDeferred name status result s).station = s.station ∧
    (completeDeferred name status result s).peers = s.peers ∧
    (completeDeferred name status result s).meas = s.meas ∧
    (completeDeferred name status result s).burst = s.burst ∧
    (completeDeferred name status result s).budget = s.budget ∧
    (completeDeferred name status result s).chans = s.chans ∧
    (completeDeferred name status result s).fault = s.fault ∧
    (completeDeferred name status result s).halt = s.halt ∧
    (completeDeferred name status result s).pending = s.pending := by
  unfold completeDeferred
  (repeat' split) <;> simp

/-! ## The halt procedure -/

@[simp] theorem beginHalt_frame (cause : HaltCause) (s : State) :
    (beginHalt cause s).powered = s.powered ∧
    (beginHalt cause s).now = s.now ∧
    (beginHalt cause s).pins = s.pins ∧
    (beginHalt cause s).loader = s.loader ∧
    (beginHalt cause s).station = s.station ∧
    (beginHalt cause s).line = s.line ∧
    (beginHalt cause s).cmd = s.cmd ∧
    (beginHalt cause s).peers = s.peers ∧
    (beginHalt cause s).budget = s.budget ∧
    (beginHalt cause s).chans = s.chans ∧
    (beginHalt cause s).fault = s.fault ∧
    (beginHalt cause s).pending = s.pending := by
  simp [beginHalt]

@[simp] theorem endLeakTest_frame (s : State) :
    (endLeakTest s).powered = s.powered ∧
    (endLeakTest s).now = s.now ∧
    (endLeakTest s).pins = s.pins ∧
    (endLeakTest s).loader = s.loader ∧
    (endLeakTest s).station = s.station ∧
    (endLeakTest s).line = s.line ∧
    (endLeakTest s).cmd = s.cmd ∧
    (endLeakTest s).peers = s.peers ∧
    (endLeakTest s).burst = s.burst ∧
    (endLeakTest s).budget = s.budget ∧
    (endLeakTest s).chans = s.chans ∧
    (endLeakTest s).fault = s.fault ∧
    (endLeakTest s).halt = s.halt ∧
    (endLeakTest s).pending = s.pending := by
  simp [endLeakTest]

@[simp] theorem abortLeakTest_frame (s : State) :
    (abortLeakTest s).powered = s.powered ∧
    (abortLeakTest s).now = s.now ∧
    (abortLeakTest s).pins = s.pins ∧
    (abortLeakTest s).loader = s.loader ∧
    (abortLeakTest s).station = s.station ∧
    (abortLeakTest s).peers = s.peers ∧
    (abortLeakTest s).burst = s.burst ∧
    (abortLeakTest s).budget = s.budget ∧
    (abortLeakTest s).chans = s.chans ∧
    (abortLeakTest s).fault = s.fault ∧
    (abortLeakTest s).halt = s.halt ∧
    (abortLeakTest s).pending = s.pending := by
  unfold abortLeakTest
  (repeat' split) <;> simp

@[simp] theorem enterHalting_frame (s : State) :
    (enterHalting s).powered = s.powered ∧
    (enterHalting s).now = s.now ∧
    (enterHalting s).pins = s.pins ∧
    (enterHalting s).loader = s.loader ∧
    (enterHalting s).peers = s.peers ∧
    (enterHalting s).budget = s.budget ∧
    (enterHalting s).fault = s.fault ∧
    (enterHalting s).pending = s.pending := by
  simp [enterHalting]

@[simp] theorem writeSecond_frame (cause : HaltCause) (s : State) :
    (writeSecond cause s).powered = s.powered ∧
    (writeSecond cause s).now = s.now ∧
    (writeSecond cause s).pins = s.pins ∧
    (writeSecond cause s).loader = s.loader ∧
    (writeSecond cause s).station = s.station ∧
    (writeSecond cause s).line = s.line ∧
    (writeSecond cause s).cmd = s.cmd ∧
    (writeSecond cause s).peers = s.peers ∧
    (writeSecond cause s).meas = s.meas ∧
    (writeSecond cause s).burst = s.burst ∧
    (writeSecond cause s).budget = s.budget ∧
    (writeSecond cause s).chans = s.chans ∧
    (writeSecond cause s).fault = s.fault ∧
    (writeSecond cause s).pending = s.pending := by
  simp [writeSecond]

@[simp] theorem checkDecision_frame (s : State) :
    (checkDecision s).powered = s.powered ∧
    (checkDecision s).now = s.now ∧
    (checkDecision s).pins = s.pins ∧
    (checkDecision s).loader = s.loader ∧
    (checkDecision s).cmd = s.cmd ∧
    (checkDecision s).peers = s.peers ∧
    (checkDecision s).meas = s.meas ∧
    (checkDecision s).burst = s.burst ∧
    (checkDecision s).budget = s.budget ∧
    (checkDecision s).chans = s.chans ∧
    (checkDecision s).fault = s.fault ∧
    (checkDecision s).pending = s.pending := by
  unfold checkDecision
  dsimp only
  (repeat' split) <;> simp

/-! ## The fault unit -/

@[simp] theorem writeQueue_frame (d : Detection) (cls : FaultClass) (trial : Bool) (s : State) :
    (writeQueue d cls trial s).powered = s.powered ∧
    (writeQueue d cls trial s).now = s.now ∧
    (writeQueue d cls trial s).pins = s.pins ∧
    (writeQueue d cls trial s).loader = s.loader ∧
    (writeQueue d cls trial s).station = s.station ∧
    (writeQueue d cls trial s).line = s.line ∧
    (writeQueue d cls trial s).cmd = s.cmd ∧
    (writeQueue d cls trial s).peers = s.peers ∧
    (writeQueue d cls trial s).meas = s.meas ∧
    (writeQueue d cls trial s).burst = s.burst ∧
    (writeQueue d cls trial s).budget = s.budget ∧
    (writeQueue d cls trial s).chans = s.chans ∧
    (writeQueue d cls trial s).halt = s.halt ∧
    (writeQueue d cls trial s).pending = s.pending := by
  simp [writeQueue]

@[simp] theorem awaitNotice_frame (o : Occ) (s : State) :
    (awaitNotice o s).powered = s.powered ∧
    (awaitNotice o s).now = s.now ∧
    (awaitNotice o s).pins = s.pins ∧
    (awaitNotice o s).loader = s.loader ∧
    (awaitNotice o s).station = s.station ∧
    (awaitNotice o s).line = s.line ∧
    (awaitNotice o s).cmd = s.cmd ∧
    (awaitNotice o s).peers = s.peers ∧
    (awaitNotice o s).meas = s.meas ∧
    (awaitNotice o s).burst = s.burst ∧
    (awaitNotice o s).budget = s.budget ∧
    (awaitNotice o s).chans = s.chans ∧
    (awaitNotice o s).halt = s.halt ∧
    (awaitNotice o s).pending = s.pending := by
  simp [awaitNotice]

@[simp] theorem raiseEntry_frame (o : Occ) (s : State) :
    (raiseEntry o s).powered = s.powered ∧
    (raiseEntry o s).now = s.now ∧
    (raiseEntry o s).pins = s.pins ∧
    (raiseEntry o s).loader = s.loader ∧
    (raiseEntry o s).station = s.station ∧
    (raiseEntry o s).line = s.line ∧
    (raiseEntry o s).cmd = s.cmd ∧
    (raiseEntry o s).peers = s.peers ∧
    (raiseEntry o s).meas = s.meas ∧
    (raiseEntry o s).burst = s.burst ∧
    (raiseEntry o s).budget = s.budget ∧
    (raiseEntry o s).chans = s.chans ∧
    (raiseEntry o s).halt = s.halt ∧
    (raiseEntry o s).pending = s.pending := by
  simp [raiseEntry]

@[simp] theorem noticeRow_frame (o : Occ) (s : State) :
    (noticeRow o s).powered = s.powered ∧
    (noticeRow o s).now = s.now ∧
    (noticeRow o s).pins = s.pins ∧
    (noticeRow o s).loader = s.loader ∧
    (noticeRow o s).station = s.station ∧
    (noticeRow o s).cmd = s.cmd ∧
    (noticeRow o s).peers = s.peers ∧
    (noticeRow o s).meas = s.meas ∧
    (noticeRow o s).burst = s.burst ∧
    (noticeRow o s).budget = s.budget ∧
    (noticeRow o s).chans = s.chans ∧
    (noticeRow o s).halt = s.halt ∧
    (noticeRow o s).pending = s.pending := by
  unfold noticeRow
  dsimp only
  (repeat' split) <;> simp

@[simp] theorem settleNotice_frame (o : Occ) (s : State) :
    (settleNotice o s).powered = s.powered ∧
    (settleNotice o s).now = s.now ∧
    (settleNotice o s).pins = s.pins ∧
    (settleNotice o s).loader = s.loader ∧
    (settleNotice o s).station = s.station ∧
    (settleNotice o s).cmd = s.cmd ∧
    (settleNotice o s).peers = s.peers ∧
    (settleNotice o s).meas = s.meas ∧
    (settleNotice o s).burst = s.burst ∧
    (settleNotice o s).budget = s.budget ∧
    (settleNotice o s).chans = s.chans ∧
    (settleNotice o s).halt = s.halt ∧
    (settleNotice o s).pending = s.pending := by
  unfold settleNotice
  split <;> simp

@[simp] theorem recordOccurrence_frame (d : Detection) (cls : FaultClass) (trial : Bool) (due : Bool) (s : State) :
    (recordOccurrence d cls trial due s).powered = s.powered ∧
    (recordOccurrence d cls trial due s).now = s.now ∧
    (recordOccurrence d cls trial due s).pins = s.pins ∧
    (recordOccurrence d cls trial due s).loader = s.loader ∧
    (recordOccurrence d cls trial due s).station = s.station ∧
    (recordOccurrence d cls trial due s).cmd = s.cmd ∧
    (recordOccurrence d cls trial due s).peers = s.peers ∧
    (recordOccurrence d cls trial due s).meas = s.meas ∧
    (recordOccurrence d cls trial due s).burst = s.burst ∧
    (recordOccurrence d cls trial due s).budget = s.budget ∧
    (recordOccurrence d cls trial due s).chans = s.chans ∧
    (recordOccurrence d cls trial due s).halt = s.halt ∧
    (recordOccurrence d cls trial due s).pending = s.pending := by
  unfold recordOccurrence
  dsimp only
  (repeat' split) <;> simp

@[simp] theorem endTripConds_frame (c : Chan) (s : State) :
    (endTripConds c s).powered = s.powered ∧
    (endTripConds c s).now = s.now ∧
    (endTripConds c s).pins = s.pins ∧
    (endTripConds c s).loader = s.loader ∧
    (endTripConds c s).station = s.station ∧
    (endTripConds c s).line = s.line ∧
    (endTripConds c s).cmd = s.cmd ∧
    (endTripConds c s).peers = s.peers ∧
    (endTripConds c s).meas = s.meas ∧
    (endTripConds c s).burst = s.burst ∧
    (endTripConds c s).budget = s.budget ∧
    (endTripConds c s).chans = s.chans ∧
    (endTripConds c s).halt = s.halt ∧
    (endTripConds c s).pending = s.pending := by
  simp [endTripConds]

@[simp] theorem lockChan_frame (k : FaultKind) (c : Chan) (s : State) :
    (lockChan k c s).powered = s.powered ∧
    (lockChan k c s).now = s.now ∧
    (lockChan k c s).pins = s.pins ∧
    (lockChan k c s).loader = s.loader ∧
    (lockChan k c s).station = s.station ∧
    (lockChan k c s).line = s.line ∧
    (lockChan k c s).cmd = s.cmd ∧
    (lockChan k c s).peers = s.peers ∧
    (lockChan k c s).budget = s.budget ∧
    (lockChan k c s).halt = s.halt ∧
    (lockChan k c s).pending = s.pending := by
  unfold lockChan
  dsimp only
  (repeat' split) <;> simp

@[simp] theorem tripChan_frame (k : FaultKind) (reclose : Option Nat) (c : Chan) (s : State) :
    (tripChan k reclose c s).powered = s.powered ∧
    (tripChan k reclose c s).now = s.now ∧
    (tripChan k reclose c s).pins = s.pins ∧
    (tripChan k reclose c s).loader = s.loader ∧
    (tripChan k reclose c s).station = s.station ∧
    (tripChan k reclose c s).line = s.line ∧
    (tripChan k reclose c s).cmd = s.cmd ∧
    (tripChan k reclose c s).peers = s.peers ∧
    (tripChan k reclose c s).budget = s.budget ∧
    (tripChan k reclose c s).halt = s.halt ∧
    (tripChan k reclose c s).pending = s.pending := by
  simp [tripChan]

@[simp] theorem startWatch_frame (s : State) :
    (startWatch s).powered = s.powered ∧
    (startWatch s).now = s.now ∧
    (startWatch s).pins = s.pins ∧
    (startWatch s).loader = s.loader ∧
    (startWatch s).station = s.station ∧
    (startWatch s).line = s.line ∧
    (startWatch s).cmd = s.cmd ∧
    (startWatch s).peers = s.peers ∧
    (startWatch s).meas = s.meas ∧
    (startWatch s).burst = s.burst ∧
    (startWatch s).budget = s.budget ∧
    (startWatch s).chans = s.chans ∧
    (startWatch s).halt = s.halt ∧
    (startWatch s).pending = s.pending := by
  unfold startWatch
  dsimp only
  (repeat' split) <;> simp

@[simp] theorem lockAll_frame (k : FaultKind) (s : State) :
    (lockAll k s).powered = s.powered ∧
    (lockAll k s).now = s.now ∧
    (lockAll k s).pins = s.pins ∧
    (lockAll k s).loader = s.loader ∧
    (lockAll k s).station = s.station ∧
    (lockAll k s).line = s.line ∧
    (lockAll k s).cmd = s.cmd ∧
    (lockAll k s).peers = s.peers ∧
    (lockAll k s).budget = s.budget ∧
    (lockAll k s).halt = s.halt ∧
    (lockAll k s).pending = s.pending := by
  refine ⟨?_, ?_, ?_, ?_, ?_, ?_, ?_, ?_, ?_, ?_, ?_⟩ <;> exact State.each_keeps _ (fun c s => by simp) _ _

@[simp] theorem occurCounted_frame (d : Detection) (c : Chan) (s : State) :
    (occurCounted d c s).powered = s.powered ∧
    (occurCounted d c s).now = s.now ∧
    (occurCounted d c s).pins = s.pins ∧
    (occurCounted d c s).loader = s.loader ∧
    (occurCounted d c s).station = s.station ∧
    (occurCounted d c s).cmd = s.cmd ∧
    (occurCounted d c s).peers = s.peers ∧
    (occurCounted d c s).budget = s.budget ∧
    (occurCounted d c s).halt = s.halt ∧
    (occurCounted d c s).pending = s.pending := by
  unfold occurCounted
  dsimp only
  (repeat' split) <;> simp

@[simp] theorem occurOvertemp_frame (d : Detection) (c : Chan) (s : State) :
    (occurOvertemp d c s).powered = s.powered ∧
    (occurOvertemp d c s).now = s.now ∧
    (occurOvertemp d c s).pins = s.pins ∧
    (occurOvertemp d c s).loader = s.loader ∧
    (occurOvertemp d c s).station = s.station ∧
    (occurOvertemp d c s).cmd = s.cmd ∧
    (occurOvertemp d c s).peers = s.peers ∧
    (occurOvertemp d c s).budget = s.budget ∧
    (occurOvertemp d c s).halt = s.halt ∧
    (occurOvertemp d c s).pending = s.pending := by
  unfold occurOvertemp
  dsimp only
  (repeat' split) <;> simp

@[simp] theorem occurEarth_frame (d : Detection) (s : State) :
    (occurEarth d s).powered = s.powered ∧
    (occurEarth d s).now = s.now ∧
    (occurEarth d s).pins = s.pins ∧
    (occurEarth d s).loader = s.loader ∧
    (occurEarth d s).station = s.station ∧
    (occurEarth d s).cmd = s.cmd ∧
    (occurEarth d s).peers = s.peers ∧
    (occurEarth d s).budget = s.budget ∧
    (occurEarth d s).halt = s.halt ∧
    (occurEarth d s).pending = s.pending := by
  unfold occurEarth
  dsimp only
  (repeat' split) <;> simp

@[simp] theorem occurTestFail_frame (d : Detection) (s : State) :
    (occurTestFail d s).powered = s.powered ∧
    (occurTestFail d s).now = s.now ∧
    (occurTestFail d s).pins = s.pins ∧
    (occurTestFail d s).loader = s.loader ∧
    (occurTestFail d s).station = s.station ∧
    (occurTestFail d s).cmd = s.cmd ∧
    (occurTestFail d s).peers = s.peers ∧
    (occurTestFail d s).budget = s.budget ∧
    (occurTestFail d s).halt = s.halt ∧
    (occurTestFail d s).pending = s.pending := by
  unfold occurTestFail
  (repeat' split) <;> simp

@[simp] theorem occurNote_frame (d : Detection) (s : State) :
    (occurNote d s).powered = s.powered ∧
    (occurNote d s).now = s.now ∧
    (occurNote d s).pins = s.pins ∧
    (occurNote d s).loader = s.loader ∧
    (occurNote d s).station = s.station ∧
    (occurNote d s).cmd = s.cmd ∧
    (occurNote d s).peers = s.peers ∧
    (occurNote d s).meas = s.meas ∧
    (occurNote d s).burst = s.burst ∧
    (occurNote d s).budget = s.budget ∧
    (occurNote d s).chans = s.chans ∧
    (occurNote d s).halt = s.halt ∧
    (occurNote d s).pending = s.pending := by
  unfold occurNote
  (repeat' split) <;> simp

@[simp] theorem occurHalt_frame (d : Detection) (cause : HaltCause) (s : State) :
    (occurHalt d cause s).powered = s.powered ∧
    (occurHalt d cause s).now = s.now ∧
    (occurHalt d cause s).pins = s.pins ∧
    (occurHalt d cause s).loader = s.loader ∧
    (occurHalt d cause s).peers = s.peers ∧
    (occurHalt d cause s).budget = s.budget ∧
    (occurHalt d cause s).pending = s.pending := by
  unfold occurHalt
  dsimp only
  (repeat' split) <;> simp

@[simp] theorem occur_frame (d : Detection) (s : State) :
    (occur d s).powered = s.powered ∧
    (occur d s).now = s.now ∧
    (occur d s).pins = s.pins ∧
    (occur d s).loader = s.loader ∧
    (occur d s).peers = s.peers ∧
    (occur d s).budget = s.budget ∧
    (occur d s).pending = s.pending := by
  unfold occur
  (repeat' split) <;> simp

@[simp] theorem occurAll_frame (ds : List Detection) (s : State) :
    (occurAll ds s).powered = s.powered ∧
    (occurAll ds s).now = s.now ∧
    (occurAll ds s).pins = s.pins ∧
    (occurAll ds s).loader = s.loader ∧
    (occurAll ds s).peers = s.peers ∧
    (occurAll ds s).budget = s.budget ∧
    (occurAll ds s).pending = s.pending := by
  induction ds generalizing s with
  | nil => simp [occurAll]
  | cons d ds ih => simpa [occurAll] using ih (occur d s)

@[simp] theorem endTrip_frame (trial : Bool) (c : Chan) (s : State) :
    (endTrip trial c s).powered = s.powered ∧
    (endTrip trial c s).now = s.now ∧
    (endTrip trial c s).pins = s.pins ∧
    (endTrip trial c s).loader = s.loader ∧
    (endTrip trial c s).station = s.station ∧
    (endTrip trial c s).line = s.line ∧
    (endTrip trial c s).cmd = s.cmd ∧
    (endTrip trial c s).peers = s.peers ∧
    (endTrip trial c s).meas = s.meas ∧
    (endTrip trial c s).burst = s.burst ∧
    (endTrip trial c s).budget = s.budget ∧
    (endTrip trial c s).halt = s.halt ∧
    (endTrip trial c s).pending = s.pending := by
  simp [endTrip]

@[simp] theorem unlockChan_frame (c : Chan) (s : State) :
    (unlockChan c s).powered = s.powered ∧
    (unlockChan c s).now = s.now ∧
    (unlockChan c s).pins = s.pins ∧
    (unlockChan c s).loader = s.loader ∧
    (unlockChan c s).station = s.station ∧
    (unlockChan c s).line = s.line ∧
    (unlockChan c s).cmd = s.cmd ∧
    (unlockChan c s).peers = s.peers ∧
    (unlockChan c s).meas = s.meas ∧
    (unlockChan c s).burst = s.burst ∧
    (unlockChan c s).budget = s.budget ∧
    (unlockChan c s).halt = s.halt ∧
    (unlockChan c s).pending = s.pending := by
  simp [unlockChan]

@[simp] theorem endEarthLock_frame (s : State) :
    (endEarthLock s).powered = s.powered ∧
    (endEarthLock s).now = s.now ∧
    (endEarthLock s).pins = s.pins ∧
    (endEarthLock s).loader = s.loader ∧
    (endEarthLock s).station = s.station ∧
    (endEarthLock s).line = s.line ∧
    (endEarthLock s).cmd = s.cmd ∧
    (endEarthLock s).peers = s.peers ∧
    (endEarthLock s).meas = s.meas ∧
    (endEarthLock s).budget = s.budget ∧
    (endEarthLock s).chans = s.chans ∧
    (endEarthLock s).halt = s.halt ∧
    (endEarthLock s).pending = s.pending := by
  simp [endEarthLock]

/-! ## The control step -/

@[simp] theorem setFiring_frame (s : State) :
    (setFiring s).powered = s.powered ∧
    (setFiring s).now = s.now ∧
    (setFiring s).pins = s.pins ∧
    (setFiring s).loader = s.loader ∧
    (setFiring s).station = s.station ∧
    (setFiring s).line = s.line ∧
    (setFiring s).cmd = s.cmd ∧
    (setFiring s).peers = s.peers ∧
    (setFiring s).meas = s.meas ∧
    (setFiring s).budget = s.budget ∧
    (setFiring s).chans = s.chans ∧
    (setFiring s).fault = s.fault ∧
    (setFiring s).halt = s.halt ∧
    (setFiring s).pending = s.pending := by
  simp [setFiring]

@[simp] theorem firingStep_frame (s : State) :
    (firingStep s).powered = s.powered ∧
    (firingStep s).now = s.now ∧
    (firingStep s).pins = s.pins ∧
    (firingStep s).loader = s.loader ∧
    (firingStep s).station = s.station ∧
    (firingStep s).line = s.line ∧
    (firingStep s).cmd = s.cmd ∧
    (firingStep s).peers = s.peers ∧
    (firingStep s).meas = s.meas ∧
    (firingStep s).fault = s.fault ∧
    (firingStep s).halt = s.halt ∧
    (firingStep s).pending = s.pending := by
  simp [firingStep]

@[simp] theorem idleStep_frame (s : State) :
    (idleStep s).powered = s.powered ∧
    (idleStep s).now = s.now ∧
    (idleStep s).pins = s.pins ∧
    (idleStep s).loader = s.loader ∧
    (idleStep s).station = s.station ∧
    (idleStep s).line = s.line ∧
    (idleStep s).cmd = s.cmd ∧
    (idleStep s).peers = s.peers ∧
    (idleStep s).meas = s.meas ∧
    (idleStep s).fault = s.fault ∧
    (idleStep s).halt = s.halt ∧
    (idleStep s).pending = s.pending := by
  simp [idleStep]

@[simp] theorem controlStep_frame (s : State) :
    (controlStep s).powered = s.powered ∧
    (controlStep s).now = s.now ∧
    (controlStep s).pins = s.pins ∧
    (controlStep s).loader = s.loader ∧
    (controlStep s).station = s.station ∧
    (controlStep s).line = s.line ∧
    (controlStep s).cmd = s.cmd ∧
    (controlStep s).meas = s.meas ∧
    (controlStep s).fault = s.fault ∧
    (controlStep s).halt = s.halt ∧
    (controlStep s).pending = s.pending := by
  unfold controlStep
  dsimp only
  (repeat' split) <;> simp

/-! ## The measurement sequencer -/

@[simp] theorem startNext_frame (s : State) :
    (startNext s).powered = s.powered ∧
    (startNext s).now = s.now ∧
    (startNext s).pins = s.pins ∧
    (startNext s).loader = s.loader ∧
    (startNext s).station = s.station ∧
    (startNext s).line = s.line ∧
    (startNext s).cmd = s.cmd ∧
    (startNext s).peers = s.peers ∧
    (startNext s).burst = s.burst ∧
    (startNext s).budget = s.budget ∧
    (startNext s).chans = s.chans ∧
    (startNext s).fault = s.fault ∧
    (startNext s).halt = s.halt ∧
    (startNext s).pending = s.pending := by
  unfold startNext State.convert
  (repeat' split) <;> simp

@[simp] theorem putBack_frame (cv : Conversion) (s : State) :
    (putBack cv s).powered = s.powered ∧
    (putBack cv s).now = s.now ∧
    (putBack cv s).pins = s.pins ∧
    (putBack cv s).loader = s.loader ∧
    (putBack cv s).station = s.station ∧
    (putBack cv s).line = s.line ∧
    (putBack cv s).cmd = s.cmd ∧
    (putBack cv s).peers = s.peers ∧
    (putBack cv s).burst = s.burst ∧
    (putBack cv s).budget = s.budget ∧
    (putBack cv s).chans = s.chans ∧
    (putBack cv s).fault = s.fault ∧
    (putBack cv s).halt = s.halt ∧
    (putBack cv s).pending = s.pending := by
  unfold putBack
  (repeat' split) <;> simp

@[simp] theorem startRequested_frame (s : State) :
    (startRequested s).powered = s.powered ∧
    (startRequested s).now = s.now ∧
    (startRequested s).pins = s.pins ∧
    (startRequested s).loader = s.loader ∧
    (startRequested s).station = s.station ∧
    (startRequested s).line = s.line ∧
    (startRequested s).cmd = s.cmd ∧
    (startRequested s).peers = s.peers ∧
    (startRequested s).burst = s.burst ∧
    (startRequested s).budget = s.budget ∧
    (startRequested s).chans = s.chans ∧
    (startRequested s).fault = s.fault ∧
    (startRequested s).halt = s.halt ∧
    (startRequested s).pending = s.pending := by
  unfold startRequested
  (repeat' split) <;> simp

@[simp] theorem beginRound_frame (s : State) :
    (beginRound s).powered = s.powered ∧
    (beginRound s).now = s.now ∧
    (beginRound s).pins = s.pins ∧
    (beginRound s).loader = s.loader ∧
    (beginRound s).station = s.station ∧
    (beginRound s).line = s.line ∧
    (beginRound s).cmd = s.cmd ∧
    (beginRound s).peers = s.peers ∧
    (beginRound s).burst = s.burst ∧
    (beginRound s).budget = s.budget ∧
    (beginRound s).chans = s.chans ∧
    (beginRound s).fault = s.fault ∧
    (beginRound s).halt = s.halt ∧
    (beginRound s).pending = s.pending := by
  unfold beginRound
  dsimp only
  (repeat' split) <;> simp

@[simp] theorem wallFaults_frame (c : Chan) (old new : SensorState) (raised : Option SensorCond) (s : State) :
    (wallFaults c old new raised s).powered = s.powered ∧
    (wallFaults c old new raised s).now = s.now ∧
    (wallFaults c old new raised s).pins = s.pins ∧
    (wallFaults c old new raised s).loader = s.loader ∧
    (wallFaults c old new raised s).peers = s.peers ∧
    (wallFaults c old new raised s).budget = s.budget ∧
    (wallFaults c old new raised s).pending = s.pending := by
  unfold wallFaults
  (repeat' split) <;> simp

@[simp] theorem ambientFaults_frame (old new : SensorState) (raised : Option SensorCond) (s : State) :
    (ambientFaults old new raised s).powered = s.powered ∧
    (ambientFaults old new raised s).now = s.now ∧
    (ambientFaults old new raised s).pins = s.pins ∧
    (ambientFaults old new raised s).loader = s.loader ∧
    (ambientFaults old new raised s).peers = s.peers ∧
    (ambientFaults old new raised s).budget = s.budget ∧
    (ambientFaults old new raised s).pending = s.pending := by
  unfold ambientFaults
  (repeat' split) <;> simp

@[simp] theorem takeWall_frame (c : Chan) (s : State) :
    (takeWall c s).powered = s.powered ∧
    (takeWall c s).now = s.now ∧
    (takeWall c s).pins = s.pins ∧
    (takeWall c s).loader = s.loader ∧
    (takeWall c s).peers = s.peers ∧
    (takeWall c s).budget = s.budget ∧
    (takeWall c s).pending = s.pending := by
  simp [takeWall]

@[simp] theorem takeAmbient_frame (raw : Nat) (s : State) :
    (takeAmbient raw s).powered = s.powered ∧
    (takeAmbient raw s).now = s.now ∧
    (takeAmbient raw s).pins = s.pins ∧
    (takeAmbient raw s).loader = s.loader ∧
    (takeAmbient raw s).peers = s.peers ∧
    (takeAmbient raw s).budget = s.budget ∧
    (takeAmbient raw s).pending = s.pending := by
  simp [takeAmbient]

@[simp] theorem each_takeWall_frame (cs : List Chan) (s : State) :
    (s.each cs takeWall).powered = s.powered ∧
    (s.each cs takeWall).now = s.now ∧
    (s.each cs takeWall).pins = s.pins ∧
    (s.each cs takeWall).loader = s.loader ∧
    (s.each cs takeWall).peers = s.peers ∧
    (s.each cs takeWall).budget = s.budget ∧
    (s.each cs takeWall).pending = s.pending := by
  refine ⟨?_, ?_, ?_, ?_, ?_, ?_, ?_⟩ <;> exact State.each_keeps _ (fun c s => by simp) _ _

@[simp] theorem goodRound_frame (raw : Nat) (s : State) :
    (goodRound raw s).powered = s.powered ∧
    (goodRound raw s).now = s.now ∧
    (goodRound raw s).pins = s.pins ∧
    (goodRound raw s).loader = s.loader ∧
    (goodRound raw s).peers = s.peers ∧
    (goodRound raw s).budget = s.budget ∧
    (goodRound raw s).pending = s.pending := by
  simp [goodRound]

@[simp] theorem badRound_frame (s : State) :
    (badRound s).powered = s.powered ∧
    (badRound s).now = s.now ∧
    (badRound s).pins = s.pins ∧
    (badRound s).loader = s.loader ∧
    (badRound s).peers = s.peers ∧
    (badRound s).budget = s.budget ∧
    (badRound s).pending = s.pending := by
  simp [badRound]

@[simp] theorem alarmCheck_frame (c : Chan) (s : State) :
    (alarmCheck c s).powered = s.powered ∧
    (alarmCheck c s).now = s.now ∧
    (alarmCheck c s).pins = s.pins ∧
    (alarmCheck c s).loader = s.loader ∧
    (alarmCheck c s).peers = s.peers ∧
    (alarmCheck c s).budget = s.budget ∧
    (alarmCheck c s).pending = s.pending := by
  unfold alarmCheck
  dsimp only
  (repeat' split) <;> simp

@[simp] theorem overtempCheck_frame (c : Chan) (s : State) :
    (overtempCheck c s).powered = s.powered ∧
    (overtempCheck c s).now = s.now ∧
    (overtempCheck c s).pins = s.pins ∧
    (overtempCheck c s).loader = s.loader ∧
    (overtempCheck c s).peers = s.peers ∧
    (overtempCheck c s).budget = s.budget ∧
    (overtempCheck c s).pending = s.pending := by
  unfold overtempCheck
  dsimp only
  (repeat' split) <;> simp

@[simp] theorem each_alarmCheck_frame (cs : List Chan) (s : State) :
    (s.each cs alarmCheck).powered = s.powered ∧
    (s.each cs alarmCheck).now = s.now ∧
    (s.each cs alarmCheck).pins = s.pins ∧
    (s.each cs alarmCheck).loader = s.loader ∧
    (s.each cs alarmCheck).peers = s.peers ∧
    (s.each cs alarmCheck).budget = s.budget ∧
    (s.each cs alarmCheck).pending = s.pending := by
  refine ⟨?_, ?_, ?_, ?_, ?_, ?_, ?_⟩ <;> exact State.each_keeps _ (fun c s => by simp) _ _

@[simp] theorem each_overtempCheck_frame (cs : List Chan) (s : State) :
    (s.each cs overtempCheck).powered = s.powered ∧
    (s.each cs overtempCheck).now = s.now ∧
    (s.each cs overtempCheck).pins = s.pins ∧
    (s.each cs overtempCheck).loader = s.loader ∧
    (s.each cs overtempCheck).peers = s.peers ∧
    (s.each cs overtempCheck).budget = s.budget ∧
    (s.each cs overtempCheck).pending = s.pending := by
  refine ⟨?_, ?_, ?_, ?_, ?_, ?_, ?_⟩ <;> exact State.each_keeps _ (fun c s => by simp) _ _

@[simp] theorem finishMeasure_frame (s : State) :
    (finishMeasure s).powered = s.powered ∧
    (finishMeasure s).now = s.now ∧
    (finishMeasure s).pins = s.pins ∧
    (finishMeasure s).loader = s.loader ∧
    (finishMeasure s).station = s.station ∧
    (finishMeasure s).peers = s.peers ∧
    (finishMeasure s).burst = s.burst ∧
    (finishMeasure s).budget = s.budget ∧
    (finishMeasure s).chans = s.chans ∧
    (finishMeasure s).fault = s.fault ∧
    (finishMeasure s).halt = s.halt ∧
    (finishMeasure s).pending = s.pending := by
  unfold finishMeasure
  dsimp only
  (repeat' split) <;> simp

@[simp] theorem finishRound_frame (raw : Nat) (s : State) :
    (finishRound raw s).powered = s.powered ∧
    (finishRound raw s).now = s.now ∧
    (finishRound raw s).pins = s.pins ∧
    (finishRound raw s).loader = s.loader ∧
    (finishRound raw s).peers = s.peers ∧
    (finishRound raw s).budget = s.budget ∧
    (finishRound raw s).pending = s.pending := by
  unfold finishRound
  dsimp only
  (repeat' split) <;> simp

@[simp] theorem storeReading_frame (r : Reading) (raw : Nat) (s : State) :
    (storeReading r raw s).powered = s.powered ∧
    (storeReading r raw s).now = s.now ∧
    (storeReading r raw s).pins = s.pins ∧
    (storeReading r raw s).loader = s.loader ∧
    (storeReading r raw s).peers = s.peers ∧
    (storeReading r raw s).budget = s.budget ∧
    (storeReading r raw s).pending = s.pending := by
  unfold storeReading
  dsimp only
  (repeat' split) <;> simp

@[simp] theorem countSample_frame (c : Chan) (k : CurrentKind) (raw : Nat) (s : State) :
    (countSample c k raw s).powered = s.powered ∧
    (countSample c k raw s).now = s.now ∧
    (countSample c k raw s).pins = s.pins ∧
    (countSample c k raw s).loader = s.loader ∧
    (countSample c k raw s).peers = s.peers ∧
    (countSample c k raw s).budget = s.budget ∧
    (countSample c k raw s).pending = s.pending := by
  unfold countSample
  dsimp only
  (repeat' split) <;> simp

@[simp] theorem endConversion_frame (cv : Conversion) (raw : Nat) (s : State) :
    (endConversion cv raw s).powered = s.powered ∧
    (endConversion cv raw s).now = s.now ∧
    (endConversion cv raw s).pins = s.pins ∧
    (endConversion cv raw s).loader = s.loader ∧
    (endConversion cv raw s).peers = s.peers ∧
    (endConversion cv raw s).budget = s.budget ∧
    (endConversion cv raw s).pending = s.pending := by
  unfold endConversion State.convertKept
  dsimp only
  (repeat' split) <;> simp

@[simp] theorem readForHalt_frame (s : State) :
    (readForHalt s).powered = s.powered ∧
    (readForHalt s).now = s.now ∧
    (readForHalt s).pins = s.pins ∧
    (readForHalt s).loader = s.loader ∧
    (readForHalt s).station = s.station ∧
    (readForHalt s).line = s.line ∧
    (readForHalt s).cmd = s.cmd ∧
    (readForHalt s).peers = s.peers ∧
    (readForHalt s).meas = s.meas ∧
    (readForHalt s).burst = s.burst ∧
    (readForHalt s).budget = s.budget ∧
    (readForHalt s).chans = s.chans ∧
    (readForHalt s).fault = s.fault ∧
    (readForHalt s).pending = s.pending := by
  unfold readForHalt
  dsimp only
  (repeat' split) <;> simp

@[simp] theorem askChecks_frame (s : State) :
    (askChecks s).powered = s.powered ∧
    (askChecks s).now = s.now ∧
    (askChecks s).pins = s.pins ∧
    (askChecks s).loader = s.loader ∧
    (askChecks s).station = s.station ∧
    (askChecks s).line = s.line ∧
    (askChecks s).cmd = s.cmd ∧
    (askChecks s).peers = s.peers ∧
    (askChecks s).burst = s.burst ∧
    (askChecks s).budget = s.budget ∧
    (askChecks s).chans = s.chans ∧
    (askChecks s).fault = s.fault ∧
    (askChecks s).pending = s.pending := by
  unfold askChecks
  split
  · dsimp only
    refine ⟨?_, ?_, ?_, ?_, ?_, ?_, ?_, ?_, ?_, ?_, ?_, ?_, ?_⟩ <;>
      exact (State.each_keeps _ (fun c s => by split <;> simp) _ _).trans (by simp)
  · simp

@[simp] theorem midRequests_frame (s : State) :
    (midRequests s).powered = s.powered ∧
    (midRequests s).now = s.now ∧
    (midRequests s).pins = s.pins ∧
    (midRequests s).loader = s.loader ∧
    (midRequests s).station = s.station ∧
    (midRequests s).line = s.line ∧
    (midRequests s).cmd = s.cmd ∧
    (midRequests s).peers = s.peers ∧
    (midRequests s).burst = s.burst ∧
    (midRequests s).budget = s.budget ∧
    (midRequests s).chans = s.chans ∧
    (midRequests s).fault = s.fault ∧
    (midRequests s).pending = s.pending := by
  unfold midRequests
  dsimp only
  refine ⟨?_, ?_, ?_, ?_, ?_, ?_, ?_, ?_, ?_, ?_, ?_, ?_, ?_⟩ <;>
    · simp only [startRequested_frame, askChecks_frame]
      exact State.each_keeps _ (fun c s => by simp) _ _

@[simp] theorem askCrystal_frame (c : Chan) (s : State) :
    (askCrystal c s).powered = s.powered ∧
    (askCrystal c s).now = s.now ∧
    (askCrystal c s).pins = s.pins ∧
    (askCrystal c s).loader = s.loader ∧
    (askCrystal c s).station = s.station ∧
    (askCrystal c s).line = s.line ∧
    (askCrystal c s).cmd = s.cmd ∧
    (askCrystal c s).peers = s.peers ∧
    (askCrystal c s).burst = s.burst ∧
    (askCrystal c s).budget = s.budget ∧
    (askCrystal c s).chans = s.chans ∧
    (askCrystal c s).fault = s.fault ∧
    (askCrystal c s).pending = s.pending := by
  simp [askCrystal]

@[simp] theorem askAllCrystal_frame (s : State) :
    (askAllCrystal s).powered = s.powered ∧
    (askAllCrystal s).now = s.now ∧
    (askAllCrystal s).pins = s.pins ∧
    (askAllCrystal s).loader = s.loader ∧
    (askAllCrystal s).station = s.station ∧
    (askAllCrystal s).line = s.line ∧
    (askAllCrystal s).cmd = s.cmd ∧
    (askAllCrystal s).peers = s.peers ∧
    (askAllCrystal s).burst = s.burst ∧
    (askAllCrystal s).budget = s.budget ∧
    (askAllCrystal s).chans = s.chans ∧
    (askAllCrystal s).fault = s.fault ∧
    (askAllCrystal s).pending = s.pending := by
  unfold askAllCrystal
  dsimp only
  refine ⟨?_, ?_, ?_, ?_, ?_, ?_, ?_, ?_, ?_, ?_, ?_, ?_, ?_⟩ <;>
    · simp only [startRequested_frame]
      exact (State.each_keeps _ (fun c s => by split <;> simp) _ _).trans (by simp)

@[simp] theorem endHalfCycle_frame (s : State) :
    (endHalfCycle s).powered = s.powered ∧
    (endHalfCycle s).now = s.now ∧
    (endHalfCycle s).pins = s.pins ∧
    (endHalfCycle s).loader = s.loader ∧
    (endHalfCycle s).station = s.station ∧
    (endHalfCycle s).line = s.line ∧
    (endHalfCycle s).cmd = s.cmd ∧
    (endHalfCycle s).peers = s.peers ∧
    (endHalfCycle s).burst = s.burst ∧
    (endHalfCycle s).budget = s.budget ∧
    (endHalfCycle s).chans = s.chans ∧
    (endHalfCycle s).fault = s.fault ∧
    (endHalfCycle s).pending = s.pending := by
  simp [endHalfCycle]

@[simp] theorem leakSample_frame (s : State) :
    (leakSample s).powered = s.powered ∧
    (leakSample s).now = s.now ∧
    (leakSample s).pins = s.pins ∧
    (leakSample s).loader = s.loader ∧
    (leakSample s).peers = s.peers ∧
    (leakSample s).budget = s.budget ∧
    (leakSample s).pending = s.pending := by
  unfold leakSample
  dsimp only
  (repeat' split) <;> simp

@[simp] theorem passLeakTest_frame (s : State) :
    (passLeakTest s).powered = s.powered ∧
    (passLeakTest s).now = s.now ∧
    (passLeakTest s).pins = s.pins ∧
    (passLeakTest s).loader = s.loader ∧
    (passLeakTest s).station = s.station ∧
    (passLeakTest s).peers = s.peers ∧
    (passLeakTest s).burst = s.burst ∧
    (passLeakTest s).budget = s.budget ∧
    (passLeakTest s).chans = s.chans ∧
    (passLeakTest s).halt = s.halt ∧
    (passLeakTest s).pending = s.pending := by
  simp [passLeakTest]

@[simp] theorem failLeakTest_frame (s : State) :
    (failLeakTest s).powered = s.powered ∧
    (failLeakTest s).now = s.now ∧
    (failLeakTest s).pins = s.pins ∧
    (failLeakTest s).loader = s.loader ∧
    (failLeakTest s).peers = s.peers ∧
    (failLeakTest s).budget = s.budget ∧
    (failLeakTest s).pending = s.pending := by
  simp [failLeakTest]

@[simp] theorem sampleLeakage_frame (s : State) :
    (sampleLeakage s).powered = s.powered ∧
    (sampleLeakage s).now = s.now ∧
    (sampleLeakage s).pins = s.pins ∧
    (sampleLeakage s).loader = s.loader ∧
    (sampleLeakage s).peers = s.peers ∧
    (sampleLeakage s).budget = s.budget ∧
    (sampleLeakage s).pending = s.pending := by
  unfold sampleLeakage
  (repeat' split) <;> simp

@[simp] theorem leakTestEdge_frame (s : State) :
    (leakTestEdge s).powered = s.powered ∧
    (leakTestEdge s).now = s.now ∧
    (leakTestEdge s).pins = s.pins ∧
    (leakTestEdge s).loader = s.loader ∧
    (leakTestEdge s).peers = s.peers ∧
    (leakTestEdge s).budget = s.budget ∧
    (leakTestEdge s).pending = s.pending := by
  unfold leakTestEdge
  (repeat' split) <;> simp

@[simp] theorem startLeakTest_frame (s : State) :
    (startLeakTest s).powered = s.powered ∧
    (startLeakTest s).now = s.now ∧
    (startLeakTest s).pins = s.pins ∧
    (startLeakTest s).loader = s.loader ∧
    (startLeakTest s).station = s.station ∧
    (startLeakTest s).line = s.line ∧
    (startLeakTest s).cmd = s.cmd ∧
    (startLeakTest s).peers = s.peers ∧
    (startLeakTest s).burst = s.burst ∧
    (startLeakTest s).budget = s.budget ∧
    (startLeakTest s).chans = s.chans ∧
    (startLeakTest s).halt = s.halt ∧
    (startLeakTest s).pending = s.pending := by
  simp [startLeakTest]

@[simp] theorem closePeriod_frame (s : State) :
    (closePeriod s).powered = s.powered ∧
    (closePeriod s).now = s.now ∧
    (closePeriod s).pins = s.pins ∧
    (closePeriod s).loader = s.loader ∧
    (closePeriod s).peers = s.peers ∧
    (closePeriod s).budget = s.budget ∧
    (closePeriod s).pending = s.pending := by
  simp [closePeriod]

end Sys2Proof.Machine
end

