-- ==== Sys2Proof/Laws/RequestFrames.lean ====
section
/-! SUPPORT. What the command unit's operations leave unchanged. -/

namespace Sys2Proof.Machine

/-- An answer offered: carried out with no answer (none due, or mute), answered and carried out, or neither with the queue full. -/
theorem reply_cases (f : RxFrame) (st : Status) (result : List Byte) (act : State → State) (s : State) :
    ((answerDue s.loader.image f = false ∨ s.station.mute = true) ∧ reply f st result act s = act s) ∨
    (answerDue s.loader.image f = true ∧ s.station.mute = false ∧ s.line.queue.length < 4 ∧
      reply f st result act s = act { s with line := s.line.append (.answer (answerTo f st result)) }) ∨
    (answerDue s.loader.image f = true ∧ s.station.mute = false ∧ 4 ≤ s.line.queue.length ∧
      reply f st result act s = { s with line := s.line.setOverrun }) := by
  unfold reply Line.hasRoom
  cases h1 : answerDue s.loader.image f <;> cases h2 : s.station.mute <;> simp
  rcases Nat.lt_or_ge s.line.queue.length 4 with h | h
  · exact .inl ⟨h, fun g => absurd h (by omega)⟩
  · exact .inr ⟨h, fun g => absurd h (by omega)⟩

/-- What an answer's append and the carrying out keep, a reply keeps. -/
theorem reply_keeps {β : Type} (g : State → β) {f : RxFrame} {st : Status} {result : List Byte} {act : State → State}
    (hline : ∀ s l, g { s with line := l } = g s) (hact : ∀ s, g (act s) = g s) (s : State) :
    g (reply f st result act s) = g s := by
  rcases reply_cases f st result act s with ⟨-, h⟩ | ⟨-, -, -, h⟩ | ⟨-, -, -, h⟩ <;> simp [h, hact, hline]

/-- A property that an answer's append and the carrying out keep holds after a reply. -/
theorem reply_inv (P : State → Prop) {f : RxFrame} {st : Status} {result : List Byte} {act : State → State} {s : State}
    (happend : s.line.queue.length < 4 → s.station.mute = false → P { s with line := s.line.append (.answer (answerTo f st result)) })
    (hfull : P { s with line := s.line.setOverrun }) (hact : ∀ s, P s → P (act s)) (hs : P s) :
    P (reply f st result act s) := by
  rcases reply_cases f st result act s with ⟨-, h⟩ | ⟨-, hm, hl, h⟩ | ⟨-, -, -, h⟩ <;> rw [h]
  · exact hact _ hs
  · exact hact _ (happend hl hm)
  · exact hfull

/-! ## The entry to LISTENING -/

@[simp] theorem startTimers_frame (s : State) :
    (startTimers s).powered = s.powered ∧
    (startTimers s).now = s.now ∧
    (startTimers s).pins = s.pins ∧
    (startTimers s).loader = s.loader ∧
    (startTimers s).cmd = s.cmd ∧
    (startTimers s).budget = s.budget ∧
    (startTimers s).chans = s.chans ∧
    (startTimers s).fault = s.fault ∧
    (startTimers s).halt = s.halt ∧
    (startTimers s).pending = s.pending := by
  simp [startTimers]

@[simp] theorem enterListening_frame (s : State) :
    (enterListening s).powered = s.powered ∧
    (enterListening s).now = s.now ∧
    (enterListening s).pins = s.pins ∧
    (enterListening s).loader = s.loader ∧
    (enterListening s).cmd = s.cmd ∧
    (enterListening s).budget = s.budget ∧
    (enterListening s).chans = s.chans ∧
    (enterListening s).fault = s.fault ∧
    (enterListening s).halt = s.halt ∧
    (enterListening s).pending = s.pending := by
  simp [enterListening]

@[simp] theorem takeImage_frame (img : Image) (clamped : Bool) (crc : Word16) (s : State) :
    (takeImage img clamped crc s).powered = s.powered ∧
    (takeImage img clamped crc s).now = s.now ∧
    (takeImage img clamped crc s).pins = s.pins ∧
    (takeImage img clamped crc s).station = s.station ∧
    (takeImage img clamped crc s).line = s.line ∧
    (takeImage img clamped crc s).cmd = s.cmd ∧
    (takeImage img clamped crc s).budget = s.budget ∧
    (takeImage img clamped crc s).fault = s.fault ∧
    (takeImage img clamped crc s).halt = s.halt ∧
    (takeImage img clamped crc s).pending = s.pending := by
  simp [takeImage]

@[simp] theorem failLoad_frame (s : State) :
    (failLoad s).powered = s.powered ∧
    (failLoad s).now = s.now ∧
    (failLoad s).pins = s.pins ∧
    (failLoad s).station = s.station ∧
    (failLoad s).line = s.line ∧
    (failLoad s).cmd = s.cmd ∧
    (failLoad s).peers = s.peers ∧
    (failLoad s).meas = s.meas ∧
    (failLoad s).burst = s.burst ∧
    (failLoad s).budget = s.budget ∧
    (failLoad s).chans = s.chans ∧
    (failLoad s).fault = s.fault ∧
    (failLoad s).halt = s.halt ∧
    (failLoad s).pending = s.pending := by
  simp [failLoad]

/-! ## Answers -/

@[simp] theorem answerOnly_frame (f : RxFrame) (st : Status) (result : List Byte) (s : State) :
    (answerOnly f st result s).powered = s.powered ∧
    (answerOnly f st result s).now = s.now ∧
    (answerOnly f st result s).pins = s.pins ∧
    (answerOnly f st result s).loader = s.loader ∧
    (answerOnly f st result s).station = s.station ∧
    (answerOnly f st result s).cmd = s.cmd ∧
    (answerOnly f st result s).peers = s.peers ∧
    (answerOnly f st result s).meas = s.meas ∧
    (answerOnly f st result s).burst = s.burst ∧
    (answerOnly f st result s).budget = s.budget ∧
    (answerOnly f st result s).chans = s.chans ∧
    (answerOnly f st result s).fault = s.fault ∧
    (answerOnly f st result s).halt = s.halt ∧
    (answerOnly f st result s).pending = s.pending := by
  refine ⟨?_, ?_, ?_, ?_, ?_, ?_, ?_, ?_, ?_, ?_, ?_, ?_, ?_, ?_⟩ <;> exact reply_keeps _ (fun _ _ => rfl) (fun _ => rfl) _

@[simp] theorem refuse_frame (f : RxFrame) (st : Status) (s : State) :
    (refuse f st s).powered = s.powered ∧
    (refuse f st s).now = s.now ∧
    (refuse f st s).pins = s.pins ∧
    (refuse f st s).loader = s.loader ∧
    (refuse f st s).station = s.station ∧
    (refuse f st s).cmd = s.cmd ∧
    (refuse f st s).peers = s.peers ∧
    (refuse f st s).meas = s.meas ∧
    (refuse f st s).burst = s.burst ∧
    (refuse f st s).budget = s.budget ∧
    (refuse f st s).chans = s.chans ∧
    (refuse f st s).fault = s.fault ∧
    (refuse f st s).halt = s.halt ∧
    (refuse f st s).pending = s.pending := by
  simp [refuse]

/-! ## Requests -/

@[simp] theorem putSetpoint_frame (t : Int) (c : Chan) (s : State) :
    (putSetpoint t c s).powered = s.powered ∧
    (putSetpoint t c s).now = s.now ∧
    (putSetpoint t c s).pins = s.pins ∧
    (putSetpoint t c s).loader = s.loader ∧
    (putSetpoint t c s).station = s.station ∧
    (putSetpoint t c s).line = s.line ∧
    (putSetpoint t c s).cmd = s.cmd ∧
    (putSetpoint t c s).peers = s.peers ∧
    (putSetpoint t c s).meas = s.meas ∧
    (putSetpoint t c s).burst = s.burst ∧
    (putSetpoint t c s).budget = s.budget ∧
    (putSetpoint t c s).fault = s.fault ∧
    (putSetpoint t c s).halt = s.halt ∧
    (putSetpoint t c s).pending = s.pending := by
  simp [putSetpoint]

@[simp] theorem takeSetPoint_frame (f : RxFrame) (s : State) :
    (takeSetPoint f s).powered = s.powered ∧
    (takeSetPoint f s).now = s.now ∧
    (takeSetPoint f s).pins = s.pins ∧
    (takeSetPoint f s).loader = s.loader ∧
    (takeSetPoint f s).station = s.station ∧
    (takeSetPoint f s).cmd = s.cmd ∧
    (takeSetPoint f s).peers = s.peers ∧
    (takeSetPoint f s).meas = s.meas ∧
    (takeSetPoint f s).burst = s.burst ∧
    (takeSetPoint f s).budget = s.budget ∧
    (takeSetPoint f s).fault = s.fault ∧
    (takeSetPoint f s).halt = s.halt ∧
    (takeSetPoint f s).pending = s.pending := by
  unfold takeSetPoint
  try dsimp only
  refine ⟨?_, ?_, ?_, ?_, ?_, ?_, ?_, ?_, ?_, ?_, ?_, ?_, ?_⟩ <;> (repeat' split) <;>
    first
    | (exact reply_keeps _ (fun _ _ => rfl) (fun _ => State.each_keeps _ (fun c s => by simp) _ _) _)
    | simp

@[simp] theorem takeHold_frame (f : RxFrame) (s : State) :
    (takeHold f s).powered = s.powered ∧
    (takeHold f s).now = s.now ∧
    (takeHold f s).pins = s.pins ∧
    (takeHold f s).loader = s.loader ∧
    (takeHold f s).station = s.station ∧
    (takeHold f s).cmd = s.cmd ∧
    (takeHold f s).peers = s.peers ∧
    (takeHold f s).budget = s.budget ∧
    (takeHold f s).fault = s.fault ∧
    (takeHold f s).halt = s.halt ∧
    (takeHold f s).pending = s.pending := by
  unfold takeHold
  try dsimp only
  refine ⟨?_, ?_, ?_, ?_, ?_, ?_, ?_, ?_, ?_, ?_, ?_⟩ <;> (repeat' split) <;>
    first
    | (exact reply_keeps _ (fun _ _ => rfl) (fun _ => State.each_keeps _ (fun c s => by simp) _ _) _)
    | simp

@[simp] theorem takeRelease_frame (f : RxFrame) (s : State) :
    (takeRelease f s).powered = s.powered ∧
    (takeRelease f s).now = s.now ∧
    (takeRelease f s).pins = s.pins ∧
    (takeRelease f s).loader = s.loader ∧
    (takeRelease f s).station = s.station ∧
    (takeRelease f s).cmd = s.cmd ∧
    (takeRelease f s).peers = s.peers ∧
    (takeRelease f s).meas = s.meas ∧
    (takeRelease f s).burst = s.burst ∧
    (takeRelease f s).budget = s.budget ∧
    (takeRelease f s).fault = s.fault ∧
    (takeRelease f s).halt = s.halt ∧
    (takeRelease f s).pending = s.pending := by
  unfold takeRelease
  try dsimp only
  refine ⟨?_, ?_, ?_, ?_, ?_, ?_, ?_, ?_, ?_, ?_, ?_, ?_, ?_⟩ <;> (repeat' split) <;>
    first
    | (exact reply_keeps _ (fun _ _ => rfl) (fun _ => State.each_keeps _ (fun c s => by simp) _ _) _)
    | simp

@[simp] theorem clearChan_frame (c : Chan) (s : State) :
    (clearChan c s).powered = s.powered ∧
    (clearChan c s).now = s.now ∧
    (clearChan c s).pins = s.pins ∧
    (clearChan c s).loader = s.loader ∧
    (clearChan c s).station = s.station ∧
    (clearChan c s).line = s.line ∧
    (clearChan c s).cmd = s.cmd ∧
    (clearChan c s).peers = s.peers ∧
    (clearChan c s).meas = s.meas ∧
    (clearChan c s).burst = s.burst ∧
    (clearChan c s).budget = s.budget ∧
    (clearChan c s).halt = s.halt ∧
    (clearChan c s).pending = s.pending := by
  unfold clearChan
  try dsimp only
  (repeat' split) <;> simp

@[simp] theorem clearChans_frame (cs : List Chan) (s : State) :
    (clearChans cs s).powered = s.powered ∧
    (clearChans cs s).now = s.now ∧
    (clearChans cs s).pins = s.pins ∧
    (clearChans cs s).loader = s.loader ∧
    (clearChans cs s).station = s.station ∧
    (clearChans cs s).line = s.line ∧
    (clearChans cs s).cmd = s.cmd ∧
    (clearChans cs s).peers = s.peers ∧
    (clearChans cs s).meas = s.meas ∧
    (clearChans cs s).budget = s.budget ∧
    (clearChans cs s).halt = s.halt ∧
    (clearChans cs s).pending = s.pending := by
  unfold clearChans
  try dsimp only
  refine ⟨?_, ?_, ?_, ?_, ?_, ?_, ?_, ?_, ?_, ?_, ?_, ?_⟩ <;> split <;>
    (try simp only [endEarthLock_frame]) <;> exact State.each_keeps _ (fun c s => by simp) _ _

@[simp] theorem takeResetTrip_frame (f : RxFrame) (s : State) :
    (takeResetTrip f s).powered = s.powered ∧
    (takeResetTrip f s).now = s.now ∧
    (takeResetTrip f s).pins = s.pins ∧
    (takeResetTrip f s).loader = s.loader ∧
    (takeResetTrip f s).station = s.station ∧
    (takeResetTrip f s).cmd = s.cmd ∧
    (takeResetTrip f s).peers = s.peers ∧
    (takeResetTrip f s).meas = s.meas ∧
    (takeResetTrip f s).budget = s.budget ∧
    (takeResetTrip f s).halt = s.halt ∧
    (takeResetTrip f s).pending = s.pending := by
  unfold takeResetTrip
  try dsimp only
  refine ⟨?_, ?_, ?_, ?_, ?_, ?_, ?_, ?_, ?_, ?_, ?_⟩ <;> (repeat' split) <;>
    exact reply_keeps _ (fun _ _ => rfl) (fun _ => by simp) _

@[simp] theorem putInFlight_frame (name : Deferred) (f : RxFrame) (s : State) :
    (putInFlight name f s).powered = s.powered ∧
    (putInFlight name f s).now = s.now ∧
    (putInFlight name f s).pins = s.pins ∧
    (putInFlight name f s).loader = s.loader ∧
    (putInFlight name f s).station = s.station ∧
    (putInFlight name f s).line = s.line ∧
    (putInFlight name f s).peers = s.peers ∧
    (putInFlight name f s).meas = s.meas ∧
    (putInFlight name f s).burst = s.burst ∧
    (putInFlight name f s).budget = s.budget ∧
    (putInFlight name f s).chans = s.chans ∧
    (putInFlight name f s).fault = s.fault ∧
    (putInFlight name f s).halt = s.halt ∧
    (putInFlight name f s).pending = s.pending := by
  simp [putInFlight]

@[simp] theorem takeLeakTest_frame (f : RxFrame) (s : State) :
    (takeLeakTest f s).powered = s.powered ∧
    (takeLeakTest f s).now = s.now ∧
    (takeLeakTest f s).pins = s.pins ∧
    (takeLeakTest f s).loader = s.loader ∧
    (takeLeakTest f s).station = s.station ∧
    (takeLeakTest f s).peers = s.peers ∧
    (takeLeakTest f s).burst = s.burst ∧
    (takeLeakTest f s).budget = s.budget ∧
    (takeLeakTest f s).chans = s.chans ∧
    (takeLeakTest f s).halt = s.halt ∧
    (takeLeakTest f s).pending = s.pending := by
  unfold takeLeakTest
  try dsimp only
  refine ⟨?_, ?_, ?_, ?_, ?_, ?_, ?_, ?_, ?_, ?_, ?_⟩ <;> (repeat' split) <;>
    exact reply_keeps _ (fun _ _ => rfl) (fun _ => by simp) _

@[simp] theorem startMeasure_frame (s : State) :
    (startMeasure s).powered = s.powered ∧
    (startMeasure s).now = s.now ∧
    (startMeasure s).pins = s.pins ∧
    (startMeasure s).loader = s.loader ∧
    (startMeasure s).station = s.station ∧
    (startMeasure s).line = s.line ∧
    (startMeasure s).cmd = s.cmd ∧
    (startMeasure s).peers = s.peers ∧
    (startMeasure s).burst = s.burst ∧
    (startMeasure s).budget = s.budget ∧
    (startMeasure s).chans = s.chans ∧
    (startMeasure s).fault = s.fault ∧
    (startMeasure s).halt = s.halt ∧
    (startMeasure s).pending = s.pending := by
  simp [startMeasure]

@[simp] theorem takeMeasure_frame (f : RxFrame) (s : State) :
    (takeMeasure f s).powered = s.powered ∧
    (takeMeasure f s).now = s.now ∧
    (takeMeasure f s).pins = s.pins ∧
    (takeMeasure f s).loader = s.loader ∧
    (takeMeasure f s).station = s.station ∧
    (takeMeasure f s).peers = s.peers ∧
    (takeMeasure f s).burst = s.burst ∧
    (takeMeasure f s).budget = s.budget ∧
    (takeMeasure f s).chans = s.chans ∧
    (takeMeasure f s).fault = s.fault ∧
    (takeMeasure f s).halt = s.halt ∧
    (takeMeasure f s).pending = s.pending := by
  unfold takeMeasure
  refine ⟨?_, ?_, ?_, ?_, ?_, ?_, ?_, ?_, ?_, ?_, ?_, ?_⟩ <;> exact reply_keeps _ (fun _ _ => rfl) (fun _ => by simp) _

@[simp] theorem startReslot_frame (s : State) :
    (startReslot s).powered = s.powered ∧
    (startReslot s).now = s.now ∧
    (startReslot s).pins = s.pins ∧
    (startReslot s).loader = s.loader ∧
    (startReslot s).line = s.line ∧
    (startReslot s).cmd = s.cmd ∧
    (startReslot s).peers = s.peers ∧
    (startReslot s).meas = s.meas ∧
    (startReslot s).budget = s.budget ∧
    (startReslot s).chans = s.chans ∧
    (startReslot s).fault = s.fault ∧
    (startReslot s).halt = s.halt ∧
    (startReslot s).pending = s.pending := by
  unfold startReslot
  try dsimp only
  (repeat' split) <;> simp

@[simp] theorem takeReslot_frame (f : RxFrame) (s : State) :
    (takeReslot f s).powered = s.powered ∧
    (takeReslot f s).now = s.now ∧
    (takeReslot f s).pins = s.pins ∧
    (takeReslot f s).loader = s.loader ∧
    (takeReslot f s).cmd = s.cmd ∧
    (takeReslot f s).peers = s.peers ∧
    (takeReslot f s).meas = s.meas ∧
    (takeReslot f s).budget = s.budget ∧
    (takeReslot f s).chans = s.chans ∧
    (takeReslot f s).fault = s.fault ∧
    (takeReslot f s).halt = s.halt ∧
    (takeReslot f s).pending = s.pending := by
  unfold takeReslot
  refine ⟨?_, ?_, ?_, ?_, ?_, ?_, ?_, ?_, ?_, ?_, ?_, ?_⟩ <;> exact reply_keeps _ (fun _ _ => rfl) (fun _ => by simp) _

@[simp] theorem takeStopStation_frame (f : RxFrame) (s : State) :
    (takeStopStation f s).powered = s.powered ∧
    (takeStopStation f s).now = s.now ∧
    (takeStopStation f s).pins = s.pins ∧
    (takeStopStation f s).loader = s.loader ∧
    (takeStopStation f s).peers = s.peers ∧
    (takeStopStation f s).budget = s.budget ∧
    (takeStopStation f s).pending = s.pending := by
  unfold takeStopStation
  refine ⟨?_, ?_, ?_, ?_, ?_, ?_, ?_⟩ <;> exact reply_keeps _ (fun _ _ => rfl) (fun _ => by simp) _

@[simp] theorem popFault_frame (s : State) :
    (popFault s).powered = s.powered ∧
    (popFault s).now = s.now ∧
    (popFault s).pins = s.pins ∧
    (popFault s).loader = s.loader ∧
    (popFault s).station = s.station ∧
    (popFault s).line = s.line ∧
    (popFault s).cmd = s.cmd ∧
    (popFault s).peers = s.peers ∧
    (popFault s).meas = s.meas ∧
    (popFault s).burst = s.burst ∧
    (popFault s).budget = s.budget ∧
    (popFault s).chans = s.chans ∧
    (popFault s).halt = s.halt ∧
    (popFault s).pending = s.pending := by
  simp [popFault]

@[simp] theorem takeFaultPop_frame (f : RxFrame) (s : State) :
    (takeFaultPop f s).powered = s.powered ∧
    (takeFaultPop f s).now = s.now ∧
    (takeFaultPop f s).pins = s.pins ∧
    (takeFaultPop f s).loader = s.loader ∧
    (takeFaultPop f s).station = s.station ∧
    (takeFaultPop f s).cmd = s.cmd ∧
    (takeFaultPop f s).peers = s.peers ∧
    (takeFaultPop f s).meas = s.meas ∧
    (takeFaultPop f s).burst = s.burst ∧
    (takeFaultPop f s).budget = s.budget ∧
    (takeFaultPop f s).chans = s.chans ∧
    (takeFaultPop f s).halt = s.halt ∧
    (takeFaultPop f s).pending = s.pending := by
  unfold takeFaultPop
  try dsimp only
  refine ⟨?_, ?_, ?_, ?_, ?_, ?_, ?_, ?_, ?_, ?_, ?_, ?_, ?_⟩ <;> (repeat' split) <;>
    exact reply_keeps _ (fun _ _ => rfl) (fun _ => by simp) _

@[simp] theorem restartBlocks_frame (s : State) :
    (restartBlocks s).powered = s.powered ∧
    (restartBlocks s).now = s.now ∧
    (restartBlocks s).pins = s.pins ∧
    (restartBlocks s).loader = s.loader ∧
    (restartBlocks s).pending = s.pending := by
  simp [restartBlocks]

@[simp] theorem takeRestart_frame (f : RxFrame) (s : State) :
    (takeRestart f s).powered = s.powered ∧
    (takeRestart f s).now = s.now ∧
    (takeRestart f s).pins = s.pins ∧
    (takeRestart f s).loader = s.loader ∧
    (takeRestart f s).pending = s.pending := by
  unfold takeRestart
  try dsimp only
  (repeat' split) <;> simp

@[simp] theorem takeReadChannel_frame (f : RxFrame) (s : State) :
    (takeReadChannel f s).powered = s.powered ∧
    (takeReadChannel f s).now = s.now ∧
    (takeReadChannel f s).pins = s.pins ∧
    (takeReadChannel f s).loader = s.loader ∧
    (takeReadChannel f s).station = s.station ∧
    (takeReadChannel f s).cmd = s.cmd ∧
    (takeReadChannel f s).peers = s.peers ∧
    (takeReadChannel f s).meas = s.meas ∧
    (takeReadChannel f s).burst = s.burst ∧
    (takeReadChannel f s).budget = s.budget ∧
    (takeReadChannel f s).chans = s.chans ∧
    (takeReadChannel f s).fault = s.fault ∧
    (takeReadChannel f s).halt = s.halt ∧
    (takeReadChannel f s).pending = s.pending := by
  unfold takeReadChannel
  try dsimp only
  (repeat' split) <;> simp

@[simp] theorem takeReadStation_frame (f : RxFrame) (s : State) :
    (takeReadStation f s).powered = s.powered ∧
    (takeReadStation f s).now = s.now ∧
    (takeReadStation f s).pins = s.pins ∧
    (takeReadStation f s).loader = s.loader ∧
    (takeReadStation f s).station = s.station ∧
    (takeReadStation f s).cmd = s.cmd ∧
    (takeReadStation f s).peers = s.peers ∧
    (takeReadStation f s).meas = s.meas ∧
    (takeReadStation f s).burst = s.burst ∧
    (takeReadStation f s).budget = s.budget ∧
    (takeReadStation f s).chans = s.chans ∧
    (takeReadStation f s).fault = s.fault ∧
    (takeReadStation f s).halt = s.halt ∧
    (takeReadStation f s).pending = s.pending := by
  unfold takeReadStation
  simp

@[simp] theorem takeReadHalt_frame (f : RxFrame) (s : State) :
    (takeReadHalt f s).powered = s.powered ∧
    (takeReadHalt f s).now = s.now ∧
    (takeReadHalt f s).pins = s.pins ∧
    (takeReadHalt f s).loader = s.loader ∧
    (takeReadHalt f s).station = s.station ∧
    (takeReadHalt f s).cmd = s.cmd ∧
    (takeReadHalt f s).peers = s.peers ∧
    (takeReadHalt f s).meas = s.meas ∧
    (takeReadHalt f s).burst = s.burst ∧
    (takeReadHalt f s).budget = s.budget ∧
    (takeReadHalt f s).chans = s.chans ∧
    (takeReadHalt f s).fault = s.fault ∧
    (takeReadHalt f s).halt = s.halt ∧
    (takeReadHalt f s).pending = s.pending := by
  unfold takeReadHalt
  try dsimp only
  (repeat' split) <;> simp

@[simp] theorem takeReadPeer_frame (f : RxFrame) (s : State) :
    (takeReadPeer f s).powered = s.powered ∧
    (takeReadPeer f s).now = s.now ∧
    (takeReadPeer f s).pins = s.pins ∧
    (takeReadPeer f s).loader = s.loader ∧
    (takeReadPeer f s).station = s.station ∧
    (takeReadPeer f s).cmd = s.cmd ∧
    (takeReadPeer f s).peers = s.peers ∧
    (takeReadPeer f s).meas = s.meas ∧
    (takeReadPeer f s).burst = s.burst ∧
    (takeReadPeer f s).budget = s.budget ∧
    (takeReadPeer f s).chans = s.chans ∧
    (takeReadPeer f s).fault = s.fault ∧
    (takeReadPeer f s).halt = s.halt ∧
    (takeReadPeer f s).pending = s.pending := by
  unfold takeReadPeer
  try dsimp only
  (repeat' split) <;> simp

@[simp] theorem takeReadFaultHead_frame (f : RxFrame) (s : State) :
    (takeReadFaultHead f s).powered = s.powered ∧
    (takeReadFaultHead f s).now = s.now ∧
    (takeReadFaultHead f s).pins = s.pins ∧
    (takeReadFaultHead f s).loader = s.loader ∧
    (takeReadFaultHead f s).station = s.station ∧
    (takeReadFaultHead f s).cmd = s.cmd ∧
    (takeReadFaultHead f s).peers = s.peers ∧
    (takeReadFaultHead f s).meas = s.meas ∧
    (takeReadFaultHead f s).burst = s.burst ∧
    (takeReadFaultHead f s).budget = s.budget ∧
    (takeReadFaultHead f s).chans = s.chans ∧
    (takeReadFaultHead f s).fault = s.fault ∧
    (takeReadFaultHead f s).halt = s.halt ∧
    (takeReadFaultHead f s).pending = s.pending := by
  unfold takeReadFaultHead
  try dsimp only
  (repeat' split) <;> simp

@[simp] theorem takeReadIdent_frame (f : RxFrame) (s : State) :
    (takeReadIdent f s).powered = s.powered ∧
    (takeReadIdent f s).now = s.now ∧
    (takeReadIdent f s).pins = s.pins ∧
    (takeReadIdent f s).loader = s.loader ∧
    (takeReadIdent f s).station = s.station ∧
    (takeReadIdent f s).cmd = s.cmd ∧
    (takeReadIdent f s).peers = s.peers ∧
    (takeReadIdent f s).meas = s.meas ∧
    (takeReadIdent f s).burst = s.burst ∧
    (takeReadIdent f s).budget = s.budget ∧
    (takeReadIdent f s).chans = s.chans ∧
    (takeReadIdent f s).fault = s.fault ∧
    (takeReadIdent f s).halt = s.halt ∧
    (takeReadIdent f s).pending = s.pending := by
  unfold takeReadIdent
  simp

/-! ## Taking a frame -/

@[simp] theorem carryOut_frame (r : Request) (f : RxFrame) (s : State) :
    (carryOut r f s).powered = s.powered ∧
    (carryOut r f s).now = s.now ∧
    (carryOut r f s).pins = s.pins ∧
    (carryOut r f s).loader = s.loader ∧
    (carryOut r f s).pending = s.pending := by
  cases r <;> simp [carryOut]

@[simp] theorem takeRequest_frame (f : RxFrame) (s : State) :
    (takeRequest f s).powered = s.powered ∧
    (takeRequest f s).now = s.now ∧
    (takeRequest f s).pins = s.pins ∧
    (takeRequest f s).loader = s.loader ∧
    (takeRequest f s).pending = s.pending := by
  unfold takeRequest
  try dsimp only
  (repeat' split) <;> simp

@[simp] theorem dispatchRequest_frame (f : RxFrame) (s : State) :
    (dispatchRequest f s).powered = s.powered ∧
    (dispatchRequest f s).now = s.now ∧
    (dispatchRequest f s).pins = s.pins ∧
    (dispatchRequest f s).loader = s.loader ∧
    (dispatchRequest f s).pending = s.pending := by
  unfold dispatchRequest
  try dsimp only
  (repeat' split) <;> simp

@[simp] theorem takeSlot_frame (s : State) :
    (takeSlot s).powered = s.powered ∧
    (takeSlot s).now = s.now ∧
    (takeSlot s).pins = s.pins ∧
    (takeSlot s).loader = s.loader ∧
    (takeSlot s).pending = s.pending := by
  unfold takeSlot
  try dsimp only
  (repeat' split) <;> simp

end Sys2Proof.Machine
end

