-- ==== Sys2Proof/Laws/FrameFrames.lean ====
section
/-! SUPPORT. What the receiver's, the peer table's and the transmitter's operations leave unchanged. -/

namespace Sys2Proof.Machine

/-- The end of a frame: nothing but the time and the samples where no frame ends or it is something else; else its effect on the
state at its end. -/
theorem frameEvent_cases (dt : Nat) (wave : List Bool) (want : FrameEnd) (act : RxFrame → State → State) (s : State) :
    frameEvent dt wave want act s = s.hear dt wave ∨
    ∃ f crc, frameEnding (s.hear dt wave) = some (f, crc) ∧ endOf (s.hear dt wave) f crc = want ∧
      frameEvent dt wave want act s = act f { s.hear dt wave with line := (s.hear dt wave).line.dropFrame } := by
  unfold frameEvent
  dsimp only
  split
  · split
    · exact .inr ⟨_, _, ‹_›, ‹_›, rfl⟩
    · exact .inl rfl
  · exact .inl rfl

/-! ## Receiving -/

@[simp] theorem lineError_frame (s : State) :
    (lineError s).powered = s.powered ∧
    (lineError s).now = s.now ∧
    (lineError s).pins = s.pins ∧
    (lineError s).loader = s.loader ∧
    (lineError s).station = s.station ∧
    (lineError s).cmd = s.cmd ∧
    (lineError s).peers = s.peers ∧
    (lineError s).meas = s.meas ∧
    (lineError s).burst = s.burst ∧
    (lineError s).budget = s.budget ∧
    (lineError s).chans = s.chans ∧
    (lineError s).fault = s.fault ∧
    (lineError s).halt = s.halt ∧
    (lineError s).pending = s.pending := by
  simp [lineError]

@[simp] theorem setMute_frame (s : State) :
    (setMute s).powered = s.powered ∧
    (setMute s).now = s.now ∧
    (setMute s).pins = s.pins ∧
    (setMute s).loader = s.loader ∧
    (setMute s).pending = s.pending := by
  unfold setMute
  try dsimp only
  (repeat' split) <;> simp

@[simp] theorem duplicateId_frame (s : State) :
    (duplicateId s).powered = s.powered ∧
    (duplicateId s).now = s.now ∧
    (duplicateId s).pins = s.pins ∧
    (duplicateId s).loader = s.loader ∧
    (duplicateId s).pending = s.pending := by
  simp [duplicateId]

@[simp] theorem startIsolation_frame (s : State) :
    (startIsolation s).powered = s.powered ∧
    (startIsolation s).now = s.now ∧
    (startIsolation s).pins = s.pins ∧
    (startIsolation s).loader = s.loader ∧
    (startIsolation s).line = s.line ∧
    (startIsolation s).cmd = s.cmd ∧
    (startIsolation s).peers = s.peers ∧
    (startIsolation s).meas = s.meas ∧
    (startIsolation s).burst = s.burst ∧
    (startIsolation s).budget = s.budget ∧
    (startIsolation s).chans = s.chans ∧
    (startIsolation s).fault = s.fault ∧
    (startIsolation s).halt = s.halt ∧
    (startIsolation s).pending = s.pending := by
  unfold startIsolation
  try dsimp only
  (repeat' split) <;> simp

@[simp] theorem stopIsolation_frame (s : State) :
    (stopIsolation s).powered = s.powered ∧
    (stopIsolation s).now = s.now ∧
    (stopIsolation s).pins = s.pins ∧
    (stopIsolation s).loader = s.loader ∧
    (stopIsolation s).line = s.line ∧
    (stopIsolation s).cmd = s.cmd ∧
    (stopIsolation s).peers = s.peers ∧
    (stopIsolation s).meas = s.meas ∧
    (stopIsolation s).burst = s.burst ∧
    (stopIsolation s).budget = s.budget ∧
    (stopIsolation s).chans = s.chans ∧
    (stopIsolation s).fault = s.fault ∧
    (stopIsolation s).halt = s.halt ∧
    (stopIsolation s).pending = s.pending := by
  simp [stopIsolation]

@[simp] theorem putEntries_frame (l : List Peer) (s : State) :
    (putEntries l s).powered = s.powered ∧
    (putEntries l s).now = s.now ∧
    (putEntries l s).pins = s.pins ∧
    (putEntries l s).loader = s.loader ∧
    (putEntries l s).line = s.line ∧
    (putEntries l s).cmd = s.cmd ∧
    (putEntries l s).meas = s.meas ∧
    (putEntries l s).burst = s.burst ∧
    (putEntries l s).budget = s.budget ∧
    (putEntries l s).chans = s.chans ∧
    (putEntries l s).fault = s.fault ∧
    (putEntries l s).halt = s.halt ∧
    (putEntries l s).pending = s.pending := by
  unfold putEntries
  try dsimp only
  (repeat' split) <;> simp

@[simp] theorem heardFeeder_frame (s : State) :
    (heardFeeder s).powered = s.powered ∧
    (heardFeeder s).now = s.now ∧
    (heardFeeder s).pins = s.pins ∧
    (heardFeeder s).loader = s.loader ∧
    (heardFeeder s).cmd = s.cmd ∧
    (heardFeeder s).peers = s.peers ∧
    (heardFeeder s).meas = s.meas ∧
    (heardFeeder s).burst = s.burst ∧
    (heardFeeder s).budget = s.budget ∧
    (heardFeeder s).chans = s.chans ∧
    (heardFeeder s).fault = s.fault ∧
    (heardFeeder s).halt = s.halt ∧
    (heardFeeder s).pending = s.pending := by
  unfold heardFeeder
  try dsimp only
  (repeat' split) <;> simp

@[simp] theorem reportTaken_frame (id : Nat) (r : ReportFields) (l : List Peer) (s : State) :
    (reportTaken id r l s).powered = s.powered ∧
    (reportTaken id r l s).now = s.now ∧
    (reportTaken id r l s).pins = s.pins ∧
    (reportTaken id r l s).loader = s.loader ∧
    (reportTaken id r l s).cmd = s.cmd ∧
    (reportTaken id r l s).meas = s.meas ∧
    (reportTaken id r l s).burst = s.burst ∧
    (reportTaken id r l s).budget = s.budget ∧
    (reportTaken id r l s).chans = s.chans ∧
    (reportTaken id r l s).halt = s.halt ∧
    (reportTaken id r l s).pending = s.pending := by
  unfold reportTaken
  try dsimp only
  (repeat' split) <;> simp

@[simp] theorem peerReport_frame (f : RxFrame) (s : State) :
    (peerReport f s).powered = s.powered ∧
    (peerReport f s).now = s.now ∧
    (peerReport f s).pins = s.pins ∧
    (peerReport f s).loader = s.loader ∧
    (peerReport f s).pending = s.pending := by
  unfold peerReport
  try dsimp only
  (repeat' split) <;> simp

@[simp] theorem noticeTaken_frame (id : Nat) (n : NoticeFields) (p : Peer) (s : State) :
    (noticeTaken id n p s).powered = s.powered ∧
    (noticeTaken id n p s).now = s.now ∧
    (noticeTaken id n p s).pins = s.pins ∧
    (noticeTaken id n p s).loader = s.loader ∧
    (noticeTaken id n p s).line = s.line ∧
    (noticeTaken id n p s).cmd = s.cmd ∧
    (noticeTaken id n p s).meas = s.meas ∧
    (noticeTaken id n p s).burst = s.burst ∧
    (noticeTaken id n p s).budget = s.budget ∧
    (noticeTaken id n p s).chans = s.chans ∧
    (noticeTaken id n p s).fault = s.fault ∧
    (noticeTaken id n p s).halt = s.halt ∧
    (noticeTaken id n p s).pending = s.pending := by
  unfold noticeTaken
  try dsimp only
  (repeat' split) <;> simp

@[simp] theorem peerNotice_frame (f : RxFrame) (s : State) :
    (peerNotice f s).powered = s.powered ∧
    (peerNotice f s).now = s.now ∧
    (peerNotice f s).pins = s.pins ∧
    (peerNotice f s).loader = s.loader ∧
    (peerNotice f s).pending = s.pending := by
  unfold peerNotice
  try dsimp only
  (repeat' split) <;> simp

/-! ## Transmitting -/

@[simp] theorem startHead_frame (head : OutFrame) (s : State) :
    (startHead head s).powered = s.powered ∧
    (startHead head s).now = s.now ∧
    (startHead head s).pins = s.pins ∧
    (startHead head s).loader = s.loader ∧
    (startHead head s).station = s.station ∧
    (startHead head s).cmd = s.cmd ∧
    (startHead head s).peers = s.peers ∧
    (startHead head s).meas = s.meas ∧
    (startHead head s).burst = s.burst ∧
    (startHead head s).budget = s.budget ∧
    (startHead head s).chans = s.chans ∧
    (startHead head s).halt = s.halt ∧
    (startHead head s).pending = s.pending := by
  unfold startHead
  simp

@[simp] theorem transmitHead_frame (s : State) :
    (transmitHead s).powered = s.powered ∧
    (transmitHead s).now = s.now ∧
    (transmitHead s).pins = s.pins ∧
    (transmitHead s).loader = s.loader ∧
    (transmitHead s).station = s.station ∧
    (transmitHead s).cmd = s.cmd ∧
    (transmitHead s).peers = s.peers ∧
    (transmitHead s).meas = s.meas ∧
    (transmitHead s).burst = s.burst ∧
    (transmitHead s).budget = s.budget ∧
    (transmitHead s).chans = s.chans ∧
    (transmitHead s).halt = s.halt ∧
    (transmitHead s).pending = s.pending := by
  unfold transmitHead
  try dsimp only
  (repeat' split) <;> simp

@[simp] theorem requeueNotice_frame (n : NoticeContent) (s : State) :
    (requeueNotice n s).powered = s.powered ∧
    (requeueNotice n s).now = s.now ∧
    (requeueNotice n s).pins = s.pins ∧
    (requeueNotice n s).loader = s.loader ∧
    (requeueNotice n s).station = s.station ∧
    (requeueNotice n s).cmd = s.cmd ∧
    (requeueNotice n s).peers = s.peers ∧
    (requeueNotice n s).meas = s.meas ∧
    (requeueNotice n s).burst = s.burst ∧
    (requeueNotice n s).budget = s.budget ∧
    (requeueNotice n s).chans = s.chans ∧
    (requeueNotice n s).halt = s.halt ∧
    (requeueNotice n s).pending = s.pending := by
  unfold requeueNotice
  try dsimp only
  (repeat' split) <;> simp

@[simp] theorem discardHead_frame (s : State) :
    (discardHead s).powered = s.powered ∧
    (discardHead s).now = s.now ∧
    (discardHead s).pins = s.pins ∧
    (discardHead s).loader = s.loader ∧
    (discardHead s).station = s.station ∧
    (discardHead s).peers = s.peers ∧
    (discardHead s).meas = s.meas ∧
    (discardHead s).burst = s.burst ∧
    (discardHead s).budget = s.budget ∧
    (discardHead s).chans = s.chans ∧
    (discardHead s).halt = s.halt ∧
    (discardHead s).pending = s.pending := by
  simp [discardHead]

@[simp] theorem unstartHead_frame (s : State) :
    (unstartHead s).powered = s.powered ∧
    (unstartHead s).now = s.now ∧
    (unstartHead s).pins = s.pins ∧
    (unstartHead s).loader = s.loader ∧
    (unstartHead s).station = s.station ∧
    (unstartHead s).cmd = s.cmd ∧
    (unstartHead s).peers = s.peers ∧
    (unstartHead s).meas = s.meas ∧
    (unstartHead s).burst = s.burst ∧
    (unstartHead s).budget = s.budget ∧
    (unstartHead s).chans = s.chans ∧
    (unstartHead s).halt = s.halt ∧
    (unstartHead s).pending = s.pending := by
  unfold unstartHead
  try dsimp only
  (repeat' split) <;> simp

@[simp] theorem loseFrame_frame (s : State) :
    (loseFrame s).powered = s.powered ∧
    (loseFrame s).now = s.now ∧
    (loseFrame s).pins = s.pins ∧
    (loseFrame s).loader = s.loader ∧
    (loseFrame s).station = s.station ∧
    (loseFrame s).peers = s.peers ∧
    (loseFrame s).meas = s.meas ∧
    (loseFrame s).burst = s.burst ∧
    (loseFrame s).budget = s.budget ∧
    (loseFrame s).chans = s.chans ∧
    (loseFrame s).halt = s.halt ∧
    (loseFrame s).pending = s.pending := by
  unfold loseFrame
  try dsimp only
  (repeat' split) <;> simp

@[simp] theorem completedKind_frame (head : OutFrame) (s : State) :
    (completedKind head s).powered = s.powered ∧
    (completedKind head s).now = s.now ∧
    (completedKind head s).pins = s.pins ∧
    (completedKind head s).loader = s.loader ∧
    (completedKind head s).station = s.station ∧
    (completedKind head s).cmd = s.cmd ∧
    (completedKind head s).peers = s.peers ∧
    (completedKind head s).meas = s.meas ∧
    (completedKind head s).burst = s.burst ∧
    (completedKind head s).budget = s.budget ∧
    (completedKind head s).chans = s.chans ∧
    (completedKind head s).halt = s.halt ∧
    (completedKind head s).pending = s.pending := by
  unfold completedKind
  try dsimp only
  (repeat' split) <;> simp

@[simp] theorem completeHead_frame (residual : Nat) (s : State) :
    (completeHead residual s).powered = s.powered ∧
    (completeHead residual s).now = s.now ∧
    (completeHead residual s).loader = s.loader ∧
    (completeHead residual s).pending = s.pending := by
  unfold completeHead
  try dsimp only
  (repeat' split) <;> simp

end Sys2Proof.Machine
end

