-- ==== Sys2Proof/Laws/EventFrames.lean ====
section
/-! SUPPORT. What the events of the timers, the sequencer, the burst timer and the halt unit leave unchanged. -/

namespace Sys2Proof.Machine

/-! ## Station timers -/

@[simp] theorem setIsolation_frame (s : State) :
    (setIsolation s).powered = s.powered ∧
    (setIsolation s).now = s.now ∧
    (setIsolation s).pins = s.pins ∧
    (setIsolation s).loader = s.loader ∧
    (setIsolation s).line = s.line ∧
    (setIsolation s).cmd = s.cmd ∧
    (setIsolation s).peers = s.peers ∧
    (setIsolation s).meas = s.meas ∧
    (setIsolation s).burst = s.burst ∧
    (setIsolation s).budget = s.budget ∧
    (setIsolation s).chans = s.chans ∧
    (setIsolation s).fault = s.fault ∧
    (setIsolation s).halt = s.halt ∧
    (setIsolation s).pending = s.pending := by
  unfold setIsolation
  (repeat' split) <;> simp

@[simp] theorem enterRunning_frame (s : State) :
    (enterRunning s).powered = s.powered ∧
    (enterRunning s).now = s.now ∧
    (enterRunning s).pins = s.pins ∧
    (enterRunning s).loader = s.loader ∧
    (enterRunning s).cmd = s.cmd ∧
    (enterRunning s).peers = s.peers ∧
    (enterRunning s).meas = s.meas ∧
    (enterRunning s).budget = s.budget ∧
    (enterRunning s).fault = s.fault ∧
    (enterRunning s).halt = s.halt ∧
    (enterRunning s).pending = s.pending := by
  simp [enterRunning]

@[simp] theorem enterIsolated_frame (s : State) :
    (enterIsolated s).powered = s.powered ∧
    (enterIsolated s).now = s.now ∧
    (enterIsolated s).pins = s.pins ∧
    (enterIsolated s).loader = s.loader ∧
    (enterIsolated s).cmd = s.cmd ∧
    (enterIsolated s).peers = s.peers ∧
    (enterIsolated s).meas = s.meas ∧
    (enterIsolated s).burst = s.burst ∧
    (enterIsolated s).budget = s.budget ∧
    (enterIsolated s).chans = s.chans ∧
    (enterIsolated s).fault = s.fault ∧
    (enterIsolated s).halt = s.halt ∧
    (enterIsolated s).pending = s.pending := by
  simp [enterIsolated]

/-! ## Measurement -/

@[simp] theorem askAgain_frame (c : Chan) (s : State) :
    (askAgain c s).powered = s.powered ∧
    (askAgain c s).now = s.now ∧
    (askAgain c s).pins = s.pins ∧
    (askAgain c s).loader = s.loader ∧
    (askAgain c s).station = s.station ∧
    (askAgain c s).line = s.line ∧
    (askAgain c s).cmd = s.cmd ∧
    (askAgain c s).peers = s.peers ∧
    (askAgain c s).burst = s.burst ∧
    (askAgain c s).budget = s.budget ∧
    (askAgain c s).chans = s.chans ∧
    (askAgain c s).fault = s.fault ∧
    (askAgain c s).pending = s.pending := by
  unfold askAgain
  (repeat' split) <;> simp

/-! ## Edges -/

@[simp] theorem noteEdge_frame (hr : Four Bool) (s : State) :
    (noteEdge hr s).powered = s.powered ∧
    (noteEdge hr s).now = s.now ∧
    (noteEdge hr s).loader = s.loader ∧
    (noteEdge hr s).station = s.station ∧
    (noteEdge hr s).line = s.line ∧
    (noteEdge hr s).cmd = s.cmd ∧
    (noteEdge hr s).peers = s.peers ∧
    (noteEdge hr s).meas = s.meas ∧
    (noteEdge hr s).budget = s.budget ∧
    (noteEdge hr s).chans = s.chans ∧
    (noteEdge hr s).fault = s.fault ∧
    (noteEdge hr s).halt = s.halt ∧
    (noteEdge hr s).pending = s.pending := by
  simp [noteEdge]

@[simp] theorem countWatch_frame (s : State) :
    (countWatch s).powered = s.powered ∧
    (countWatch s).now = s.now ∧
    (countWatch s).pins = s.pins ∧
    (countWatch s).loader = s.loader ∧
    (countWatch s).station = s.station ∧
    (countWatch s).line = s.line ∧
    (countWatch s).cmd = s.cmd ∧
    (countWatch s).peers = s.peers ∧
    (countWatch s).meas = s.meas ∧
    (countWatch s).burst = s.burst ∧
    (countWatch s).budget = s.budget ∧
    (countWatch s).chans = s.chans ∧
    (countWatch s).halt = s.halt ∧
    (countWatch s).pending = s.pending := by
  simp [countWatch]

@[simp] theorem stopWatch_frame (s : State) :
    (stopWatch s).powered = s.powered ∧
    (stopWatch s).now = s.now ∧
    (stopWatch s).pins = s.pins ∧
    (stopWatch s).loader = s.loader ∧
    (stopWatch s).station = s.station ∧
    (stopWatch s).line = s.line ∧
    (stopWatch s).cmd = s.cmd ∧
    (stopWatch s).peers = s.peers ∧
    (stopWatch s).meas = s.meas ∧
    (stopWatch s).burst = s.burst ∧
    (stopWatch s).budget = s.budget ∧
    (stopWatch s).chans = s.chans ∧
    (stopWatch s).halt = s.halt ∧
    (stopWatch s).pending = s.pending := by
  simp [stopWatch]

@[simp] theorem decideWatch_frame (s : State) :
    (decideWatch s).powered = s.powered ∧
    (decideWatch s).now = s.now ∧
    (decideWatch s).pins = s.pins ∧
    (decideWatch s).loader = s.loader ∧
    (decideWatch s).peers = s.peers ∧
    (decideWatch s).budget = s.budget ∧
    (decideWatch s).pending = s.pending := by
  unfold decideWatch
  (repeat' split) <;> simp

@[simp] theorem watchAtEdge_frame (first : Bool) (s : State) :
    (watchAtEdge first s).powered = s.powered ∧
    (watchAtEdge first s).now = s.now ∧
    (watchAtEdge first s).pins = s.pins ∧
    (watchAtEdge first s).loader = s.loader ∧
    (watchAtEdge first s).peers = s.peers ∧
    (watchAtEdge first s).budget = s.budget ∧
    (watchAtEdge first s).pending = s.pending := by
  unfold watchAtEdge
  (repeat' split) <;> simp

@[simp] theorem countConfirm_frame (s : State) :
    (countConfirm s).powered = s.powered ∧
    (countConfirm s).now = s.now ∧
    (countConfirm s).pins = s.pins ∧
    (countConfirm s).loader = s.loader ∧
    (countConfirm s).station = s.station ∧
    (countConfirm s).line = s.line ∧
    (countConfirm s).cmd = s.cmd ∧
    (countConfirm s).peers = s.peers ∧
    (countConfirm s).meas = s.meas ∧
    (countConfirm s).burst = s.burst ∧
    (countConfirm s).budget = s.budget ∧
    (countConfirm s).chans = s.chans ∧
    (countConfirm s).fault = s.fault ∧
    (countConfirm s).pending = s.pending := by
  unfold countConfirm
  try dsimp only
  (repeat' split) <;> simp

@[simp] theorem readbackChecks_frame (s : State) :
    (readbackChecks s).powered = s.powered ∧
    (readbackChecks s).now = s.now ∧
    (readbackChecks s).pins = s.pins ∧
    (readbackChecks s).loader = s.loader ∧
    (readbackChecks s).peers = s.peers ∧
    (readbackChecks s).budget = s.budget ∧
    (readbackChecks s).pending = s.pending := by
  simp [readbackChecks]

@[simp] theorem beginPeriod_frame (s : State) :
    (beginPeriod s).powered = s.powered ∧
    (beginPeriod s).now = s.now ∧
    (beginPeriod s).pins = s.pins ∧
    (beginPeriod s).loader = s.loader ∧
    (beginPeriod s).station = s.station ∧
    (beginPeriod s).line = s.line ∧
    (beginPeriod s).cmd = s.cmd ∧
    (beginPeriod s).meas = s.meas ∧
    (beginPeriod s).budget = s.budget ∧
    (beginPeriod s).chans = s.chans ∧
    (beginPeriod s).halt = s.halt ∧
    (beginPeriod s).pending = s.pending := by
  unfold beginPeriod
  try dsimp only
  (repeat' split) <;> simp

@[simp] theorem setIndex_frame (i : Nat) (s : State) :
    (setIndex i s).powered = s.powered ∧
    (setIndex i s).now = s.now ∧
    (setIndex i s).pins = s.pins ∧
    (setIndex i s).loader = s.loader ∧
    (setIndex i s).station = s.station ∧
    (setIndex i s).line = s.line ∧
    (setIndex i s).cmd = s.cmd ∧
    (setIndex i s).peers = s.peers ∧
    (setIndex i s).meas = s.meas ∧
    (setIndex i s).budget = s.budget ∧
    (setIndex i s).chans = s.chans ∧
    (setIndex i s).fault = s.fault ∧
    (setIndex i s).halt = s.halt ∧
    (setIndex i s).pending = s.pending := by
  simp [setIndex]

@[simp] theorem closeAndStep_frame (closeFirst : Bool) (s : State) :
    (closeAndStep closeFirst s).powered = s.powered ∧
    (closeAndStep closeFirst s).now = s.now ∧
    (closeAndStep closeFirst s).pins = s.pins ∧
    (closeAndStep closeFirst s).loader = s.loader ∧
    (closeAndStep closeFirst s).pending = s.pending := by
  unfold closeAndStep
  try dsimp only
  (repeat' split) <;> simp

@[simp] theorem endPeriod_frame (closeFirst : Bool) (s : State) :
    (endPeriod closeFirst s).powered = s.powered ∧
    (endPeriod closeFirst s).now = s.now ∧
    (endPeriod closeFirst s).pins = s.pins ∧
    (endPeriod closeFirst s).loader = s.loader ∧
    (endPeriod closeFirst s).pending = s.pending := by
  simp [endPeriod]

@[simp] theorem reportMoved_frame (before : StationState) (s : State) :
    (reportMoved before s).powered = s.powered ∧
    (reportMoved before s).now = s.now ∧
    (reportMoved before s).pins = s.pins ∧
    (reportMoved before s).loader = s.loader ∧
    (reportMoved before s).station = s.station ∧
    (reportMoved before s).cmd = s.cmd ∧
    (reportMoved before s).peers = s.peers ∧
    (reportMoved before s).meas = s.meas ∧
    (reportMoved before s).burst = s.burst ∧
    (reportMoved before s).budget = s.budget ∧
    (reportMoved before s).chans = s.chans ∧
    (reportMoved before s).fault = s.fault ∧
    (reportMoved before s).halt = s.halt ∧
    (reportMoved before s).pending = s.pending := by
  unfold reportMoved
  try dsimp only
  (repeat' split) <;> simp

@[simp] theorem periodWork_frame (e : EdgeIn) (s : State) :
    (periodWork e s).powered = s.powered ∧
    (periodWork e s).now = s.now ∧
    (periodWork e s).pins = s.pins ∧
    (periodWork e s).loader = s.loader ∧
    (periodWork e s).pending = s.pending := by
  unfold periodWork
  try dsimp only
  (repeat' split) <;> simp

@[simp] theorem nextHalfCycle_frame (s : State) :
    (nextHalfCycle s).powered = s.powered ∧
    (nextHalfCycle s).now = s.now ∧
    (nextHalfCycle s).pins = s.pins ∧
    (nextHalfCycle s).loader = s.loader ∧
    (nextHalfCycle s).budget = s.budget ∧
    (nextHalfCycle s).pending = s.pending := by
  unfold nextHalfCycle
  try dsimp only
  (repeat' split) <;> simp

@[simp] theorem startEdge_frame (e : EdgeIn) (s : State) :
    (startEdge e s).powered = s.powered ∧
    (startEdge e s).now = s.now ∧
    (startEdge e s).loader = s.loader ∧
    (startEdge e s).peers = s.peers ∧
    (startEdge e s).budget = s.budget ∧
    (startEdge e s).pending = s.pending := by
  simp [startEdge]

@[simp] theorem settleHalfCycle_frame (s : State) :
    (settleHalfCycle s).powered = s.powered ∧
    (settleHalfCycle s).now = s.now ∧
    (settleHalfCycle s).pins = s.pins ∧
    (settleHalfCycle s).loader = s.loader ∧
    (settleHalfCycle s).peers = s.peers ∧
    (settleHalfCycle s).budget = s.budget ∧
    (settleHalfCycle s).pending = s.pending := by
  simp [settleHalfCycle]

@[simp] theorem takeEdge_frame (e : EdgeIn) (s : State) :
    (takeEdge e s).powered = s.powered ∧
    (takeEdge e s).now = s.now ∧
    (takeEdge e s).loader = s.loader ∧
    (takeEdge e s).pending = s.pending := by
  unfold takeEdge
  try dsimp only
  (repeat' split) <;> simp

/-! ## Mains loss -/

@[simp] theorem abandonPeriod_frame (s : State) :
    (abandonPeriod s).powered = s.powered ∧
    (abandonPeriod s).now = s.now ∧
    (abandonPeriod s).pins = s.pins ∧
    (abandonPeriod s).loader = s.loader ∧
    (abandonPeriod s).station = s.station ∧
    (abandonPeriod s).line = s.line ∧
    (abandonPeriod s).cmd = s.cmd ∧
    (abandonPeriod s).peers = s.peers ∧
    (abandonPeriod s).meas = s.meas ∧
    (abandonPeriod s).budget = s.budget ∧
    (abandonPeriod s).chans = s.chans ∧
    (abandonPeriod s).fault = s.fault ∧
    (abandonPeriod s).halt = s.halt ∧
    (abandonPeriod s).pending = s.pending := by
  simp [abandonPeriod]

@[simp] theorem abandonSamples_frame (s : State) :
    (abandonSamples s).powered = s.powered ∧
    (abandonSamples s).now = s.now ∧
    (abandonSamples s).pins = s.pins ∧
    (abandonSamples s).loader = s.loader ∧
    (abandonSamples s).station = s.station ∧
    (abandonSamples s).line = s.line ∧
    (abandonSamples s).cmd = s.cmd ∧
    (abandonSamples s).peers = s.peers ∧
    (abandonSamples s).burst = s.burst ∧
    (abandonSamples s).budget = s.budget ∧
    (abandonSamples s).chans = s.chans ∧
    (abandonSamples s).fault = s.fault ∧
    (abandonSamples s).halt = s.halt ∧
    (abandonSamples s).pending = s.pending := by
  simp [abandonSamples]

@[simp] theorem zeroShare_frame (s : State) :
    (zeroShare s).powered = s.powered ∧
    (zeroShare s).now = s.now ∧
    (zeroShare s).pins = s.pins ∧
    (zeroShare s).loader = s.loader ∧
    (zeroShare s).station = s.station ∧
    (zeroShare s).line = s.line ∧
    (zeroShare s).cmd = s.cmd ∧
    (zeroShare s).peers = s.peers ∧
    (zeroShare s).meas = s.meas ∧
    (zeroShare s).burst = s.burst ∧
    (zeroShare s).chans = s.chans ∧
    (zeroShare s).fault = s.fault ∧
    (zeroShare s).halt = s.halt ∧
    (zeroShare s).pending = s.pending := by
  simp [zeroShare]

@[simp] theorem haltAtLoss_frame (s : State) :
    (haltAtLoss s).powered = s.powered ∧
    (haltAtLoss s).now = s.now ∧
    (haltAtLoss s).pins = s.pins ∧
    (haltAtLoss s).loader = s.loader ∧
    (haltAtLoss s).station = s.station ∧
    (haltAtLoss s).line = s.line ∧
    (haltAtLoss s).cmd = s.cmd ∧
    (haltAtLoss s).peers = s.peers ∧
    (haltAtLoss s).burst = s.burst ∧
    (haltAtLoss s).budget = s.budget ∧
    (haltAtLoss s).chans = s.chans ∧
    (haltAtLoss s).fault = s.fault ∧
    (haltAtLoss s).pending = s.pending := by
  unfold haltAtLoss
  try dsimp only
  (repeat' split) <;> simp

@[simp] theorem loseMains_frame (s : State) :
    (loseMains s).powered = s.powered ∧
    (loseMains s).now = s.now ∧
    (loseMains s).pins = s.pins ∧
    (loseMains s).loader = s.loader ∧
    (loseMains s).pending = s.pending := by
  simp [loseMains]

/-! ## Channels, faults and halt -/

@[simp] theorem turnToOvertemp_frame (c : Chan) (s : State) :
    (turnToOvertemp c s).powered = s.powered ∧
    (turnToOvertemp c s).now = s.now ∧
    (turnToOvertemp c s).pins = s.pins ∧
    (turnToOvertemp c s).loader = s.loader ∧
    (turnToOvertemp c s).station = s.station ∧
    (turnToOvertemp c s).line = s.line ∧
    (turnToOvertemp c s).cmd = s.cmd ∧
    (turnToOvertemp c s).peers = s.peers ∧
    (turnToOvertemp c s).meas = s.meas ∧
    (turnToOvertemp c s).burst = s.burst ∧
    (turnToOvertemp c s).budget = s.budget ∧
    (turnToOvertemp c s).halt = s.halt ∧
    (turnToOvertemp c s).pending = s.pending := by
  simp [turnToOvertemp]

@[simp] theorem recloseChan_frame (c : Chan) (s : State) :
    (recloseChan c s).powered = s.powered ∧
    (recloseChan c s).now = s.now ∧
    (recloseChan c s).pins = s.pins ∧
    (recloseChan c s).loader = s.loader ∧
    (recloseChan c s).station = s.station ∧
    (recloseChan c s).line = s.line ∧
    (recloseChan c s).cmd = s.cmd ∧
    (recloseChan c s).peers = s.peers ∧
    (recloseChan c s).meas = s.meas ∧
    (recloseChan c s).burst = s.burst ∧
    (recloseChan c s).budget = s.budget ∧
    (recloseChan c s).halt = s.halt ∧
    (recloseChan c s).pending = s.pending := by
  unfold recloseChan
  (repeat' split) <;> simp

@[simp] theorem startChecking_frame (how : CheckState) (s : State) :
    (startChecking how s).powered = s.powered ∧
    (startChecking how s).now = s.now ∧
    (startChecking how s).pins = s.pins ∧
    (startChecking how s).loader = s.loader ∧
    (startChecking how s).station = s.station ∧
    (startChecking how s).line = s.line ∧
    (startChecking how s).cmd = s.cmd ∧
    (startChecking how s).peers = s.peers ∧
    (startChecking how s).meas = s.meas ∧
    (startChecking how s).burst = s.burst ∧
    (startChecking how s).budget = s.budget ∧
    (startChecking how s).chans = s.chans ∧
    (startChecking how s).fault = s.fault ∧
    (startChecking how s).pending = s.pending := by
  simp [startChecking]

@[simp] theorem confirmCrystal_frame (s : State) :
    (confirmCrystal s).powered = s.powered ∧
    (confirmCrystal s).now = s.now ∧
    (confirmCrystal s).pins = s.pins ∧
    (confirmCrystal s).loader = s.loader ∧
    (confirmCrystal s).station = s.station ∧
    (confirmCrystal s).line = s.line ∧
    (confirmCrystal s).cmd = s.cmd ∧
    (confirmCrystal s).peers = s.peers ∧
    (confirmCrystal s).burst = s.burst ∧
    (confirmCrystal s).budget = s.budget ∧
    (confirmCrystal s).chans = s.chans ∧
    (confirmCrystal s).fault = s.fault ∧
    (confirmCrystal s).pending = s.pending := by
  unfold confirmCrystal
  (repeat' split) <;> simp

end Sys2Proof.Machine
end

