-- ==== Sys2Proof/Laws/Fields.lean ====
section
/-! SUPPORT. The laws of packed fields (R210): a field that was packed is read back at its place, and the characters of a whole number
of fields have the length their widths give. -/

namespace Sys2Proof.Machine

/-- The number of a sequence of fields behind another. -/
theorem packNat_foldl (fs : List Field) (a : Nat) :
    fs.foldl (fun acc f => acc * 2 ^ f.width + f.value % 2 ^ f.width) a = a * 2 ^ (fs.map (·.width)).sum + packNat fs := by
  induction fs generalizing a with
  | nil => simp [packNat]
  | cons f fs ih =>
    have h0 := ih (a * 2 ^ f.width + f.value % 2 ^ f.width)
    have h1 := ih (0 * 2 ^ f.width + f.value % 2 ^ f.width)
    simp only [packNat, List.foldl_cons, List.map_cons, List.sum_cons, Nat.pow_add] at *
    rw [h0, h1]
    ring

/-- The total width is the sum of the widths. -/
theorem widthOf_eq (fs : List Field) : widthOf fs = (fs.map (·.width)).sum := by
  have h : ∀ a, fs.foldl (fun acc (f : Field) => acc + f.width) a = a + (fs.map (·.width)).sum := by
    induction fs with
    | nil => simp
    | cons f fs ih => intro a; simp [ih]; omega
  simpa [widthOf] using h 0

theorem packNat_append (fs gs : List Field) : packNat (fs ++ gs) = packNat fs * 2 ^ widthOf gs + packNat gs := by
  rw [widthOf_eq]
  conv_lhs => rw [packNat, List.foldl_append]
  exact packNat_foldl gs _

theorem packNat_cons (f : Field) (fs : List Field) :
    packNat (f :: fs) = f.value % 2 ^ f.width * 2 ^ widthOf fs + packNat fs := by
  have h := packNat_append [f] fs
  simpa [packNat] using h

/-- The packed number fits its width. -/
theorem packNat_lt (fs : List Field) : packNat fs < 2 ^ widthOf fs := by
  induction fs with
  | nil => simp [packNat, widthOf]
  | cons f fs ih =>
    have hw : widthOf (f :: fs) = f.width + widthOf fs := by simp [widthOf_eq]
    have hf : f.value % 2 ^ f.width < 2 ^ f.width := Nat.mod_lt _ (by positivity)
    rw [packNat_cons, hw, Nat.pow_add]
    calc f.value % 2 ^ f.width * 2 ^ widthOf fs + packNat fs
        < f.value % 2 ^ f.width * 2 ^ widthOf fs + 2 ^ widthOf fs := by omega
      _ = (f.value % 2 ^ f.width + 1) * 2 ^ widthOf fs := by ring
      _ ≤ 2 ^ f.width * 2 ^ widthOf fs := Nat.mul_le_mul_right _ hf

theorem charsToNat_append (as bs : List Byte) : charsToNat (as ++ bs) = charsToNat as * 256 ^ bs.length + charsToNat bs := by
  have h : ∀ (l : List Byte) a, l.foldl (fun acc b => acc * 256 + b.toNat) a = a * 256 ^ l.length + charsToNat l := by
    intro l
    induction l with
    | nil => simp [charsToNat]
    | cons b l ih =>
      intro a
      have h0 := ih (a * 256 + b.toNat)
      have h1 := ih (0 * 256 + b.toNat)
      simp only [charsToNat, List.foldl_cons, List.length_cons, Nat.pow_succ] at *
      rw [h0, h1]
      ring
  conv_lhs => rw [charsToNat, List.foldl_append]
  exact h bs _

@[simp] theorem natToChars_length (n v : Nat) : (natToChars n v).length = n := by simp [natToChars]

/-- A number split into characters is the number again, as far as the characters reach. -/
theorem charsToNat_natToChars (n v : Nat) : charsToNat (natToChars n v) = v % 256 ^ n := by
  induction n with
  | zero => simp [natToChars, charsToNat, Nat.mod_one]
  | succ n ih =>
    have h : natToChars (n + 1) v = BitVec.ofNat 8 (v / 2 ^ (8 * n)) :: natToChars n v := by
      simp only [natToChars, List.range_succ_eq_map, List.map_cons, List.map_map]
      congr 1
      apply List.map_congr_left
      intro i _
      have h2 : n + 1 - 1 - (i + 1) = n - 1 - i := by omega
      simp only [Function.comp_apply, Nat.succ_eq_add_one, h2]
    have h3 := charsToNat_append [BitVec.ofNat 8 (v / 2 ^ (8 * n))] (natToChars n v)
    have h4 : (2 : Nat) ^ (8 * n) = 256 ^ n := by rw [Nat.pow_mul]
    rw [h, ← List.singleton_append, h3, ih]
    simp only [charsToNat, List.foldl_cons, List.foldl_nil, BitVec.toNat_ofNat, natToChars_length, h4]
    have h5 : v % (256 ^ n * 256) = v % 256 ^ n + 256 ^ n * (v / 256 ^ n % 256) := Nat.mod_mul
    have h6 : v % 256 ^ (n + 1) = v % (256 ^ n * 256) := by rw [pow_succ]
    rw [h6, h5]
    ring

/-- The characters of packed fields, as a number. -/
theorem charsToNat_packChars (fs : List Field) (h : widthOf fs % 8 = 0) : charsToNat (packChars fs) = packNat fs := by
  rw [packChars, charsToNat_natToChars, Nat.mod_eq_of_lt]
  have h1 := packNat_lt fs
  have h2 : (256 : Nat) ^ (widthOf fs / 8) = 2 ^ (8 * (widthOf fs / 8)) := by rw [Nat.pow_mul]
  have h3 : 8 * (widthOf fs / 8) = widthOf fs := by omega
  rw [h2, h3]
  exact h1

@[simp] theorem packChars_length (fs : List Field) : (packChars fs).length = widthOf fs / 8 := by simp [packChars]

/-- R210: the field behind `pre` is read back at the bit where it begins. -/
theorem fieldAt_packChars (pre post : List Field) (f : Field) (h : widthOf (pre ++ f :: post) % 8 = 0) :
    fieldAt (packChars (pre ++ f :: post)) (widthOf pre) f.width = f.value % 2 ^ f.width := by
  have hw : widthOf (pre ++ f :: post) = widthOf pre + (f.width + widthOf post) := by simp [widthOf_eq]
  have hs : 8 * (widthOf (pre ++ f :: post) / 8) - widthOf pre - f.width = widthOf post := by omega
  have hp := packNat_lt post
  rw [fieldAt, charsToNat_packChars _ h, packChars_length, hs, packNat_append, packNat_cons]
  have hwp : widthOf (f :: post) = f.width + widthOf post := by simp [widthOf_eq]
  have e : packNat pre * 2 ^ widthOf (f :: post) + (f.value % 2 ^ f.width * 2 ^ widthOf post + packNat post) =
      2 ^ widthOf post * (2 ^ f.width * packNat pre + f.value % 2 ^ f.width) + packNat post := by
    rw [hwp, Nat.pow_add]
    ring
  rw [e, Nat.mul_add_div (by positivity), Nat.div_eq_of_lt hp, Nat.add_zero, Nat.mul_add_mod, Nat.mod_mod]

end Sys2Proof.Machine
end

