-- ==== Sys2Proof/Laws/Notices.lean ====
section
/-! SUPPORT. The awaiting list of the fault unit at an occurrence (R196). -/

namespace Sys2Proof.Machine

/-- An occurrence settled by a mute station changes nothing (R14). -/
theorem settleNotice_mute (o : Occ) (s : State) (h : s.station.mute = true) : settleNotice o s = s := by simp [settleNotice, h]

/-- Raising an entry keeps kinds and channels, and the order. -/
theorem raiseAwaiting_names (o : Occ) (l : List Occ) :
    (raiseAwaiting o l).map (fun x => (x.kind, x.chan)) = l.map fun x => (x.kind, x.chan) := by
  simp only [raiseAwaiting, List.map_map]
  congr 1
  funext x
  simp only [Function.comp_apply]
  split <;> rfl

/-- An entry of another kind or channel stays as it is. -/
theorem raiseAwaiting_other (o : Occ) (l : List Occ) (h : ∀ x ∈ l, x.sameAs o = false) : raiseAwaiting o l = l := by
  rw [raiseAwaiting, List.map_congr_left (g := id) (fun x hx => by simp [h x hx]), List.map_id]

/-- The awaiting list with an occurrence added: its entry raised in place, or the occurrence at the end. -/
theorem addAwaiting_cases (o : Occ) (l : List Occ) :
    (addAwaiting o l = raiseAwaiting o l ∧ ∃ x ∈ l, x.sameAs o = true) ∨
    (addAwaiting o l = l ++ [o] ∧ ∀ x ∈ l, x.sameAs o = false) := by
  unfold addAwaiting
  cases h : l.any fun x => x.sameAs o
  · exact .inr ⟨rfl, by simpa using h⟩
  · exact .inl ⟨rfl, by simpa using h⟩

end Sys2Proof.Machine
end

