-- ==== Sys2Proof/Laws/Peers.lean ====
section
/-! SUPPORT. The laws of the peer table's operations (chapter 4): what an insertion, a removal, a change in place and a choice of an
entry come to. -/

namespace Sys2Proof.Machine

/-- An insertion adds the entry and nothing else. -/
@[simp] theorem mem_insertPeer (p q : Peer) (l : List Peer) : q ∈ insertPeer p l ↔ q = p ∨ q ∈ l := by
  induction l with
  | nil => simp [insertPeer]
  | cons r l ih =>
    simp only [insertPeer]
    split
    · simp
    · simp only [List.mem_cons, ih]; tauto

@[simp] theorem length_insertPeer (p : Peer) (l : List Peer) : (insertPeer p l).length = l.length + 1 := by
  induction l with
  | nil => rfl
  | cons r l ih =>
    simp only [insertPeer]
    split <;> simp_all

@[simp] theorem mem_removePeer (id : Nat) (q : Peer) (l : List Peer) : q ∈ removePeer id l ↔ q ∈ l ∧ q.id ≠ id := by
  simp [removePeer]

@[simp] theorem length_modPeer (id : Nat) (f : Peer → Peer) (l : List Peer) : (modPeer id f l).length = l.length := by
  simp [modPeer]

/-- Table order is transitive. -/
theorem Peer.before_trans {a b c : Peer} (h : a.before b = true) (g : b.before c = true) : a.before c = true := by
  simp only [Peer.before, decide_eq_true_eq] at *
  omega

/-- Of two entries with different ids one is before the other. -/
theorem Peer.before_total {a b : Peer} (h : a.id ≠ b.id) (g : a.before b = false) : b.before a = true := by
  simp only [Peer.before, decide_eq_true_eq, decide_eq_false_iff_not] at *
  omega

/-- R69: an insertion of an id that has no entry keeps the table in order. -/
theorem insertPeer_sorted (p : Peer) {l : List Peer} (hl : l.Pairwise fun a b => a.before b = true) (hp : ∀ q ∈ l, q.id ≠ p.id) :
    (insertPeer p l).Pairwise fun a b => a.before b = true := by
  induction l with
  | nil => simp [insertPeer]
  | cons r l ih =>
    obtain ⟨h1, h2⟩ := List.pairwise_cons.1 hl
    simp only [insertPeer]
    split
    · rename_i hb
      refine List.pairwise_cons.2 ⟨?_, hl⟩
      intro q hq
      rcases List.mem_cons.1 hq with rfl | hq
      · exact hb
      · exact Peer.before_trans hb (h1 q hq)
    · rename_i hb
      refine List.pairwise_cons.2 ⟨?_, ih h2 fun q hq => hp q (List.mem_cons_of_mem r hq)⟩
      intro q hq
      rcases (mem_insertPeer p q l).1 hq with rfl | hq
      · exact Peer.before_total (fun e => hp r (List.mem_cons_self ..) e.symm) (by simpa using hb)
      · exact h1 q hq

/-- An insertion of an id that has no entry keeps the ids distinct. -/
theorem insertPeer_distinct (p : Peer) {l : List Peer} (hl : l.Pairwise fun a b => a.id ≠ b.id) (hp : ∀ q ∈ l, q.id ≠ p.id) :
    (insertPeer p l).Pairwise fun a b => a.id ≠ b.id := by
  induction l with
  | nil => simp [insertPeer]
  | cons r l ih =>
    obtain ⟨h1, h2⟩ := List.pairwise_cons.1 hl
    simp only [insertPeer]
    split
    · exact List.pairwise_cons.2 ⟨fun q hq => (hp q hq).symm, hl⟩
    · refine List.pairwise_cons.2 ⟨?_, ih h2 fun q hq => hp q (List.mem_cons_of_mem r hq)⟩
      intro q hq
      rcases (mem_insertPeer p q l).1 hq with rfl | hq
      · exact hp r (List.mem_cons_self ..)
      · exact h1 q hq

/-- A change in place that keeps position and id keeps the order. -/
theorem modPeer_sorted {id : Nat} {f : Peer → Peer} {l : List Peer}
    (hf : ∀ p ∈ l, p.id = id → (f p).position = p.position ∧ (f p).id = p.id) (hl : l.Pairwise fun a b => a.before b = true) :
    (modPeer id f l).Pairwise fun a b => a.before b = true := by
  unfold modPeer
  rw [List.pairwise_map]
  refine hl.imp_of_mem ?_
  intro a b ha hb hab
  have key : ∀ p ∈ l, (if p.id = id then f p else p).position = p.position ∧ (if p.id = id then f p else p).id = p.id := by
    intro p hp
    split
    · exact hf p hp ‹_›
    · exact ⟨rfl, rfl⟩
  simp only [Peer.before, (key a ha).1, (key a ha).2, (key b hb).1, (key b hb).2] at hab ⊢
  exact hab

/-- A choice of an entry: nothing of nothing. -/
theorem pickPeer_none {better : Peer → Peer → Bool} {l : List Peer} : pickPeer better l = none ↔ l = [] := by
  cases l with
  | nil => simp [pickPeer]
  | cons p ps =>
    simp only [pickPeer]
    split <;> simp
    split <;> simp

/-- A choice of an entry takes one of the list. -/
theorem pickPeer_mem {better : Peer → Peer → Bool} {l : List Peer} {p : Peer} (h : pickPeer better l = some p) : p ∈ l := by
  induction l generalizing p with
  | nil => simp [pickPeer] at h
  | cons q qs ih =>
    simp only [pickPeer] at h
    split at h
    · simp_all
    · rename_i r hr
      split at h
      · cases h; exact List.mem_cons_of_mem _ (ih hr)
      · cases h; exact List.mem_cons_self ..

/-- No entry of the list is better than the one that a choice takes, where "not better" is transitive. -/
theorem pickPeer_best {better : Peer → Peer → Bool} (hasym : ∀ a b, better a b = true → better b a = false)
    (htr : ∀ a b c, better a b = false → better b c = false → better a c = false) {l : List Peer} {p : Peer}
    (h : pickPeer better l = some p) : ∀ q ∈ l, better q p = false := by
  have hirr : ∀ a, better a a = false := by
    intro a
    cases h : better a a with
    | false => rfl
    | true => exact absurd (hasym a a h) (by simp [h])
  induction l generalizing p with
  | nil => simp [pickPeer] at h
  | cons x xs ih =>
    simp only [pickPeer] at h
    split at h
    · rename_i hn
      cases h
      have he : xs = [] := pickPeer_none.1 hn
      subst he
      intro q hq
      rcases List.mem_singleton.1 hq with rfl
      exact hirr q
    · rename_i r hr
      split at h
      · rename_i hb
        cases h
        intro q hq
        rcases List.mem_cons.1 hq with rfl | hq
        · exact hasym _ _ hb
        · exact ih hr q hq
      · rename_i hb
        cases h
        intro q hq
        rcases List.mem_cons.1 hq with rfl | hq
        · exact hirr q
        · exact htr q r _ (ih hr q hq) (by simpa using hb)

end Sys2Proof.Machine
end

