-- ==== Sys2Proof/Laws/PerInstr.lean ====
section
/-! SUPPORT. Statements about every command as syntax, one lemma for each constructor. WaveBrought: a well-formed command that the
line brings carries at least one sample, the one at which its event falls (R20). -/

namespace Sys2Proof.Laws

/-- The samples that a command brings, for a command of the line. -/
def waveOf : Instr → Option (List Bool)
  | .powerOn => none
  | .configReadComplete _ _ => none
  | .configPortRefusal _ => none
  | .configReadTimeout => none
  | .listenIntervalExpiry => none
  | .isolationTimeoutExpiry => none
  | .lineIdle e => some e.wave
  | .frameStart e => some e.wave
  | .frameC0Check _ wave => some wave
  | .framePrefilter _ wave1 wave2 => some (wave1 ++ wave2)
  | .framingError _ wave s9 s10 => some (wave ++ [s9, s10])
  | .frameBadCrc _ wave => some wave
  | .completedFrameLost _ wave => some wave
  | .report _ wave => some wave
  | .faultNotice _ wave => some wave
  | .answer _ wave => some wave
  | .shortRequestDiscard _ wave => some wave
  | .badRequestCode _ wave => some wave
  | .setPoint _ wave => some wave
  | .hold _ wave => some wave
  | .release _ wave => some wave
  | .resetTrip _ _ wave => some wave
  | .leakTest _ wave => some wave
  | .measure _ wave => some wave
  | .reslot _ wave => some wave
  | .stopStation _ wave => some wave
  | .restart _ wave => some wave
  | .faultPop _ wave => some wave
  | .readChannel _ wave => some wave
  | .readStation _ wave => some wave
  | .readHalt _ wave => some wave
  | .readPeer _ wave => some wave
  | .readFaultHead _ wave => some wave
  | .readIdent _ wave => some wave
  | .transmitStart _ => none
  | .arbitrationLost _ _ => none
  | .bitError _ _ _ => none
  | .transmitComplete _ _ => none
  | .reportTimerExpiry => none
  | .staleExpiry _ => none
  | .lostExpiry _ => none
  | .removalExpiry _ => none
  | .flowInputChange _ _ => none
  | .flowDebounceExpiry => none
  | .roundTimerExpiry => none
  | .conversionEnd _ => none
  | .roundComplete _ => none
  | .temperatureAgeExpiry _ => none
  | .halfCycleMidpoint _ => none
  | .checkRequestTimeout _ => none
  | .zeroCrossEdge _ => none
  | .periodEnd _ => none
  | .mainsLost _ => none
  | .slotChoiceIntervalExpiry => none
  | .holdExpiry _ => none
  | .recloseTimerExpiry _ => none
  | .trialTimerExpiry _ => none
  | .cleanPeriodExpiry _ => none
  | .leakageWatchExpiry => none
  | .confirmationCountEnd => none
  | .confirmationTimerExpiry _ => none
  | .skippedFrameEnd e => some e.wave
  | .supplyFailure => none

/-- The wave that a well-formed command brings holds a sample. -/
def WaveBrought.Statement (i : Instr) : Prop := i.wellFormed = true → ∀ w, waveOf i = some w → w ≠ []

theorem sampled_ne_nil {w : List Bool} (h : sampled w = true) : w ≠ [] := by
  rintro rfl
  simp [sampled] at h

theorem endsWith_ne_nil {w : List Bool} {b : Bool} (h : endsWith w b = true) : w ≠ [] := by
  rintro rfl
  simp [endsWith] at h

/-- A command that brings no wave. -/
theorem noWave {i : Instr} (h : waveOf i = none) : WaveBrought.Statement i := by
  intro _ w hw
  rw [h] at hw
  cases hw

/-- A command whose wave its well-formedness reads. -/
theorem readWave {i : Instr} {w : List Bool} (h : waveOf i = some w) (hr : i.wellFormed = true → w ≠ []) : WaveBrought.Statement i := by
  intro hf v hv
  rw [h] at hv
  cases hv
  exact hr hf

theorem WaveBrought.powerOn : WaveBrought.Statement .powerOn := noWave rfl
theorem WaveBrought.configReadComplete (dt : Nat) (bytes : List Byte) : WaveBrought.Statement (.configReadComplete dt bytes) := noWave rfl
theorem WaveBrought.configPortRefusal (dt : Nat) : WaveBrought.Statement (.configPortRefusal dt) := noWave rfl
theorem WaveBrought.configReadTimeout : WaveBrought.Statement .configReadTimeout := noWave rfl
theorem WaveBrought.listenIntervalExpiry : WaveBrought.Statement .listenIntervalExpiry := noWave rfl
theorem WaveBrought.isolationTimeoutExpiry : WaveBrought.Statement .isolationTimeoutExpiry := noWave rfl
theorem WaveBrought.lineIdle (e : LineIn) : WaveBrought.Statement (.lineIdle e) := readWave rfl endsWith_ne_nil
theorem WaveBrought.frameStart (e : LineIn) : WaveBrought.Statement (.frameStart e) := readWave rfl endsWith_ne_nil
theorem WaveBrought.frameC0Check (dt : Nat) (wave : List Bool) : WaveBrought.Statement (.frameC0Check dt wave) := readWave rfl sampled_ne_nil
theorem WaveBrought.framePrefilter (dt : Nat) (wave1 wave2 : List Bool) : WaveBrought.Statement (.framePrefilter dt wave1 wave2) := readWave rfl fun h => by
  simp only [Instr.wellFormed, Bool.and_eq_true] at h
  simp [sampled_ne_nil h.1]
theorem WaveBrought.framingError (dt : Nat) (wave : List Bool) (s9 s10 : Bool) : WaveBrought.Statement (.framingError dt wave s9 s10) := readWave rfl fun _ => by simp
theorem WaveBrought.frameBadCrc (dt : Nat) (wave : List Bool) : WaveBrought.Statement (.frameBadCrc dt wave) := readWave rfl sampled_ne_nil
theorem WaveBrought.completedFrameLost (dt : Nat) (wave : List Bool) : WaveBrought.Statement (.completedFrameLost dt wave) := readWave rfl sampled_ne_nil
theorem WaveBrought.report (dt : Nat) (wave : List Bool) : WaveBrought.Statement (.report dt wave) := readWave rfl sampled_ne_nil
theorem WaveBrought.faultNotice (dt : Nat) (wave : List Bool) : WaveBrought.Statement (.faultNotice dt wave) := readWave rfl sampled_ne_nil
theorem WaveBrought.answer (dt : Nat) (wave : List Bool) : WaveBrought.Statement (.answer dt wave) := readWave rfl sampled_ne_nil
theorem WaveBrought.shortRequestDiscard (dt : Nat) (wave : List Bool) : WaveBrought.Statement (.shortRequestDiscard dt wave) := readWave rfl sampled_ne_nil
theorem WaveBrought.badRequestCode (dt : Nat) (wave : List Bool) : WaveBrought.Statement (.badRequestCode dt wave) := readWave rfl sampled_ne_nil
theorem WaveBrought.setPoint (dt : Nat) (wave : List Bool) : WaveBrought.Statement (.setPoint dt wave) := readWave rfl sampled_ne_nil
theorem WaveBrought.hold (dt : Nat) (wave : List Bool) : WaveBrought.Statement (.hold dt wave) := readWave rfl sampled_ne_nil
theorem WaveBrought.release (dt : Nat) (wave : List Bool) : WaveBrought.Statement (.release dt wave) := readWave rfl sampled_ne_nil
theorem WaveBrought.resetTrip (dt residual : Nat) (wave : List Bool) : WaveBrought.Statement (.resetTrip dt residual wave) := readWave rfl sampled_ne_nil
theorem WaveBrought.leakTest (dt : Nat) (wave : List Bool) : WaveBrought.Statement (.leakTest dt wave) := readWave rfl sampled_ne_nil
theorem WaveBrought.measure (dt : Nat) (wave : List Bool) : WaveBrought.Statement (.measure dt wave) := readWave rfl sampled_ne_nil
theorem WaveBrought.reslot (dt : Nat) (wave : List Bool) : WaveBrought.Statement (.reslot dt wave) := readWave rfl sampled_ne_nil
theorem WaveBrought.stopStation (dt : Nat) (wave : List Bool) : WaveBrought.Statement (.stopStation dt wave) := readWave rfl sampled_ne_nil
theorem WaveBrought.restart (dt : Nat) (wave : List Bool) : WaveBrought.Statement (.restart dt wave) := readWave rfl sampled_ne_nil
theorem WaveBrought.faultPop (dt : Nat) (wave : List Bool) : WaveBrought.Statement (.faultPop dt wave) := readWave rfl sampled_ne_nil
theorem WaveBrought.readChannel (dt : Nat) (wave : List Bool) : WaveBrought.Statement (.readChannel dt wave) := readWave rfl sampled_ne_nil
theorem WaveBrought.readStation (dt : Nat) (wave : List Bool) : WaveBrought.Statement (.readStation dt wave) := readWave rfl sampled_ne_nil
theorem WaveBrought.readHalt (dt : Nat) (wave : List Bool) : WaveBrought.Statement (.readHalt dt wave) := readWave rfl sampled_ne_nil
theorem WaveBrought.readPeer (dt : Nat) (wave : List Bool) : WaveBrought.Statement (.readPeer dt wave) := readWave rfl sampled_ne_nil
theorem WaveBrought.readFaultHead (dt : Nat) (wave : List Bool) : WaveBrought.Statement (.readFaultHead dt wave) := readWave rfl sampled_ne_nil
theorem WaveBrought.readIdent (dt : Nat) (wave : List Bool) : WaveBrought.Statement (.readIdent dt wave) := readWave rfl sampled_ne_nil
theorem WaveBrought.transmitStart (dt : Nat) : WaveBrought.Statement (.transmitStart dt) := noWave rfl
theorem WaveBrought.arbitrationLost (dt : Nat) (bit : Nat) : WaveBrought.Statement (.arbitrationLost dt bit) := noWave rfl
theorem WaveBrought.bitError (dt : Nat) (bit : Nat) (dominant : Bool) : WaveBrought.Statement (.bitError dt bit dominant) := noWave rfl
theorem WaveBrought.transmitComplete (dt residual : Nat) : WaveBrought.Statement (.transmitComplete dt residual) := noWave rfl
theorem WaveBrought.reportTimerExpiry : WaveBrought.Statement .reportTimerExpiry := noWave rfl
theorem WaveBrought.staleExpiry (id : Nat) : WaveBrought.Statement (.staleExpiry id) := noWave rfl
theorem WaveBrought.lostExpiry (id : Nat) : WaveBrought.Statement (.lostExpiry id) := noWave rfl
theorem WaveBrought.removalExpiry (id : Nat) : WaveBrought.Statement (.removalExpiry id) := noWave rfl
theorem WaveBrought.flowInputChange (dt : Nat) (low : Bool) : WaveBrought.Statement (.flowInputChange dt low) := noWave rfl
theorem WaveBrought.flowDebounceExpiry : WaveBrought.Statement .flowDebounceExpiry := noWave rfl
theorem WaveBrought.roundTimerExpiry : WaveBrought.Statement .roundTimerExpiry := noWave rfl
theorem WaveBrought.conversionEnd (raw : Word16) : WaveBrought.Statement (.conversionEnd raw) := noWave rfl
theorem WaveBrought.roundComplete (raw : Word16) : WaveBrought.Statement (.roundComplete raw) := noWave rfl
theorem WaveBrought.temperatureAgeExpiry (sensor : Sensor) : WaveBrought.Statement (.temperatureAgeExpiry sensor) := noWave rfl
theorem WaveBrought.halfCycleMidpoint (residual : Nat) : WaveBrought.Statement (.halfCycleMidpoint residual) := noWave rfl
theorem WaveBrought.checkRequestTimeout (c : Chan) : WaveBrought.Statement (.checkRequestTimeout c) := noWave rfl
theorem WaveBrought.zeroCrossEdge (e : EdgeIn) : WaveBrought.Statement (.zeroCrossEdge e) := noWave rfl
theorem WaveBrought.periodEnd (e : EdgeIn) : WaveBrought.Statement (.periodEnd e) := noWave rfl
theorem WaveBrought.mainsLost (residual : Nat) : WaveBrought.Statement (.mainsLost residual) := noWave rfl
theorem WaveBrought.slotChoiceIntervalExpiry : WaveBrought.Statement .slotChoiceIntervalExpiry := noWave rfl
theorem WaveBrought.holdExpiry (c : Chan) : WaveBrought.Statement (.holdExpiry c) := noWave rfl
theorem WaveBrought.recloseTimerExpiry (c : Chan) : WaveBrought.Statement (.recloseTimerExpiry c) := noWave rfl
theorem WaveBrought.trialTimerExpiry (c : Chan) : WaveBrought.Statement (.trialTimerExpiry c) := noWave rfl
theorem WaveBrought.cleanPeriodExpiry (c : Chan) : WaveBrought.Statement (.cleanPeriodExpiry c) := noWave rfl
theorem WaveBrought.leakageWatchExpiry : WaveBrought.Statement .leakageWatchExpiry := noWave rfl
theorem WaveBrought.confirmationCountEnd : WaveBrought.Statement .confirmationCountEnd := noWave rfl
theorem WaveBrought.confirmationTimerExpiry (residual : Nat) : WaveBrought.Statement (.confirmationTimerExpiry residual) := noWave rfl
theorem WaveBrought.skippedFrameEnd (e : LineIn) : WaveBrought.Statement (.skippedFrameEnd e) := readWave rfl sampled_ne_nil
theorem WaveBrought.supplyFailure : WaveBrought.Statement .supplyFailure := noWave rfl

end Sys2Proof.Laws
end

