-- ==== Sys2Proof/Laws/Sampling.lean ====
section
/-! SUPPORT. What the samples of the line can change: one lemma for one character, one sample and a wave, each naming everything it
does; the idle count; and the bit times of the three rates. -/

namespace Sys2Proof.Machine

/-- A character taken: stored and counted in ASSEMBLE, counted in SKIP, else nothing. -/
theorem Line.takeChar_cases (l : Line) (c : Byte) :
    (l.takeChar c = l ∧ (l.left = 0 ∨ l.rx = .awaitIdle ∨ l.rx = .ready)) ∨
    (l.left ≠ 0 ∧ l.rx = .assemble ∧ l.takeChar c = { l with asm := l.asm ++ [c], left := l.left - 1 }) ∨
    (l.left ≠ 0 ∧ l.rx = .skip ∧ l.takeChar c = { l with left := l.left - 1 }) := by
  unfold Line.takeChar
  by_cases h : l.left = 0
  · simp [h]
  · cases hr : l.rx <;> simp [h]

/-- A sample changes the sampler, and with a character what that takes; nothing else. -/
theorem Line.sample_eq (l : Line) (b : Bool) :
    ∃ asm left, l.sample b = { l with sampler := l.sampler.take b, asm := asm, left := left } := by
  unfold Line.sample
  split
  · rename_i c _
    rcases Line.takeChar_cases { l with sampler := l.sampler.take b } c with ⟨h, -⟩ | ⟨-, -, h⟩ | ⟨-, -, h⟩ <;>
      exact ⟨_, _, h⟩
  all_goals exact ⟨l.asm, l.left, rfl⟩

@[simp] theorem Line.hear_nil (l : Line) : l.hear [] = l := rfl

@[simp] theorem Line.hear_cons (l : Line) (b : Bool) (w : List Bool) : l.hear (b :: w) = (l.sample b).hear w := rfl

theorem Line.hear_append (l : Line) (v w : List Bool) : l.hear (v ++ w) = (l.hear v).hear w := List.foldl_append

/-- The sampler after a wave. -/
theorem Line.hear_sampler (l : Line) (w : List Bool) : (l.hear w).sampler = w.foldl Sampler.take l.sampler := by
  induction w generalizing l with
  | nil => rfl
  | cons b w ih =>
    obtain ⟨asm, left, h⟩ := l.sample_eq b
    rw [Line.hear_cons, ih, h]
    rfl

/-- A wave changes the sampler, the assembly and the characters still to come; nothing else. -/
theorem Line.hear_eq (l : Line) (w : List Bool) :
    ∃ asm left, l.hear w = { l with sampler := (l.hear w).sampler, asm := asm, left := left } := by
  induction w generalizing l with
  | nil => exact ⟨l.asm, l.left, rfl⟩
  | cons b w ih =>
    obtain ⟨asm, left, h⟩ := l.sample_eq b
    obtain ⟨asm', left', h'⟩ := ih (l.sample b)
    refine ⟨asm', left', ?_⟩
    rw [Line.hear_cons, h', h]

@[simp] theorem Line.hear_rx (l : Line) (w : List Bool) : (l.hear w).rx = l.rx := by obtain ⟨_, _, h⟩ := l.hear_eq w; rw [h]
@[simp] theorem Line.hear_stamp (l : Line) (w : List Bool) : (l.hear w).stamp = l.stamp := by obtain ⟨_, _, h⟩ := l.hear_eq w; rw [h]
@[simp] theorem Line.hear_slot (l : Line) (w : List Bool) : (l.hear w).slot = l.slot := by obtain ⟨_, _, h⟩ := l.hear_eq w; rw [h]
@[simp] theorem Line.hear_queue (l : Line) (w : List Bool) : (l.hear w).queue = l.queue := by obtain ⟨_, _, h⟩ := l.hear_eq w; rw [h]
@[simp] theorem Line.hear_hold (l : Line) (w : List Bool) : (l.hear w).hold = l.hold := by obtain ⟨_, _, h⟩ := l.hear_eq w; rw [h]
@[simp] theorem Line.hear_tx (l : Line) (w : List Bool) : (l.hear w).tx = l.tx := by obtain ⟨_, _, h⟩ := l.hear_eq w; rw [h]
@[simp] theorem Line.hear_busy (l : Line) (w : List Bool) : (l.hear w).busy = l.busy := by simp [Line.busy]
@[simp] theorem Line.hear_txChars (l : Line) (w : List Bool) : (l.hear w).txChars = l.txChars := by
  obtain ⟨_, _, h⟩ := l.hear_eq w; rw [h]
@[simp] theorem Line.hear_lineErr (l : Line) (w : List Bool) : (l.hear w).lineErr = l.lineErr := by
  obtain ⟨_, _, h⟩ := l.hear_eq w; rw [h]
@[simp] theorem Line.hear_overrun (l : Line) (w : List Bool) : (l.hear w).overrun = l.overrun := by
  obtain ⟨_, _, h⟩ := l.hear_eq w; rw [h]
@[simp] theorem Line.hear_reportTimer (l : Line) (w : List Bool) : (l.hear w).reportTimer = l.reportTimer := by
  obtain ⟨_, _, h⟩ := l.hear_eq w; rw [h]

/-- In AWAIT_IDLE and READY a wave changes the sampler alone. -/
theorem Line.hear_unassembled {l : Line} (h : l.rx = .awaitIdle ∨ l.rx = .ready) (w : List Bool) :
    l.hear w = { l with sampler := (l.hear w).sampler } := by
  induction w generalizing l with
  | nil => rfl
  | cons b w ih =>
    have hs : l.sample b = { l with sampler := l.sampler.take b } := by
      unfold Line.sample
      split
      · rename_i c _
        rcases Line.takeChar_cases { l with sampler := l.sampler.take b } c with ⟨g, -⟩ | ⟨-, g, -⟩ | ⟨-, g, -⟩
        · exact g
        all_goals exact absurd (g : l.rx = _) (by rcases h with h | h <;> simp [h])
      all_goals rfl
    rw [Line.hear_cons, ih (by rw [hs]; exact h), hs]

/-- The idle count never passes 192. -/
theorem Sampler.take_idle (x : Sampler) (b : Bool) : (x.take b).idle = if b then 0 else min (x.idle + 1) 192 := by
  have h : (x.take b).idle = idleAfter x.idle b := by
    unfold Sampler.take
    (repeat' split) <;> rfl
  rw [h]
  rfl

/-- Three recessive samples end whatever kept a start from being seen: the idle count is 3 or more. -/
theorem Sampler.take_three (x : Sampler) : 3 ≤ (((x.take false).take false).take false).idle := by
  simp only [Sampler.take_idle]
  simp

/-- The comparator does not read the time or the line. -/
@[simp] theorem State.hear_comparator (s : State) (dt : Nat) (wave : List Bool) : (s.hear dt wave).comparator = s.comparator := rfl

@[simp] theorem State.hear_active (s : State) (dt : Nat) (wave : List Bool) : (s.hear dt wave).active = s.active := rfl

end Sys2Proof.Machine
end

