-- ==== Sys2Proof/Tests/Slice0.lean ====
section
/-! SUPPORT. The row's own tests. Expected values come from the worked examples of the spec's chapters, named at each test. The
theorems whose names begin with witness show, for each statement with hypotheses, a concrete state and operands that meet them. -/

namespace Sys2Proof.Tests

open Sys2Proof.Machine

/-! ## Ill-formed commands are refused -/

/-- R4: other than 98 bytes. -/
theorem test_wellFormed_image :
    (Instr.configReadComplete 0 (List.replicate 97 0#8)).wellFormed = false ∧
    (Instr.configReadComplete 0 (List.replicate 98 0#8)).wellFormed = true := by decide

/-- Every command that is the end of a frame, with its samples. -/
def frameCommands (w : List Bool) : List Instr :=
  [.frameBadCrc 0 w, .completedFrameLost 0 w, .report 0 w, .faultNotice 0 w, .answer 0 w, .shortRequestDiscard 0 w,
    .badRequestCode 0 w, .setPoint 0 w, .hold 0 w, .release 0 w, .resetTrip 0 0 w, .leakTest 0 w, .measure 0 w, .reslot 0 w,
    .stopStation 0 w, .restart 0 w, .faultPop 0 w, .readChannel 0 w, .readStation 0 w, .readHalt 0 w, .readPeer 0 w,
    .readFaultHead 0 w, .readIdent 0 w, .skippedFrameEnd ⟨0, w⟩, .frameC0Check 0 w, .framePrefilter 0 [true] w,
    .framePrefilter 0 w [true], .framingError 0 w true true]

/-- An event of the line without a sample; a start whose last sample is recessive and an idle line whose last sample is dominant. -/
theorem test_wellFormed_wave :
    (frameCommands []).all (fun c => !c.wellFormed) = true ∧ (frameCommands [false]).all Instr.wellFormed = true ∧
    (Instr.frameStart ⟨0, [true, false]⟩).wellFormed = false ∧ (Instr.frameStart ⟨0, [false, true]⟩).wellFormed = true ∧
    (Instr.lineIdle ⟨0, [false, true]⟩).wellFormed = false ∧ (Instr.lineIdle ⟨0, [true, false]⟩).wellFormed = true := by decide

/-- R30, R31: a bit beyond C1, a bit beyond the longest frame. -/
theorem test_wellFormed_bit :
    (Instr.arbitrationLost 0 20).wellFormed = false ∧ (Instr.bitError 0 170 true).wellFormed = false ∧
    (Instr.arbitrationLost 0 19).wellFormed = true ∧ (Instr.bitError 0 169 true).wellFormed = true := by decide

/-- R68: an id that no entry has. -/
theorem test_wellFormed_id :
    [Instr.staleExpiry 0, .staleExpiry 240, .lostExpiry 0, .lostExpiry 240, .removalExpiry 0, .removalExpiry 240].all
      (fun c => !c.wellFormed) = true ∧
    [Instr.staleExpiry 1, .lostExpiry 239, .removalExpiry 37].all Instr.wellFormed = true := by decide

/-! ## Worked examples of the spec -/

/-- R25: the check values. -/
theorem test_crc : crc16 [] = 0xFFFF#16 ∧ crc16 [0x00#8] = 0xE1F0#16 ∧
    crc16 [0x31#8, 0x32#8, 0x33#8, 0x34#8, 0x35#8, 0x36#8, 0x37#8, 0x38#8, 0x39#8] = 0x29B1#16 := by decide +kernel

/-- A working store for the tests. -/
def img : Image where
  id := 37
  feeder := 2
  position := 1800
  nf := 4
  weight := 4
  bitRate := 2
  enables := .const true
  mains60 := false
  flowEnabled := true
  cf := 1600
  margin := 4
  rInt := 2
  listen := 10
  holdMax := 120
  leakCode := 0
  cmdLo := 200
  cmdHi := 209
  winLo := ⟨10, 30, 50, 255⟩
  winHi := ⟨20, 40, 60, 0⟩
  tLow := 0
  tHigh := 1200
  tMax := 1600
  tAlarm := 100
  tAmbSwitch := 0
  coldBand := 100
  rampStep := 10
  subMargin := 20
  kp := 40
  ki := 8
  kf := 16
  dCold := 512
  dMild := 256
  iNom := ⟨250, 160, 200, 180⟩
  setpoints := .const 650
  trims := ⟨-17, 0, 0, 0⟩
  trimAmb := 0

/-- A station RUNNING with that store, 100 s after power-on, every block otherwise at its power-on values. -/
def base : State :=
  { State.reset with
    now := 100000000
    loader := ⟨.passed, false, 0x1234#16, img, none⟩
    station := ⟨.running, false, none, none, 0⟩
    chans := img.setpoints.map .powerOn
    meas := .powerOn img.iNom }

/-- The same station in another state. -/
def inState (st : StationState) (p : ProcState) : State :=
  { base with station := { base.station with state := st }, halt := { base.halt with proc := p } }

/-- R211: the REPORT of chapter 11's example, position 1800 on feeder 4 of weight 2. -/
theorem test_report_payload :
    reportPayload { img with position := 1800, feeder := 4, weight := 2 }
      ⟨.running, .flowing, false, 0, 3, 642, 543, some 602, some 655⟩ 17 false false =
    [0x70#8, 0x88#8, 0x4A#8, 0x06#8, 0x89#8, 0x41#8, 0x10#8, 0xF9#8, 0x2D#8, 0x14#8, 0x78#8, 0x00#8] := by decide

/-- R211: the FAULT_NOTICE of chapter 11's example, SWITCH_STUCK on channel 1. -/
theorem test_notice_payload :
    noticePayload ⟨⟨.switchStuck, some .c1, .halt⟩, .running, 318, 318⟩ = [0x11#8, 0xFA#8, 0x13#8, 0xE1#8, 0x3E#8] := by decide

/-- R209: the first three characters of the two frames. -/
theorem test_first_characters :
    (frameChars 6 50 255#8 (List.replicate 12 0#8)).take 3 = [0x6C#8, 0x32#8, 0xFF#8] ∧
    (frameChars 1 44 255#8 (List.replicate 5 0#8)).take 3 = [0x15#8, 0x2C#8, 0xFF#8] := by decide

/-- R92: the example's span 8200..12400 and trim -17. -/
theorem test_temperature :
    temperature 8200 12400 10800 (-17) = 602 ∧ temperature 8200 12400 7900 (-17) = -89 ∧ temperature 8200 12400 5000 (-17) = -779 := by
  decide

/-- R114: firing counts and remainders from remainder 0. -/
theorem test_firing : firing 0 659 = (41, 3) ∧ firing 0 591 = (36, 15) ∧ firing 0 433 = (27, 1) ∧ firing 0 866 = (54, 2) ∧
    firing 0 1024 = (64, 0) := by decide

/-- R116: the windows of slot 3. -/
theorem test_windows : Chan.list.map (windowStart 3) = [24, 40, 56, 8] := by decide

/-- R157: d 1024 at k 866. -/
theorem test_scaled : scaled 1024 866 = 866 := by decide

/-- An entry of the own feeder. -/
def peer (id position slot q : Nat) : Peer where
  id := id
  feeder := 2
  position := position
  weight := 2
  state := .running
  flow := .flowing
  ownInput := true
  level := 0
  slot := slot
  q := q
  a := q
  entry := some 602
  exit := some 655
  delta := some 10
  age := .fresh
  last := 99000000

/-- R122: station 37 among peers with slot 0 at 300, slot 1 at 250 and slot 3 at 180 chooses slot 5. -/
theorem test_slot_choice :
    chooseSlot { base with peers := { base.peers with entries := [peer 1 100 0 300, peer 2 200 1 250, peer 3 300 3 180] } } = 5 := by
  decide

/-- R119: the greatest difference in 2..31 shortens the period by at most 4. -/
theorem test_alignment :
    alignedLength img [peer 1 100 0 300] = 60 ∧ alignedLength img [{ peer 1 100 0 300 with delta := some 3 }] = 61 ∧
    alignedLength img [{ peer 1 100 0 300 with delta := some 1 }] = 64 ∧
    alignedLength img [{ peer 1 100 0 300 with delta := some 32 }] = 64 := by decide

/-- With no command waiting the block idles (log 1). -/
theorem test_step_idles : step base = .next base := rfl

/-- No row of the table has bits: no word spells a command, and none is put in the queue (log 29). -/
theorem test_no_word : decodeTableWord 8 5 = none ∧ base.withFetchWord 8 5 = base := ⟨rfl, rfl⟩

/-! ## Witnesses: the machine, supply and configuration, station timers -/

theorem witness_StepRunsFrontCommand : ({ base with pending := [.reportTimerExpiry] } : State).pending = .reportTimerExpiry :: [] := rfl

theorem witness_CommandsCompleteAndLeaveTheQueue :
    exec .powerOn base = .next (powerUp base) ∧ Instr.powerOn.wellFormed = true ∧ ([] : List Byte).length ≠ 98 := by
  exact ⟨rfl, rfl, by decide⟩

/-- A part that is loading. -/
def loading : State := { State.reset with loader := { State.reset.loader with timer := some 250000 } }

/-- The identity fields of `img` but for the id, which is given. -/
def identity (id : Byte) : List Byte := [id, 2#8, 7#8, 8#8, 4#8, 0#8, 2#8, 15#8, 0#8]

/-- An image of 98 bytes: identity fields, the two characters that bring the remainder to 0, and zeros, with which it stays there; so the
stored CRC of 0 is good. Most fields of 0 are below their ranges, so the load clamps them. -/
def image (id : Byte) : List Byte := identity id ++ crcChars (crc16 (identity id)) ++ List.replicate 87 0#8

theorem crc_zeros (n : Nat) : (List.replicate n 0#8).foldl crcStep 0#16 = 0#16 := by
  induction n with
  | zero => rfl
  | succ n ih => rw [List.replicate_succ, List.foldl_cons, show crcStep 0#16 0#8 = 0#16 from by decide, ih]

theorem image_crc (id : Byte) (h : crc16 (identity id ++ crcChars (crc16 (identity id))) = 0#16) : imageCrcGood (image id) = true := by
  have e : (image id).take 96 = (identity id ++ crcChars (crc16 (identity id))) ++ List.replicate 85 0#8 := by
    simp [image, identity, crcChars]
  have z : u16 (image id) 96 = 0 := by simp [u16, charAt, image, identity, crcChars]
  rw [imageCrcGood, e, z, crc16, List.foldl_append, ← crc16, h, crc_zeros]
  rfl

theorem image_crc_good : imageCrcGood (image 37#8) = true ∧ imageCrcGood (image 0#8) = true :=
  ⟨image_crc _ (by decide +kernel), image_crc _ (by decide +kernel)⟩

theorem image_passes : imagePasses (image 37#8) = true ∧ imagePasses (image 0#8) = false := by
  rw [imagePasses, imagePasses, image_crc_good.1, image_crc_good.2]
  decide +kernel

theorem witness_PassedLoadEntersListening : loading.loading = true ∧ loading.station.mute = false ∧ loading.line = .powerOn ∧
    (image 37#8).length = 98 ∧ imagePasses (image 37#8) = true :=
  ⟨rfl, rfl, rfl, rfl, image_passes.1⟩

theorem witness_FailedLoadStaysUnconfigured : loading.loading = true ∧ (image 0#8).length = 98 ∧ imagePasses (image 0#8) = false ∧
    loading.loader.timer = some 250000 :=
  ⟨rfl, rfl, image_passes.2, rfl⟩

/-- Both of R6's outcomes: id 37 is accepted, id 0 refused. -/
theorem witness_IdentityFieldsDecideRefusal : loading.loading = true ∧ (image 37#8).length = 98 ∧ (image 0#8).length = 98 ∧
    imageCrcGood (image 37#8) = true ∧ imageCrcGood (image 0#8) = true ∧
    1 ≤ ((image 37#8).getD 0 0).toNat ∧ ((image 0#8).getD 0 0).toNat < 1 :=
  ⟨rfl, rfl, rfl, image_crc_good.1, image_crc_good.2, by decide, by decide⟩

/-- A station with the isolation timer at its end and the expiry waiting. -/
def timedOut : State :=
  { base with station := { base.station with isolationTimer := some 120000000 }, pending := [.isolationTimeoutExpiry] }

theorem witness_ConfigurationFixedAfterLoad : timedOut.pending = .isolationTimeoutExpiry :: [] ∧
    Instr.isolationTimeoutExpiry ≠ .powerOn ∧ Instr.isolationTimeoutExpiry ≠ .supplyFailure ∧
    timedOut.loader.status = .passed ∧ ∃ t, step timedOut = .next t := by
  exact ⟨rfl, by decide, by decide, rfl, _, rfl⟩

/-- LISTENING with the interval at its end, and with an enabled channel in OFF and one in HOLD. -/
def listening : State :=
  { inState .listening .idle with
    station := { base.station with state := .listening, listenTimer := some 110000000 }
    chans := base.chans.set .c3 { base.chans.get .c3 with state := .hold, holdExpiry := some 200000000 } }

theorem witness_StationTimersEnd :
    (listening.station.state = .listening ∧ listening.station.listenTimer = some 110000000 ∧
      (listening.enabled .c0 = true ∧ (listening.chans.get .c0).state = .off) ∧
      ¬(listening.enabled .c3 = true ∧ (listening.chans.get .c3).state = .off) ∧
      listening.station.mute = false ∧ listening.line.queue = []) ∧
    base.station.state ≠ .listening ∧
    (timedOut.station.state = .running ∧ timedOut.station.isolationTimer = some 120000000 ∧
      timedOut.station.mute = false ∧ timedOut.line.queue = []) := by decide

theorem witness_StationStateFollowsTable : timedOut.pending = .isolationTimeoutExpiry :: [] ∧
    procFollows timedOut.station.state timedOut.halt.proc ∧
    (timedOut.loader.status = .passed ↔ timedOut.station.state ≠ .unconfigured) ∧
    ∃ t, step timedOut = .next t ∧ t.station.state ≠ timedOut.station.state := by
  exact ⟨rfl, by simp [procFollows, timedOut, base, State.reset, Halt.powerOn], by decide, _, rfl, by decide⟩

/-! ## Witnesses: the invariants, on a running station -/

/-- A RUNNING station with channel 0 on, two frames queued, a record in the fault queue and two entries in the peer table. -/
def busy : State :=
  { base with
    burst := { base.burst with period := .running, idx := some 0, contactor := true,
                               chans := base.burst.chans.set .c0 ⟨4, 0, true, none⟩ }
    chans := base.chans.set .c0 { base.chans.get .c0 with state := .regulate, d := 100, ds := 50 }
    line := { base.line with queue := [.answer ⟨200#8, 1#8, .ok, []⟩, .notice ⟨⟨.overtemp, some .c1, .trip⟩, .running, 5, 4⟩] }
    budget := ⟨10, 1500, 10, 5, 512⟩
    peers := { base.peers with entries := [peer 1 100 0 300, peer 2 200 1 250] }
    fault := { base.fault with queue := [⟨.overtemp, some .c1, .trip, 5, 6, 2, none, false⟩] }
    pending := [.reportTimerExpiry] }

theorem busy_steps : ∃ t, step busy = .next t := ⟨_, rfl⟩

theorem witness_OutputsAgreeAfterEveryStep : OutputsAgree busy ∧ ∃ t, step busy = .next t := by
  refine ⟨⟨by decide, ?_, ?_, by decide, ?_⟩, busy_steps⟩
  · simp [procFollows, busy, base, State.reset, Halt.powerOn]
  · intro c; cases c <;> decide
  · intro c k h; cases c <;> cases h

theorem witness_QueuesStayBounded : QueueBounded busy.line ∧ FaultQueueBounded busy.fault.queue ∧ ∃ t, step busy = .next t := by
  exact ⟨⟨by decide, by decide, by decide, by decide⟩, ⟨by decide, by decide, by decide⟩, busy_steps⟩

/-- A mute station at its report timer's end. -/
def mute : State :=
  { base with station := { base.station with mute := true }, line := { base.line with reportTimer := some 101000000 },
              pending := [.reportTimerExpiry] }

theorem witness_MuteStationStaysSilent : MuteSilent mute ∧ mute.station.mute = true ∧ ∃ t, step mute = .next t := by
  exact ⟨⟨by decide, by decide, by decide, by decide, by decide⟩, rfl, _, rfl⟩

theorem busy_peers : PeersOrdered busy := by
  exact ⟨by decide, by decide, by decide, by decide, by decide⟩

theorem witness_PeersOrderedAfterEveryStep : PeersOrdered busy ∧ (busy.loader.status = .passed ↔ busy.active = true) ∧
    ∃ t, step busy = .next t := ⟨busy_peers, by decide, busy_steps⟩

theorem witness_ControlAndShareStayBounded : ShareBounded busy.budget ∧ ControlBounded busy ∧ ∃ t, step busy = .next t := by
  refine ⟨⟨by decide, by decide, by decide, by decide⟩, ⟨by decide, ?_⟩, busy_steps⟩
  intro c
  cases c <;> exact ⟨by decide, by decide, by decide, by decide, by decide, by decide, by decide⟩

/-! ## Witnesses: line controller -/

/-- The receiver in a state. -/
def rxIn (r : RxState) : State := { base with line := { base.line with rx := r } }

/-- A bit time of the line, dominant or recessive. -/
def bitWave (dominant : Bool) : List Bool := List.replicate 16 dominant

/-- A character on the line: start bit, eight data bits with 1 recessive, stop bit (R19). -/
def charWave (x : Byte) : List Bool :=
  (true :: ((List.range 8).map fun i => !x.getLsbD (7 - i)) ++ [false]).flatMap bitWave

/-- A sampler after recessive samples. -/
def quiet (n : Nat) : Sampler := ⟨n, none, .nothing⟩

/-- R20: a character is taken at sample 10 of its stop bit, its most significant bit first; the bits that the model sends are the bits
that it takes. -/
theorem test_character : (((charWave 0xA6#8).take 154).foldl Sampler.take (quiet 192)).heard = .char 0xA6#8 ∧
    (((charWave 0xA6#8).take 153).foldl Sampler.take (quiet 192)).heard = .nothing ∧ (charBits 0xA6#8).flatMap bitWave = charWave 0xA6#8 := by
  decide +kernel

/-- R20, R21: three recessive samples before a start, two too few; a start bit recessive in its middle is false; of samples 8, 9 and 10
two decide; a dominant stop bit is a framing error. -/
theorem test_start_and_stop :
    ((quiet 3).take true).heard = .start ∧ ((quiet 2).take true).heard = .nothing ∧
    ((List.replicate 7 true ++ [false, true, false]).foldl Sampler.take (quiet 192)).char = none ∧
    ((List.replicate 7 true ++ [false, true, true]).foldl Sampler.take (quiet 192)).char ≠ none ∧
    (((bitWave true ++ (charWave 0#8).drop 16).take 144 ++ List.replicate 10 true).foldl Sampler.take (quiet 192)).heard = .framing := by
  decide +kernel

/-- R19, R22: twelve bit times of 1250, 625 and 312.5 µs at the three rates; 192 samples; a dominant sample sets the count to 0. -/
theorem test_bit_rate : bitTimes 1 12 = 1250 ∧ bitTimes 2 12 = 625 ∧ bitTimes 3 12 = 313 ∧
    (((List.replicate 191 false).foldl Sampler.take (quiet 0)).idle = 191 ∧
      ((List.replicate 200 false).foldl Sampler.take (quiet 0)).idle = 192 ∧ ((quiet 100).take true).idle = 0) := by decide +kernel

/-- R106, R214: the thresholds of the three codes. -/
theorem test_leak_threshold : leakThreshold 0 = 30 ∧ leakThreshold 1 = 100 ∧ leakThreshold 2 = 300 := by decide

/-- R30: ARBITRATING for 20 bit times, 1042 µs at 19200 bit/s, then SENDING. -/
theorem test_transmit_state :
    let s := { base with line := { base.line with tx := .driving 99999000 } };
    ({ s with now := 99999000 + 1041 } : State).transmitState = .arbitrating ∧
    ({ s with now := 99999000 + 1042 } : State).transmitState = .sending ∧ base.transmitState = .idle := by decide

/-- A line idle for `n` samples, with the receiver in a state. -/
def idleFor (n : Nat) (r : RxState) : State := { rxIn r with line := { (rxIn r).line with sampler := quiet n } }

/-- A character with the start bit recessive in its middle, one with a dominant stop bit, and a good one; an idle count at 191 and below;
a start in READY and in AWAIT_IDLE; a stop bit after eight data bits. -/
theorem witness_ReceiverFollowsTheLine :
    ((quiet 3).char = none ∧ 3 ≤ (quiet 3).idle ∧ ((charWave 0xA6#8).take 154).length = 154 ∧ ((charWave 0xA6#8).take 154)[0]? = some true) ∧
    (base.active = true ∧ base.line.tx = .idle ∧ (idleFor 191 .ready).active = true ∧ (idleFor 191 .ready).line.tx = .idle) ∧
    (((idleFor 191 .awaitIdle).line.hear [false]).sampler.idle = 192 ∧ (idleFor 191 .awaitIdle).line.rx = .awaitIdle ∧
      (idleFor 191 .ready).line.rx = .ready ∧ (idleFor 191 .assemble).line.rx = .assemble ∧ (idleFor 191 .skip).line.rx = .skip ∧
      ((idleFor 190 .ready).line.hear [false]).sampler.idle ≠ 192) ∧
    (((idleFor 3 .ready).line.hear [true]).sampler.heard = .start ∧ ((idleFor 2 .ready).line.hear [true]).sampler.heard ≠ .start) ∧
    (let s := { rxIn .assemble with line := { (rxIn .assemble).line with sampler := ⟨0, some ⟨151, 0, 5⟩, .nothing⟩ } };
      (s.line.hear ([true] ++ [true, false])).sampler.heard = .framing ∧
        (s.line.hear ([true] ++ [false, false])).sampler.heard ≠ .framing) := by decide +kernel

/-- The last sample of a stop bit that decides it. -/
def lastBit : List Bool := [false]

/-- A frame in assembly whose characters are these; the last one has reached sample 9 of its stop bit. -/
def spelled (chars : List Byte) (s : State) : State :=
  { s with line := { s.line with rx := .assemble, asm := chars.dropLast, left := 1, stamp := some 7,
                                 sampler := ⟨0, some ⟨153, 0, (chars.getLastD 0#8).toNat⟩, .nothing⟩ } }

/-- C0 at the ends of the kept range (6Ch) and beyond it (6Dh, 5Ch); C2 that names the station and one that does not; a sample that ends a
character, in ASSEMBLE and in SKIP. -/
theorem witness_FirstCharactersDecideWhatIsKept :
    (((spelled [0x6C#8] base).line.sampler.take false).heard = .char 0x6C#8 ∧ (spelled [0x6C#8] base).line.left ≠ 0 ∧
      (spelled [0x6C#8] base).line.rx = .assemble ∧ ({ (spelled [0x6C#8] base).line with rx := .skip } : Line).rx = .skip) ∧
    ((spelled [0x6C#8] base).active = true ∧ ((spelled [0x6C#8] base).line.hear lastBit).asm = [0x6C#8] ∧
      ((spelled [0x6C#8] base).line.hear lastBit).left = 0) ∧
    ((0x6C#8).toNat / 16 = 6 ∧ (0x6C#8).toNat % 16 ≤ 12) ∧ ¬((0x6D#8).toNat % 16 ≤ 12) ∧ (0x5C#8).toNat / 16 = 5 ∧
    (let s := spelled [0x33#8, 200#8, 37#8] base;
      s.line.tx = .idle ∧ s.line.rx = .assemble ∧ (s.line.hear ([] ++ lastBit)).asm = [0x33#8, 200#8, 37#8] ∧
        (s.line.hear ([] ++ lastBit)).left = 0) ∧
    (0x33#8).toNat / 16 = 3 ∧ (1 ≤ (37#8).toNat ∧ (37#8).toNat ≤ 239 ∧ (37#8).toNat = base.loader.image.id) ∧
    (240 ≤ (242#8).toNat ∧ (242#8).toNat ≤ 247 ∧ (242#8).toNat - 240 = base.loader.image.feeder) ∧
    (249 = 248 + Chan.c1.num ∧ base.loader.image.winLo.get .c1 ≤ base.loader.image.id ∧
      base.loader.image.id ≤ base.loader.image.winHi.get .c1) ∧
    (38#8).toNat ≠ base.loader.image.id := by decide +kernel

/-- The frame as it completes. -/
def frame (c0 c1 c2 : Byte) (payload : List Byte) : RxFrame := ⟨c0, c1, c2, payload, some 7⟩

/-- Its CRC characters. -/
def crcOf (f : RxFrame) : List Byte := crcChars (crc16 (f.c0 :: f.c1 :: f.c2 :: f.payload))

/-- A station that has received a frame up to its last sample. -/
def hears (f : RxFrame) (s : State) : State := spelled (f.c0 :: f.c1 :: f.c2 :: f.payload ++ crcOf f) s

/-- The slot of a station holds a frame. -/
def withSlot (f : RxFrame) (s : State) : State := { s with line := { s.line with slot := some f } }

/-- The ANSWER of a station to another, and the same with CRC characters of 0. -/
theorem witness_FrameEndsThatReachNoBlock :
    let f := frame 0x22#8 50#8 37#8 [1#8, 2#8]
    Arrives 5 lastBit .badCrc f (spelled [0x22#8, 50#8, 37#8, 1#8, 2#8, 0#8, 0#8] base) ∧
    Arrives 5 lastBit .lost f (hears f (withSlot (frame 0x41#8 200#8 37#8 [0x22#8]) base)) ∧
    Arrives 5 lastBit .answer f (hears f base) ∧
    (let s := { hears f base with line := { (hears f base).line with rx := .skip } };
      s.active = true ∧ s.line.tx = .idle ∧ s.line.rx = .skip ∧ (s.line.hear lastBit).left = 0) := by
  refine ⟨⟨[0#8, 0#8], ?_⟩, ⟨crcOf (frame 0x22#8 50#8 37#8 [1#8, 2#8]), ?_⟩, ⟨crcOf (frame 0x22#8 50#8 37#8 [1#8, 2#8]), ?_⟩, ?_⟩ <;>
    decide +kernel

/-- Every premise of every clause: the two CRC cases, an occupied and a free slot, each kind, a short and a full payload, a code that
names a request and codes that do not. -/
theorem witness_FrameEndIsDecidedByCrcSlotAndKind :
    let f := frame 0x42#8 200#8 37#8 [0x22#8, 1#8]
    ((hears f base).active = true ∧ (hears f base).line.tx = .idle ∧ (hears f base).line.rx = .assemble ∧
      ((hears f base).line.hear lastBit).asm = 0x42#8 :: 200#8 :: 37#8 :: ([0x22#8, 1#8] ++ crcOf f) ∧
      ((hears f base).line.hear lastBit).left = 0 ∧ ([0x22#8, 1#8] ++ crcOf f).length = (0x42#8).toNat % 16 + 2) ∧
    (([0x22#8, 1#8] ++ crcOf f).drop ((0x42#8).toNat % 16) = crcChars (crc16 (0x42#8 :: 200#8 :: 37#8 :: [0x22#8, 1#8])) ∧
      [1#8, 2#8, 0#8, 0#8].drop ((0x42#8).toNat % 16) ≠ crcChars (crc16 (0x42#8 :: 200#8 :: 37#8 :: [1#8, 2#8]))) ∧
    ((withSlot (frame 0x41#8 200#8 37#8 [0x22#8]) base).line.slot ≠ none ∧ base.line.slot = none) ∧
    ((0x6C#8).toNat / 16 = 6 ∧ (0x15#8).toNat / 16 = 1 ∧ (0x22#8).toNat / 16 = 2 ∧ (0x31#8).toNat / 16 = 3 ∧ (0x42#8).toNat / 16 = 4) ∧
    ([0x22#8] : List Byte).length < 2 ∧
    (requestOfCode 0x22 = some .readStation ∧ Request.readStation.kind = 4 ∧ Request.readStation.length = 2) ∧
    requestOfCode 0x33 = none := by decide +kernel

/-- A station whose line is idle, with frames queued. -/
def idleWith (q : List OutFrame) (s : State) : State :=
  { s with line := { s.line with rx := .ready, sampler := { s.line.sampler with idle := 192 }, queue := q } }

/-- REPORT content. -/
def content : ReportContent := ⟨.running, .flowing, true, 0, 3, 642, 543, some 602, some 655⟩

/-- FAULT_NOTICE content, and another of a higher level. -/
def notice : NoticeContent := ⟨⟨.overtemp, some .c1, .trip⟩, .running, 318, 318⟩

def notice2 : NoticeContent := ⟨⟨.switchStuck, some .c1, .halt⟩, .running, 318, 318⟩

/-- An answer. -/
def reply1 : AnswerContent := ⟨200#8, 1#8, .ok, []⟩

theorem witness_TransmissionStartsOnIdleLine :
    (idleWith [.report content] base).active = true ∧ (idleWith [.report content] base).line.rx = .ready ∧
    (idleWith [.report content] base).line.queue = .report content :: [] ∧
    (idleWith [.notice notice] base).line.queue = .notice notice :: [] ∧
    (idleWith [.answer reply1] base).line.queue = .answer reply1 :: [] ∧
    (idleWith [.report content] base).line.tx = .idle ∧ (idleWith [.report content] base).station.mute = false ∧
    (idleWith [.report content] base).line.sampler.idle = 192 ∧ (idleWith [] base).line.queue = [] := by decide

/-- A frame in arbitration with its characters. -/
def sending (q : List OutFrame) (s : State) : State :=
  { s with line := { s.line with tx := .driving 99999000, queue := q, txChars := [0x6C#8, 37#8, 255#8] },
           fault := { s.fault with placed := some .started } }

/-- Report content held. -/
def holding (s : State) : State := { s with line := { s.line with hold := some content } }

/-- A notice pending. -/
def pendingNotice (s : State) : State := { s with fault := { s.fault with pendingNotice := some notice2 } }

theorem sending_bounded (h : OutFrame) : QueueBounded (sending [h] base).line :=
  ⟨Nat.le_of_ble_eq_true rfl, List.length_filter_le _ _, List.length_filter_le _ _, fun _ => List.cons_ne_nil _ _⟩

/-- Bit 1 of C0 6Ch is a recessive data bit; bit 10 is a start bit; bit 22 lies beyond arbitration. -/
theorem witness_LostFrameStaysAtTheHead :
    (QueueBounded (sending [.report content] base).line ∧ QueueBounded (sending [.notice notice] base).line ∧
      QueueBounded (sending [.answer reply1] base).line) ∧
    ((sending [.report content] base).line.tx ≠ .idle ∧ sentBit (sending [.report content] base).line.txChars 2 = false ∧
      (1 ≤ 2 % 10 ∧ 2 % 10 ≤ 8) ∧ (sending [.report content] base).line.discardOnLoss = false ∧
      (sending [.report content] base).station.mute = false) ∧
    ((sending [.report content] base).line.hold = none ∧ (holding (sending [.report content] base)).line.hold = some content ∧
      (sending [.notice notice] base).fault.pendingNotice = none ∧
      (pendingNotice (sending [.notice notice] base)).fault.pendingNotice = some notice2) ∧
    (({ (sending [.report content] base).line with discardOnLoss := true } : Line).discardOnLoss = true ∧
      (sending [.report content] base).cmd.occupied = false) ∧
    ((sending [.report content] base).line.tx ≠ .idle ∧ 10 < (frameBits (sending [.report content] base).line.txChars).length ∧
      sentBit (sending [.report content] base).line.txChars 10 ≠ false ∧ 10 % 10 = 0 ∧
      sentBit (sending [.report content] base).line.txChars 10 = true) := by
  refine ⟨⟨sending_bounded _, sending_bounded _, sending_bounded _⟩, ?_, ?_, ?_, ?_⟩ <;> decide

/-- An occurrence that waits. -/
def awaited : Occ := ⟨.heaterOpen, some .c2, .trip⟩

theorem witness_CompletedFrameFreesItsPlace :
    (QueueBounded (sending [.report content] base).line ∧ (sending [.report content] base).line.tx ≠ .idle ∧
      (sending [.report content] base).fault.pendingNotice = none ∧ (sending [.report content] base).cmd.occupied = false ∧
      (holding (sending [.report content] base)).line.hold = some content) ∧
    (QueueBounded (sending [.notice notice] base).line ∧ (OutFrame.notice notice).isNotice = true ∧
      (sending [.notice notice] base).fault.placed ≠ none ∧ (sending [.notice notice] base).fault.awaiting = [] ∧
      (sending [.notice notice] base).station.mute = false ∧ (sending [.notice notice] base).line.hold = none ∧
      (sending [.notice notice] base).cmd.occupied = false) ∧
    (pendingNotice (sending [.notice notice] base)).fault.pendingNotice = some notice2 ∧
    (awaited ∈ [awaited] ∧ [awaited].Pairwise (fun a b => ¬(a.kind = b.kind ∧ a.chan = b.chan)) ∧
      (∀ x ∈ [awaited], x.kind.level ≤ awaited.kind.level)) ∧
    (∀ before behind, [awaited] = before ++ awaited :: behind → ∀ x ∈ before, x.kind.level < awaited.kind.level) ∧
    (pendingNotice (sending [.answer reply1] base)).fault.pendingNotice = some notice2 ∧
    QueueBounded (sending [.answer reply1] base).line ∧
    ({ sending [.answer reply1] base with cmd := .held reply1 } : State).cmd = .held reply1 ∧
    (sending [.answer reply1] (withSlot (frame 0x42#8 200#8 37#8 [0x22#8, 1#8]) base)).line.slot =
      some (frame 0x42#8 200#8 37#8 [0x22#8, 1#8]) := by
  refine ⟨⟨sending_bounded _, by decide, by decide, by decide, by decide⟩, ⟨sending_bounded _, by decide, by decide, by decide, by decide, by decide⟩,
    by decide, by decide, ?_, by decide, sending_bounded _, by decide, by decide⟩
  intro before behind h x hx
  cases before with
  | nil => simp at hx
  | cons y ys => simp at h

/-- The queue of R34's cases: a REPORT that waits behind another frame, one that is started, none with room, none without. -/
def due (q : List OutFrame) (s : State) : State := { s with line := { s.line with queue := q, reportTimer := some 101000000 } }

theorem due_bounded : QueueBounded (due [.answer reply1, .report content] base).line ∧ QueueBounded (due [] base).line ∧
    QueueBounded (due (List.replicate 4 (.answer reply1)) base).line ∧
    QueueBounded { (due [.report content] base).line with tx := .driving 0 } := by
  refine ⟨⟨?_, ?_, ?_, ?_⟩, ⟨?_, ?_, ?_, ?_⟩, ⟨?_, ?_, ?_, ?_⟩, ⟨?_, ?_, ?_, ?_⟩⟩ <;> decide

theorem witness_ReportTimerMakesAReportInstant :
    (due [] base).line.reportTimer = some 101000000 ∧ base.station.mute = false ∧
    (due [.answer reply1, .report content] base).line.queue = [.answer reply1] ++ .report content :: [] ∧
    (due [.answer reply1, .report content] base).line.tx = .idle ∧
    (due [] base).line.queue.any OutFrame.isReport = false ∧
    (due (List.replicate 4 (.answer reply1)) base).line.queue.any OutFrame.isReport = false ∧
    (due (List.replicate 4 (.answer reply1)) base).line.queue.length = 4 := by decide

/-- The extreme values of the fields. -/
theorem witness_PackedPayloadsReadBack : img.position < 4096 ∧ img.feeder < 8 ∧ img.weight < 16 ∧ content.state ≠ .unconfigured ∧
    content.level < 8 ∧ content.slot < 8 ∧ 63 < 64 ∧ content.q < 4096 ∧ content.a < 4096 ∧
    (∀ v, content.entry = some v → -500 ≤ v ∧ v ≤ 2000) ∧ (∀ v, content.exit = some v → -500 ≤ v ∧ v ≤ 2000) ∧
    notice.state ≠ .unconfigured ∧ notice.q < 4096 ∧ notice.a < 4096 := by
  refine ⟨by decide, by decide, by decide, by decide, by decide, by decide, by decide, by decide, by decide, ?_, ?_, by decide,
    by decide, by decide⟩ <;> · intro v h; cases h; decide

/-! ## Witnesses: command unit -/

/-- A frame of a kind, with the length of its payload in C0. -/
def said (kind : Nat) (c1 c2 : Byte) (payload : List Byte) : RxFrame :=
  frame (BitVec.ofNat 8 (16 * kind + payload.length)) c1 c2 payload

theorem arrives {want : FrameEnd} {f : RxFrame} {s : State}
    (h : frameEnding ((hears f s).hear 5 lastBit) = some (f, crcOf f) ∧ endOf ((hears f s).hear 5 lastBit) f (crcOf f) = want) :
    Arrives 5 lastBit want f (hears f s) := ⟨_, h⟩

/-- A request from a permitted sender to the station's own id. -/
def asks (code : Byte) (args : List Byte) : RxFrame :=
  if code.toNat < 0x20 then said 3 200#8 37#8 (code :: 9#8 :: args) else said 4 200#8 37#8 (code :: 9#8 :: args)

/-- The request arrives and is taken. -/
def Taken (r : Request) (f : RxFrame) (s : State) : Prop :=
  Arrives 5 lastBit (.request r) f (hears f s) ∧ Accepts r f (hears f s) ∧ AnswerFits f (hears f s)

theorem taken {r : Request} {f : RxFrame} {s : State}
    (h : (frameEnding ((hears f s).hear 5 lastBit) = some (f, crcOf f) ∧ endOf ((hears f s).hear 5 lastBit) f (crcOf f) = .request r) ∧
      s.cmd.occupied = false ∧ permitted s.loader.image f = true ∧ s.cmd.flying = false ∧ allowed r s.station.state = true ∧
      s.line.queue.length < 4) : Taken r f s :=
  ⟨arrives h.1, ⟨h.2.1, fun _ => h.2.2.1, fun _ _ => h.2.2.2.1, h.2.2.2.2.1⟩, fun _ => .inr h.2.2.2.2.2⟩

/-- A completion held. -/
def withHeld (s : State) : State := { s with cmd := .held reply1 }

/-- A deferred command in flight. -/
def flying (s : State) : State := { s with cmd := .inFlight .measure 200#8 1#8 true }

theorem base_fits (f : RxFrame) (s : State) (h : s.line.queue = []) : AnswerFits f (hears f s) := fun _ => .inr (by
  show s.line.queue.length < 4
  rw [h]; decide)

theorem witness_RefusalsComeInOrder_held :
    (hears (said 3 200#8 37#8 [0x11#8]) (withHeld base)).cmd = .held reply1 ∧
    Arrives 5 lastBit .short (said 3 200#8 37#8 [0x11#8]) (hears (said 3 200#8 37#8 [0x11#8]) (withHeld base)) ∧
    (Arrives 5 lastBit .badCode (asks 0x11#8 [1#8]) (hears (asks 0x11#8 [1#8]) (withHeld base)) ∧
      ¬(((asks 0x11#8 [1#8]).payload.getD 0 0).toNat = 0x19 ∧ (asks 0x11#8 [1#8]).c0.toNat / 16 = 3)) ∧
    Arrives 5 lastBit (.request .readStation) (asks 0x22#8 []) (hears (asks 0x22#8 []) (withHeld base)) := by
  refine ⟨rfl, arrives ?_, ⟨arrives ?_, ?_⟩, arrives ?_⟩ <;> decide +kernel

/-- A sender at the lower end of the command range, one below it, a query from there; BUSY; and each wrong state. -/
theorem witness_RefusalsComeInOrder_refused :
    (base.cmd.occupied = false ∧ AnswerFits (said 3 200#8 37#8 [0x11#8]) (hears (said 3 200#8 37#8 [0x11#8]) base) ∧
      Arrives 5 lastBit .short (said 3 200#8 37#8 [0x11#8]) (hears (said 3 200#8 37#8 [0x11#8]) base)) ∧
    (Arrives 5 lastBit .badCode (said 3 199#8 37#8 [0x11#8, 9#8])
        (hears (said 3 199#8 37#8 [0x11#8, 9#8]) base) ∧ ¬base.loader.image.cmdLo ≤ (199#8).toNat) ∧
    (Arrives 5 lastBit .badCode (asks 0x11#8 [1#8]) (hears (asks 0x11#8 [1#8]) base) ∧
      base.loader.image.cmdLo ≤ (200#8).toNat ∧ (200#8).toNat ≤ base.loader.image.cmdHi) ∧
    Arrives 5 lastBit (.request .measure) (said 3 199#8 37#8 [0x16#8, 9#8])
      (hears (said 3 199#8 37#8 [0x16#8, 9#8]) base) ∧
    (Arrives 5 lastBit (.request .measure) (asks 0x16#8 []) (hears (asks 0x16#8 []) (flying base)) ∧
      (flying base).cmd.flying = true ∧ (flying base).cmd.occupied = false) ∧
    (Arrives 5 lastBit (.request .measure) (asks 0x16#8 []) (hears (asks 0x16#8 []) (inState .halted .complete)) ∧
      Arrives 5 lastBit (.request .restart) (asks 0x19#8 []) (hears (asks 0x19#8 []) (inState .halting .confirming)) ∧
      Arrives 5 lastBit (.request .leakTest) (asks 0x15#8 []) (hears (asks 0x15#8 []) (inState .listening .idle)) ∧
      AnswerFits (asks 0x16#8 []) (hears (asks 0x16#8 []) (inState .halted .complete)) ∧
      Request.measure.kind = 3 ∧ Request.restart.kind = 3 ∧ Request.leakTest.kind = 3) := by
  refine ⟨⟨rfl, base_fits _ _ rfl, arrives ?_⟩, ⟨arrives ?_, ?_⟩, ⟨arrives ?_, ?_⟩, arrives ?_, ⟨arrives ?_, ?_⟩,
    arrives ?_, arrives ?_, arrives ?_, base_fits _ _ rfl, ?_⟩ <;> decide +kernel

/-- Channel 3 disabled. -/
def noC3 : State :=
  { base with loader := { base.loader with image := { img with enables := ⟨true, true, true, false⟩ } } }

/-- A mask with bit 4 set, and one that names channel 3 only, which is disabled. -/
theorem witness_RefusalsComeInOrder_mask :
    (Taken .hold (asks 0x12#8 [0x10#8, 5#8]) base ∧ 16 ≤ charAt (asks 0x12#8 [0x10#8, 5#8]).payload 2) ∧
    (Taken .release (asks 0x13#8 [8#8]) noC3 ∧
      ∀ c, noC3.enabled c = true → maskBit (charAt (asks 0x13#8 [8#8]).payload 2) c = false) := by
  refine ⟨⟨taken ?_, ?_⟩, taken ?_, ?_⟩
  · decide +kernel
  · decide
  · decide +kernel
  · intro c; cases c <;> decide

/-- Four answers queued. -/
def full : State := { base with line := { base.line with queue := List.replicate 4 (.answer reply1) } }

theorem witness_FullQueueLeavesRequestUndone :
    (full.cmd.occupied = false ∧ (asks 0x16#8 []).c2.toNat = full.loader.image.id ∧ 1 ≤ (asks 0x16#8 []).c2.toNat ∧
      (asks 0x16#8 []).c2.toNat ≤ 239 ∧ full.station.mute = false ∧ full.line.queue.length = 4) ∧
    Arrives 5 lastBit .badCode (asks 0x11#8 []) (hears (asks 0x11#8 []) full) ∧
    Arrives 5 lastBit (.request .measure) (asks 0x16#8 []) (hears (asks 0x16#8 []) full) := by
  refine ⟨?_, arrives ?_, arrives ?_⟩ <;> decide +kernel

/-- The setpoints 1200, the upper limit, and -2048. -/
theorem witness_SetPointSetsSelectedSetpoints :
    (Taken .setPoint (asks 0x11#8 [1#8, 0x4B#8, 0x00#8]) base ∧
      Selects (asks 0x11#8 [1#8, 0x4B#8, 0x00#8]) (hears (asks 0x11#8 [1#8, 0x4B#8, 0x00#8]) base) ∧
      twosComplement 12 (fieldAt (asks 0x11#8 [1#8, 0x4B#8, 0x00#8]).payload 24 12) = 1200) ∧
    (Taken .setPoint (asks 0x11#8 [1#8, 0x80#8, 0x00#8]) base ∧
      Selects (asks 0x11#8 [1#8, 0x80#8, 0x00#8]) (hears (asks 0x11#8 [1#8, 0x80#8, 0x00#8]) base) ∧
      twosComplement 12 (fieldAt (asks 0x11#8 [1#8, 0x80#8, 0x00#8]).payload 24 12) = -2048) := by
  refine ⟨⟨taken ?_, ⟨?_, .c0, ?_⟩, ?_⟩, taken ?_, ⟨?_, .c0, ?_⟩, ?_⟩ <;> decide +kernel

/-- Channel 0 in HOLD, channel 1 LOCKED for leakage, channel 2 TRIPPED for current, channel 3 OFF. -/
def mixed : State :=
  { base with
    chans := ((base.chans.set .c0 { base.chans.get .c0 with state := .hold, holdExpiry := some 200000000 }).set .c1
      { base.chans.get .c1 with state := .locked }).set .c2
      { base.chans.get .c2 with state := .tripped, trips := 1, reclose := some 700000000 }
    fault := { base.fault with
      conds := [⟨.earthLeakage, none, .lock⟩, ⟨.overcurrent, some .c2, .trip⟩]
      tripCause := base.fault.tripCause.set .c2 (some .overcurrent)
      locks := base.fault.locks.set .c1 [.earthLeakage] } }

/-- 0 minutes; a mask of the LOCKED channel only; and every channel, of which 0 and 3 take it. Channel 0 leaves HOLD. -/
theorem witness_HoldAndReleaseMoveSelectedChannels :
    (Taken .hold (asks 0x12#8 [15#8, 0#8]) mixed ∧ Selects (asks 0x12#8 [15#8, 0#8]) (hears (asks 0x12#8 [15#8, 0#8]) mixed) ∧
      charAt (asks 0x12#8 [15#8, 0#8]).payload 3 = 0) ∧
    (Taken .hold (asks 0x12#8 [2#8, 5#8]) mixed ∧ Selects (asks 0x12#8 [2#8, 5#8]) (hears (asks 0x12#8 [2#8, 5#8]) mixed) ∧
      ∀ c, (picked (asks 0x12#8 [2#8, 5#8]) mixed c && (mixed.chans.get c).state.inService) = false) ∧
    (Taken .hold (asks 0x12#8 [15#8, 255#8]) mixed ∧ Selects (asks 0x12#8 [15#8, 255#8]) (hears (asks 0x12#8 [15#8, 255#8]) mixed) ∧
      (picked (asks 0x12#8 [15#8, 255#8]) mixed .c0 && (mixed.chans.get .c0).state.inService) = true) ∧
    (Taken .release (asks 0x13#8 [15#8]) mixed ∧ Selects (asks 0x13#8 [15#8]) (hears (asks 0x13#8 [15#8]) mixed) ∧
      (picked (asks 0x13#8 [15#8]) mixed .c0 && decide ((mixed.chans.get .c0).state = .hold)) = true) := by
  refine ⟨⟨taken ?_, ⟨?_, .c0, ?_⟩, ?_⟩, ⟨taken ?_, ⟨?_, .c1, ?_⟩, ?_⟩, ⟨taken ?_, ⟨?_, .c0, ?_⟩, ?_⟩, taken ?_, ⟨?_, .c0, ?_⟩, ?_⟩ <;>
    first | decide +kernel | (intro c; cases c <;> decide)

/-- With a residual current of 30 mA, the threshold of code 0, channels 1 and 2 clear, with one of 31 mA channel 1 is refused; channel 0
is neither. -/
theorem witness_ResetTripClearsAbsentCauses :
    Taken .resetTrip (asks 0x14#8 [15#8]) mixed ∧ Selects (asks 0x14#8 [15#8]) (hears (asks 0x14#8 [15#8]) mixed) ∧
    (∀ c k, mixed.fault.tripCause.get c = some k → k = .overcurrent ∨ k = .overtemp ∨ k = .heaterOpen) ∧
    ((mixed.chans.get .c1).state = .locked ∧ mixed.fault.locks.get .c1 = [.earthLeakage] ∧ mixed.earthLock = true) ∧
    ((mixed.chans.get .c2).state = .tripped ∧ mixed.hasCond .overtemp (some .c2) = false) ∧
    (mixed.chans.get .c0).state.inService = true ∧ mixed.loader.image.leakCode = 0 := by
  refine ⟨taken ?_, ⟨?_, .c0, ?_⟩, ?_, ?_, ?_, ?_⟩
  · decide +kernel
  · decide
  · decide
  · intro c k h; cases c <;> first | (left; exact (Option.some.inj h).symm) | cases h
  · decide
  · decide
  · decide

/-- Mains lost. -/
def lostMains (s : State) : State := { s with burst := { s.burst with period := .lost, mainsTimer := none } }

theorem witness_DeferredCommandsAndReslotStart :
    (Taken .leakTest (asks 0x15#8 []) base ∧ base.burst.period ≠ .lost) ∧
    (Taken .leakTest (asks 0x15#8 []) (lostMains base) ∧ (lostMains base).burst.period = .lost) ∧
    Taken .measure (asks 0x16#8 []) base ∧
    (Taken .reslot (asks 0x17#8 []) (inState .listening .idle) ∧ (inState .listening .idle).station.state = .listening) ∧
    (Taken .reslot (asks 0x17#8 []) base ∧ base.station.state ≠ .listening) := by
  refine ⟨⟨taken ?_, ?_⟩, ⟨taken ?_, ?_⟩, taken ?_, ⟨taken ?_, ?_⟩, taken ?_, ?_⟩ <;> decide +kernel

theorem witness_StopStationBeginsHalt : Taken .stopStation (asks 0x18#8 []) base ∧ base.line.queue = [] ∧ base.station.mute = false ∧
    base.halt.proc = .idle ∧ base.hasCond .operatorStop none = false ∧ base.fault.pendingNotice = none ∧ base.fault.placed = none ∧
    base.meas.leakTest = .idle := by
  refine ⟨taken ?_, ?_⟩ <;> decide +kernel

theorem witness_RestartEndsThePresentRun : Taken .restart (asks 0x19#8 []) (inState .halted .complete) ∧
    (hears (asks 0x19#8 []) (inState .halted .complete)).line.tx = .idle := by
  refine ⟨taken ?_, ?_⟩ <;> decide +kernel

theorem witness_FaultPopAndIdentAnswer :
    (Taken .faultPop (asks 0x1A#8 []) base ∧ base.fault.queue = []) ∧
    (Taken .faultPop (asks 0x1A#8 []) busy ∧ ∃ r, busy.fault.queue = r :: []) ∧
    Taken .readFaultHead (asks 0x25#8 []) base ∧ Taken .readFaultHead (asks 0x25#8 []) busy ∧ Taken .readIdent (asks 0x26#8 []) base := by
  refine ⟨⟨taken ?_, rfl⟩, ⟨taken ?_, _, rfl⟩, taken ?_, taken ?_, taken ?_⟩ <;> decide +kernel

/-- Channel 4, channel 3 disabled, channel 0 in HOLD, channel 3 in OFF; a station with a period and one without. -/
theorem witness_ReadChannelAndStationShow :
    Taken .readChannel (asks 0x21#8 [4#8]) base ∧
    (Taken .readChannel (asks 0x21#8 [3#8]) noC3 ∧ ∀ c : Chan, c.num = 3 → noC3.enabled c = false) ∧
    (Taken .readChannel (asks 0x21#8 [0#8]) mixed ∧ (mixed.chans.get .c0).state = .hold ∧
      (mixed.chans.get .c0).holdExpiry = some 200000000) ∧
    (Taken .readChannel (asks 0x21#8 [3#8]) mixed ∧ Chan.c3.num = 3 ∧ mixed.enabled .c3 = true) ∧
    (Taken .readStation (asks 0x22#8 []) busy ∧ busy.burst.period = .running ∧ busy.burst.idx = some 0) ∧
    (Taken .readStation (asks 0x22#8 []) base ∧ base.burst.period ≠ .running) := by
  refine ⟨taken ?_, ⟨taken ?_, ?_⟩, ⟨taken ?_, ?_⟩, ⟨taken ?_, ?_⟩, ⟨taken ?_, ?_⟩, taken ?_, ?_⟩ <;>
    first | decide +kernel | (intro c; cases c <;> decide)

/-- Parts 5, 0 and 4 of the record; indices 16, 2 and 1 of a table of two entries. -/
theorem witness_ReadHaltAndPeerShow :
    (Taken .readHalt (asks 0x23#8 [5#8]) base ∧ Taken .readHalt (asks 0x23#8 [0#8]) base ∧ Taken .readHalt (asks 0x23#8 [4#8]) base ∧
      Chan.c3.num + 1 = 4) ∧
    (Taken .readPeer (asks 0x24#8 [16#8, 0#8]) busy ∧ Taken .readPeer (asks 0x24#8 [2#8, 0#8]) busy ∧ busy.peers.entries.length ≤ 2) ∧
    (Taken .readPeer (asks 0x24#8 [1#8, 0#8]) busy ∧ Taken .readPeer (asks 0x24#8 [1#8, 1#8]) busy ∧
      busy.peers.entries[1]? = some (peer 2 200 1 250) ∧ (busy.now + 5 - 99000000) / 1000000 ≤ 30 * busy.loader.image.rInt ∧
      (peer 2 200 1 250).delta = some 10) := by
  refine ⟨⟨taken ?_, taken ?_, taken ?_, rfl⟩, ⟨taken ?_, taken ?_, ?_⟩, taken ?_, taken ?_, ?_⟩ <;> decide +kernel

/-! ## Witnesses: peer table -/

/-- A station with a peer table. -/
def withPeers (l : List Peer) (s : State) : State := { s with peers := { s.peers with entries := l } }

/-- A station that knows peers 1 and 2 of its feeder. -/
def net : State := withPeers [peer 1 100 0 300, peer 2 200 1 250] base

theorem net_ordered : PeersOrdered net := ⟨by decide, by decide, by decide, by decide, by decide⟩

theorem hears_ordered (f : RxFrame) {s : State} (h : PeersOrdered s) : PeersOrdered (hears f s) :=
  ⟨h.size, h.order, h.ids, h.range, h.empty⟩

/-- The REPORT of a station. -/
def reportOf (id : Byte) (position feeder : Nat) : RxFrame :=
  said 6 id 255#8 (reportPayload { img with position := position, feeder := feeder } content 17 false false)

/-- The fields of that REPORT. -/
def fieldsOf (position feeder : Nat) : ReportFields :=
  ⟨position, feeder, 4, .running, .flowing, true, 0, 3, 17, 642, 543, some 602, some 655⟩

/-- Peer 2 in its place (heard while ISOLATED), peer 2 moved to another feeder, and station 3 new. -/
theorem witness_ReportWritesThePeerEntry :
    PeersOrdered (hears (reportOf 2#8 200 2) net) ∧
    (Arrives 5 lastBit .report (reportOf 2#8 200 2) (hears (reportOf 2#8 200 2) net) ∧
      readReport (reportOf 2#8 200 2).payload = some (fieldsOf 200 2) ∧
      (net.peers.entries.find? fun p => decide (p.id = 2)) = some (peer 2 200 1 250)) ∧
    (Arrives 5 lastBit .report (reportOf 2#8 200 2)
        (hears (reportOf 2#8 200 2) (withPeers net.peers.entries (inState .isolated .idle))) ∧
      PeersOrdered (withPeers net.peers.entries (inState .isolated .idle))) ∧
    (Arrives 5 lastBit .report (reportOf 2#8 300 3) (hears (reportOf 2#8 300 3) net) ∧
      readReport (reportOf 2#8 300 3).payload = some (fieldsOf 300 3)) ∧
    (Arrives 5 lastBit .report (reportOf 3#8 150 2) (hears (reportOf 3#8 150 2) net) ∧
      readReport (reportOf 3#8 150 2).payload = some (fieldsOf 150 2) ∧
      (net.peers.entries.find? fun p => decide (p.id = 3)) = none ∧ net.peers.entries.length < 16) := by
  refine ⟨hears_ordered _ net_ordered, ⟨arrives ?_, ?_⟩, ⟨arrives ?_, ⟨by decide, by decide, by decide, by decide, by decide⟩⟩,
    ⟨arrives ?_, ?_⟩, arrives ?_, ?_⟩ <;> decide +kernel

/-- A full table of peers 1..16, with peer 5 as given. -/
def crowd (p5 : Peer) : State :=
  withPeers (((List.range 16).map fun i => peer (i + 1) (100 * (i + 1)) 0 10).set 4 p5) base

/-- Peer 5 LOST; peer 5 on another feeder. -/
def lostPeer : Peer := { peer 5 500 0 10 with age := .lost }

def farPeer : Peer := { peer 5 500 0 10 with feeder := 3 }

theorem crowd_ordered : PeersOrdered (crowd lostPeer) ∧ PeersOrdered (crowd farPeer) ∧ PeersOrdered (crowd (peer 5 500 0 10)) := by
  refine ⟨⟨?_, ?_, ?_, ?_, ?_⟩, ⟨?_, ?_, ?_, ?_, ?_⟩, ⟨?_, ?_, ?_, ?_, ?_⟩⟩ <;> decide +kernel

/-- Newcomer 20 of the own feeder and 21 of another: a LOST entry to displace, a far entry to displace, none. -/
theorem witness_FullTableIsSettledByDisplacement :
    (Arrives 5 lastBit .report (reportOf 20#8 1700 2) (hears (reportOf 20#8 1700 2) (crowd lostPeer)) ∧
      readReport (reportOf 20#8 1700 2).payload = some (fieldsOf 1700 2) ∧ (crowd lostPeer).peers.entries.length = 16 ∧
      (∀ p ∈ (crowd lostPeer).peers.entries, p.id ≠ 20) ∧
      (lostPeer ∈ (crowd lostPeer).peers.entries ∧ lostPeer.age = .lost) ∧
      ∀ w ∈ (crowd lostPeer).peers.entries, w.age = .lost → w = lostPeer) ∧
    (Arrives 5 lastBit .report (reportOf 21#8 1700 4) (hears (reportOf 21#8 1700 4) (crowd farPeer)) ∧
      (farPeer ∈ (crowd farPeer).peers.entries ∧ farPeer.feeder ≠ (crowd farPeer).loader.image.feeder) ∧
      (∀ w ∈ (crowd farPeer).peers.entries, w.feeder ≠ img.feeder → w = farPeer) ∧
      (∀ w ∈ (crowd farPeer).peers.entries, w.age ≠ .lost) ∧
      ((1700 : Int) - img.position).natAbs < ((farPeer.position : Int) - img.position).natAbs) ∧
    (Arrives 5 lastBit .report (reportOf 20#8 1700 2) (hears (reportOf 20#8 1700 2) (crowd (peer 5 500 0 10))) ∧
      ∀ w ∈ (crowd (peer 5 500 0 10)).peers.entries, w.age ≠ .lost ∧ w.feeder = img.feeder) := by
  refine ⟨⟨arrives ?_, ?_⟩, ⟨arrives ?_, ?_⟩, arrives ?_, ?_⟩ <;> decide +kernel

/-- A FAULT_NOTICE of a station. -/
def noticeOf (id : Byte) : RxFrame := said 1 id 255#8 (noticePayload notice)

/-- Sender ids 0 and 240, a station state code 0, a notice from a station without an entry, and one from peer 2. -/
theorem witness_OtherFramesAtThePeerTable :
    (Arrives 5 lastBit .report (reportOf 0#8 200 2) (hears (reportOf 0#8 200 2) net) ∧
      (reportOf 0#8 200 2).c1.toNat ≠ net.loader.image.id) ∧
    (Arrives 5 lastBit .report (said 6 9#8 255#8 (List.replicate 12 0#8))
        (hears (said 6 9#8 255#8 (List.replicate 12 0#8)) net) ∧
      fieldAt (said 6 9#8 255#8 (List.replicate 12 0#8)).payload 19 3 = 0) ∧
    Arrives 5 lastBit .notice (noticeOf 240#8) (hears (noticeOf 240#8) net) ∧
    (Arrives 5 lastBit .notice (noticeOf 9#8) (hears (noticeOf 9#8) net) ∧
      ∀ p ∈ net.peers.entries, p.id ≠ (noticeOf 9#8).c1.toNat) ∧
    (Arrives 5 lastBit .notice (noticeOf 2#8) (hears (noticeOf 2#8) net) ∧
      readNotice (noticeOf 2#8).payload = some ⟨notice.occ.kind.level, .running, 318, 318⟩ ∧
      (net.peers.entries.find? fun p => decide (p.id = 2)) = some (peer 2 200 1 250)) := by
  refine ⟨⟨arrives ?_, ?_⟩, ⟨arrives ?_, ?_⟩, arrives ?_, ⟨arrives ?_, ?_⟩, arrives ?_, ?_⟩ <;> decide +kernel

theorem witness_OwnIdHeardMutesTheStation :
    (reportOf 37#8 200 2).c1.toNat = net.loader.image.id ∧ net.station.mute = false ∧ net.hasCond .duplicateId none = false ∧
    Arrives 5 lastBit .report (reportOf 37#8 200 2) (hears (reportOf 37#8 200 2) net) ∧
    Arrives 5 lastBit .notice (noticeOf 37#8) (hears (noticeOf 37#8) (withHeld net)) := by
  refine ⟨?_, ?_, ?_, arrives ?_, arrives ?_⟩ <;> decide +kernel

/-- The last live peer of the feeder. -/
def alone (a : AgeState) : State := withPeers [{ peer 1 100 0 300 with age := a }] base

theorem witness_EntriesAgeAndFlowIsDebounced :
    (PeersOrdered (alone .fresh) ∧ PeersOrdered (alone .stale) ∧ { peer 1 100 0 300 with age := .stale } ∈ (alone .stale).peers.entries ∧
      peer 1 100 0 300 ∈ (alone .fresh).peers.entries ∧ (peer 1 100 0 300).age = .fresh ∧
      (liveSame img (alone .stale).peers.entries = true ∧ 1 < img.nf)) ∧
    (base.pins.fs ≠ true ∧ base.active = true ∧ base.loader.image.flowEnabled = true) ∧
    (({ img with flowEnabled := false } : Image).flowEnabled = false) ∧
    ({ base with peers := { base.peers with flowTimer := some 102000000 } } : State).peers.flowTimer = some 102000000 := by
  refine ⟨⟨⟨?_, ?_, ?_, ?_, ?_⟩, ⟨?_, ?_, ?_, ?_, ?_⟩, ?_⟩, ?_, ?_, ?_⟩ <;> decide

theorem witness_NeighboursAreNearestFreshEntries : PeersOrdered net ∧ upNeighbour net = some (peer 2 200 1 250) ∧
    downNeighbour net = none := ⟨net_ordered, by decide, by decide⟩

/-! ## Witnesses: measurement sequencer -/

/-- A station with a measurement state. -/
def withMeas (g : Meas → Meas) (s : State) : State := { s with meas := g s.meas }

/-- A conversion in progress. -/
def converting (sample : Sample) (kept : Bool) (s : State) : State :=
  withMeas (fun m => { m with conv := some ⟨sample, kept, .live, none, 100000250⟩, roundTimer := some 100500000, roundOn := true,
                              remaining := [.refLo, .refHi, .ambient], rawLo := 8200, rawHi := 12400 }) s

theorem base_noRequest : ∀ c, NoRequest (base.meas.chans.get c) := by
  intro c; cases c <;> exact ⟨rfl, rfl, rfl⟩

/-- One request of channel 1. -/
def requesting (g : ChanMeas → ChanMeas) (s : State) : State :=
  withMeas (fun m => { m with chans := m.chans.set .c1 (g (m.chans.get .c1)) }) s

theorem witness_ConverterFollowsTheArbiter :
    ((converting (.reading .refLo) false base).meas.roundTimer = some 100500000 ∧
      (converting (.reading .refLo) false base).meas.roundOn = true) ∧
    ((withMeas (fun m => { m with roundTimer := some 100500000 }) base).meas.roundOn = false ∧
      (withMeas (fun m => { m with roundTimer := some 100500000 }) base).meas.conv = none ∧ ∀ c, NoRequest (base.meas.chans.get c)) ∧
    ((converting (.current .c1 .onSample) false base).meas.conv = some ⟨.current .c1 .onSample, false, .live, none, 100000250⟩ ∧
      (converting (.reading .refLo) false base).meas.conv = some ⟨.reading .refLo, false, .live, none, 100000250⟩) ∧
    (∀ d : Chan, d.num < Chan.c1.num → NoRequest ((requesting (fun m => { m with reqOff := true, reqOn := true }) base).meas.chans.get d)) ∧
    ((requesting (fun m => { m with reqCheck := .bound }) base).meas.chans.get .c1).reqCheck = .bound ∧
    (((requesting (fun m => { m with reqOff := true }) base).meas.chans.get .c1).reqOff = true ∧
      ((requesting (fun m => { m with reqOn := true }) base).meas.chans.get .c1).reqOn = true) ∧
    ((converting (.reading .refLo) true base).meas.conv = some ⟨.reading .refLo, true, .live, none, 100000250⟩ ∧
      (converting (.reading .refLo) true base).meas.remaining = .refLo :: .refHi :: [.ambient]) := by
  refine ⟨by decide, ⟨by decide, by decide, base_noRequest⟩, by decide, ?_, by decide, by decide, by decide⟩
  intro d h
  cases d <;> first | exact ⟨rfl, rfl, rfl⟩ | exact absurd h (by decide)

/-- A good span and one of 0. -/
theorem witness_RoundCompleteSettlesTemperatures :
    (converting (.reading .ambient) true base).meas.conv = some ⟨.reading .ambient, true, .live, none, 100000250⟩ ∧
    ((converting (.reading .ambient) true base).meas.rawLo + 3000 ≤ (converting (.reading .ambient) true base).meas.rawHi ∧
      (converting (.reading .ambient) true base).meas.rawHi ≤ (converting (.reading .ambient) true base).meas.rawLo + 6000) ∧
    ¬(base.meas.rawLo + 3000 ≤ base.meas.rawHi) := by decide

/-- A station with accepted temperatures and channel 0 in REGULATE. -/
def warm : State :=
  { base with
    chans := base.chans.set .c0 { base.chans.get .c0 with state := .regulate, d := 400, ds := 200, acc := 640 }
    meas := { base.meas with wall := .const ⟨some ⟨600, 99000000⟩, 0, none, 3, 3⟩, amb := ⟨some ⟨50, 99000000⟩, 0, none, 3, 3⟩ } }

/-- A station in CHECKING, with a period or without. -/
def checking (p : PeriodState) : State :=
  { inState .halting .checking with burst := { base.burst with period := p } }

theorem witness_AgeAndCheckRequestsRunOut :
    (warm.sensor (.wall .c2)).accepted = some ⟨600, 99000000⟩ ∧
    (let crystal := requesting (fun m => { m with reqCheck := .crystal 100010000 });
      (((crystal base).meas.chans.get .c1).reqCheck = .crystal 100010000 ∧ (crystal base).halt.proc ≠ .checking) ∧
      ((crystal (checking .running)).halt.proc = .checking ∧ (crystal (checking .running)).burst.period = .running) ∧
      ((crystal (converting (.reading .refLo) false (checking .lost))).halt.proc = .checking ∧
        (crystal (converting (.reading .refLo) false (checking .lost))).burst.period ≠ .running ∧
        (crystal (converting (.reading .refLo) false (checking .lost))).meas.conv ≠ none ∧
        (crystal (converting (.reading .refLo) false (checking .lost))).meas.convEnd = none)) := by decide

/-- A mid-point at hand, after a count; every off-check falls due, and the threshold is 30 mA. -/
def midway (count : Nat) : State :=
  withMeas (fun m => { m with midpoint := some 100005000, leakCount := count }) (converting (.reading .refLo) false base)

theorem witness_MidpointAsksSamplesAndCountsLeakage :
    (midway 0).meas.midpoint = some 100005000 ∧ (midway 0).meas.conv = some ⟨.reading .refLo, false, .live, none, 100000250⟩ ∧
    (midway 0).meas.leakTest = .idle ∧ (midway 0).halt.proc ≠ .checking ∧ (midway 1).meas.leakCount < 2 ∧
    (midway 3).meas.leakCount = 3 ∧ ((midway 2).meas.leakCount = 2 ∧ (midway 2).hasCond .earthLeakage none = false) ∧
    ((midway 0).meas.convEnd ≠ some 100005000 ∧ (midway 0).loader.image.leakCode = 0) ∧
    (let s := withMeas (fun m => { m with convEnd := some 100005000, conv := some ⟨.reading .refLo, false, .live, none, 100005250⟩,
                                          chans := m.chans.set .c0 { m.chans.get .c0 with offAsked := true } }) (midway 0);
      s.meas.convEnd = some (max s.now 100005000) ∧ (s.enabled .c0 = true ∧ (s.meas.chans.get .c0).told = false ∧
        NoRequest (s.meas.chans.get .c0)) ∧ (s.enabled .c1 = true ∧ (s.meas.chans.get .c1).told = false ∧
        (s.meas.chans.get .c1).offAsked = false ∧ (s.meas.chans.get .c1).reqCheck = .none)) := by
  exact ⟨by decide, by decide, by decide, by decide, by decide, by decide, by decide, by decide, by decide,
    ⟨by decide, by decide, rfl, rfl, rfl⟩, by decide⟩

/-- An on-sample of channel 1, whose threshold is 200, after a count of 0 or 1. -/
def sampling (count : Nat) : State :=
  requesting (fun m => { m with overCount := count }) (converting (.current .c1 .onSample) true base)

theorem witness_OnSampleCountsAndTripsOnOvercurrent :
    (sampling 0).meas.conv = some ⟨.current .c1 .onSample, true, .live, none, 100000250⟩ ∧
    ((6431#16).toNat / 32 ≤ (sampling 0).loader.image.iNom.get .c1 * 5 / 4) ∧
    ((sampling 0).loader.image.iNom.get .c1 * 5 / 4 < (6432#16).toNat / 32 ∧ ((sampling 0).meas.chans.get .c1).overCount ≠ 1) ∧
    (((sampling 1).meas.chans.get .c1).overCount = 1 ∧ (sampling 1).hasCond .overcurrent (some .c1) = false ∧
      ((sampling 1).chans.get .c1).state ≠ .tripped ∧ ((sampling 1).chans.get .c1).state ≠ .locked ∧
      ((sampling 1).chans.get .c1).trial = none ∧ ((sampling 1).chans.get .c1).trips < 2) := by decide

/-! ## Witnesses: burst timer -/

/-- An edge 5 ms on, with every readback low. -/
def edge : EdgeIn := ⟨5000, .const false, false, false, false⟩

/-- A running period at an index. -/
def atIndex (i : Nat) (s : State) : State :=
  { s with burst := { s.burst with period := .running, idx := some i, lastEdge := some 99995000, mainsTimer := some 100025000 } }

/-- A leak test in its n-th half-cycle. -/
def testing (n : Nat) (s : State) : State := withMeas (fun m => { m with leakTest := .driving n }) s

theorem base_checks : ∀ c k, (base.burst.chans.get c).check = some k →
    halfCycle base.loader.image ≤ 2 * (base.now + edge.dt - k.since) → edge.hr.get c = k.level := by
  intro c k h; cases c <;> cases h

/-- 2 ms after the last edge; 10 ms after it, with no period, at indices 0, 62 (the last that ends no period) of a running one, at a
mains return, and with a leak test in half-cycles 7 and 8. -/
theorem witness_AcceptedEdgeStartsHalfCycle :
    base.active = true ∧
    (∃ last, (atIndex 0 base).burst.lastEdge = some last ∧ 4 * ((atIndex 0 base).now - 3000 - last) < halfCycle img) ∧
    (∀ last, (atIndex 0 base).burst.lastEdge = some last → ¬4 * ((atIndex 0 base).now + edge.dt - last) < halfCycle img) ∧
    (∀ c k, (base.burst.chans.get c).check = some k →
      halfCycle base.loader.image ≤ 2 * (base.now + edge.dt - k.since) → edge.hr.get c = k.level) ∧
    (base.burst.period = .noPeriod ∧ base.burst.lastEdge = none ∧ base.meas.leakTest = .idle) ∧
    ((atIndex 62 base).burst.idx = some 62 ∧ 62 + 1 < (atIndex 62 base).burst.len) ∧
    (lostMains base).burst.period = .lost ∧
    ((testing 7 base).meas.leakTest = .driving 7 ∧ 7 < 8) ∧
    ((testing 8 base).meas.leakTest = .driving 8 ∧ 8 ≤ 8 ∧ (testing 8 base).hasCond .leakTestFail none = false) ∧
    (edge.watchFirst = false ∧ base.meas.leakPresent = false) := by
  refine ⟨by decide, ⟨_, rfl, by decide⟩, ?_, base_checks, by decide, by decide, by decide, by decide, by decide, by decide⟩
  intro last h; cases h; decide

theorem witness_OutputsFollowWindowsAtEveryEdge :
    edgeAccepted ((atIndex 5 base).advance edge.dt) = true ∧ edgeAccepted ((atIndex 63 base).advance edge.dt) = true ∧
    atPeriodEnd ((atIndex 63 base).advance edge.dt) = true ∧ atPeriodEnd ((atIndex 5 base).advance edge.dt) = false := by decide

/-- A period that ends with a peer 10 half-cycles ahead, and with none; a channel with 8 on-samples of 45 over 8 half-cycles, below a
quarter of its 250, and an off-check above an eighth. -/
def ending (l : List Peer) : State :=
  atIndex 63 (withPeers l (withMeas (fun m => { m with
    chans := m.chans.set .c0 { m.chans.get .c0 with onSum := 360, onCount := 8, onHalves := 8, offAsked := true, offTaken := true,
                                                    lastOff := some 40 } }) base))

theorem witness_PeriodEndBeginsTheNextPeriod :
    (edgeAccepted ((ending []).advance edge.dt) = true ∧ (ending []).burst.period = .running ∧
      (ending []).burst.idx = some ((ending []).burst.len - 1)) ∧
    (∀ p d, ¬(p ∈ (ending []).peers.entries ∧ p.feeder = img.feeder ∧ p.delta = some d ∧ 2 ≤ d ∧ d ≤ 31)) ∧
    (peer 1 100 0 300 ∈ (ending [peer 1 100 0 300]).peers.entries ∧ (peer 1 100 0 300).feeder = img.feeder ∧
      (peer 1 100 0 300).delta = some 10 ∧ ∀ q ∈ (ending [peer 1 100 0 300]).peers.entries, q.delta = some 10) ∧
    (edge.checksFirst = false ∧ edge.closeFirst = false) ∧
    (let m := (ending []).meas.chans.get .c0;
      8 ≤ m.onCount ∧ 8 ≤ m.onHalves ∧ m.onSum / m.onCount < img.iNom.get .c0 / 4 ∧ m.openCount < 2 ∧ m.offTaken = true ∧
        m.lastOff = some 40 ∧ img.iNom.get .c0 / 8 < 40 ∧ m.stuckCount < 2) := by
  refine ⟨by decide, ?_, by decide, by decide, by decide⟩
  intro p d h; exact absurd h.1 (by simp [ending, atIndex, withPeers])

theorem witness_MainsLossAbandonsThePeriod :
    ((atIndex 5 base).burst.mainsTimer = some 100025000 ∧ (atIndex 5 base).burst.period ≠ .lost ∧
      (atIndex 5 base).halt.proc ≠ .checking) ∧
    (let s := { inState .halting .confirming with halt := { base.halt with proc := .confirming, mode := .halfCycles 3 } };
      (atIndex 5 s).halt.proc = .confirming ∧ ∃ i, (atIndex 5 s).halt.mode = .halfCycles i) :=
  ⟨by decide, rfl, _, rfl⟩

theorem witness_SlotChoiceTakesTheLeastLoad :
    ({ net with burst := { net.burst with slotTimer := some 110000000 } } : State).burst.slotTimer = some 110000000 ∧
    (listening.station.state = .listening ∧ listening.station.listenTimer = some 110000000) := by decide

/-! ## Witnesses: budget unit and channel control -/

/-- Two peers of great demand, one entry of weight 0 alone, and none. -/
def pressed : State := withPeers [peer 1 100 0 1500, peer 2 200 1 1500] warm

/-- Every case of R130 to R136 that the statement names; `Qs` is 0 in `base`. -/
theorem witness_ControlStepWritesTheShareRecord :
    (let b := (controlStep warm).budget; warm.station.state = .running ∧ b.qs ≠ 0 ∧ b.s ≤ b.u) ∧
    (let b := (controlStep pressed).budget; b.qs ≠ 0 ∧ b.u < b.s ∧ pressed.station.mute = false) ∧
    (let s := withPeers [{ peer 1 100 0 4000 with weight := 0 }] base;
      let b := (controlStep s).budget; b.u < b.s ∧ img.weight * b.qs + 0 * 4000 = 0 ∧ b.qs = 0) ∧
    (inState .isolated .idle).station.state = .isolated ∧
    ({ warm with station := { warm.station with mute := true } } : State).station.mute = true ∧
    (inState .listening .idle).station.state ≠ .running := by decide +kernel

theorem witness_ScaledDemandsStayWithinAllowance : pressed.station.state = .running ∧ (controlStep pressed).budget.k < 1024 ∧
    pressed.enabled .c0 = true ∧ ((controlStep pressed).chans.get .c0).state.fires = true := by decide +kernel

/-- A channel in a state, with its ramp, without a temperature of its own where `own` is false. -/
def channel0 (st : ChanState) (ramp : Option Int) (own : Bool) : State :=
  { warm with
    chans := warm.chans.set .c0 { warm.chans.get .c0 with state := st, ramp := ramp }
    meas := if own then warm.meas else { warm.meas with wall := warm.meas.wall.set .c0 .powerOn } }

theorem witness_ControlStepSettlesStateAndDemand :
    (¬((inState .listening .idle).station.state = .running ∨ (inState .listening .idle).station.state = .isolated)) ∧
    ((channel0 .hold none true).station.state = .running ∧ ((channel0 .hold none true).chans.get .c0).state.fires = false) ∧
    (((channel0 .regulate none true).chans.get .c0).state.fires = true ∧ (channel0 .regulate none true).ownTemp .c0 = some 600) ∧
    (((channel0 .substitute none true).meas.wall.get .c0).valid = 3) ∧
    (((channel0 .warmup (some 640) true).chans.get .c0).ramp = some 640 ∧ (650 : Int) ≤ 640 + img.rampStep ∧
      ((channel0 .warmup (some 640) true).chans.get .c0).tSet = 650) ∧
    (((channel0 .warmup (some 639) true).chans.get .c0).ramp = some 639 ∧ (639 : Int) + img.rampStep < 650) ∧
    ((channel0 .substitute none false).ownTemp .c0 = none ∧ substitute (channel0 .substitute none false) .c0 = some (600, .adjacent)) ∧
    (base.ownTemp .c0 = none ∧ substitute base .c0 = none) ∧
    (let s := channel0 .regulate none true;
      (s.chans.get .c0).state = .regulate ∧ s.loader.image.flowEnabled = true ∧ s.peers.debounced ≠ .flowing ∧
        0 < max (-1000) (min 1000 ((s.chans.get .c0).tSet - 600)) ∧ (controlStep s).budget.k = 1024 ∧
        (img.kp : Int) * 50 / 16 + 10 ≤ 1024) ∧
    (let s := withPeers pressed.peers.entries (channel0 .regulate none true);
      (controlStep s).budget.k < 1024) := by decide +kernel

/-- A firing channel with the greatest remainder, and one that does not fire. -/
theorem witness_FiringCountsCarryTheRemainder :
    (let s := { warm with burst := { warm.burst with chans := warm.burst.chans.set .c0 ⟨0, 15, false, none⟩ } };
      s.enabled .c0 = true ∧ s.station.state = .running ∧ ((controlStep s).chans.get .c0).state.fires = true ∧
        (s.burst.chans.get .c0).r ≤ 15 ∧ ((controlStep s).chans.get .c0).ds ≤ 1024) ∧
    ((controlStep warm).chans.get .c1).state.fires = false := by decide +kernel

/-- OVERTEMP active for the tripped channel. -/
def hot : State := { mixed with fault := { mixed.fault with conds := [⟨.overtemp, some .c2, .trip⟩] } }

theorem witness_ChannelTimersEnd :
    ((mixed.chans.get .c0).state = .hold ∧ (mixed.chans.get .c0).holdExpiry = some 200000000) ∧
    ((mixed.chans.get .c2).state = .tripped ∧ (mixed.chans.get .c2).reclose = some 700000000 ∧
      mixed.hasCond .overtemp (some .c2) = false) ∧
    ((hot.chans.get .c2).state = .tripped ∧ (hot.chans.get .c2).reclose = some 700000000 ∧ hot.hasCond .overtemp (some .c2) = true) ∧
    (let s := { base with chans := base.chans.set .c3 { base.chans.get .c3 with trial := some 130000000, clean := some 3700000000 } };
      (s.chans.get .c3).trial = some 130000000 ∧ (s.chans.get .c3).clean = some 3700000000) := by decide

/-- The LOCKED channel 1 over an age expiry, with a MEASURE waiting in the slot. -/
theorem witness_LockedChannelLeavesOnlyByResetTrip :
    let s := withSlot (asks 0x16#8 []) { mixed with pending := [.recloseTimerExpiry .c2] };
    s.pending = .recloseTimerExpiry .c2 :: [] ∧ s.loader.status = .passed ∧ Instr.recloseTimerExpiry .c2 ≠ .powerOn ∧
    Instr.recloseTimerExpiry .c2 ≠ .supplyFailure ∧ (∀ dt residual wave, Instr.recloseTimerExpiry .c2 ≠ .resetTrip dt residual wave) ∧
    (∀ f, s.line.slot = some f → requestOf f ≠ some .resetTrip) ∧ (s.chans.get .c1).state = .locked ∧ ∃ t, step s = .next t := by
  refine ⟨rfl, rfl, by decide, by decide, fun _ _ _ h => (by cases h), ?_, rfl, _, rfl⟩
  intro f h; cases h; decide

/-! ## Witnesses: fault unit and halt unit -/

/-- Eight records: seven of class TRIP and one NOTE of channel 3 at the end. -/
def eight : List FaultRecord :=
  [⟨.overcurrent, some .c0, .trip, 1, 1, 1, none, false⟩, ⟨.overcurrent, some .c1, .trip, 1, 1, 1, none, false⟩,
    ⟨.overcurrent, some .c2, .trip, 1, 1, 1, none, false⟩, ⟨.overcurrent, some .c3, .trip, 1, 1, 1, none, false⟩,
    ⟨.overtemp, some .c0, .trip, 1, 1, 1, none, false⟩, ⟨.overtemp, some .c1, .trip, 1, 1, 1, none, false⟩,
    ⟨.overtemp, some .c2, .trip, 1, 1, 255, none, false⟩, ⟨.sensorOpen, some .c3, .note, 1, 1, 1, none, false⟩]

/-- A repeat of the seventh record, a queue with room, and a full queue whose last record ranks below the newcomer, or not. -/
theorem witness_OccurrenceIsWrittenIntoFaultQueue :
    FaultQueueBounded eight ∧ FaultQueueBounded (eight.take 7) ∧
    eight = eight.take 6 ++ ⟨.overtemp, some .c2, .trip, 1, 1, 255, none, false⟩ :: [⟨.sensorOpen, some .c3, .note, 1, 1, 1, none, false⟩] ∧
    ((∀ r ∈ eight.take 7, ¬(r.kind = .heaterOpen ∧ r.chan = some .c0)) ∧ (eight.take 7).length < 8) ∧
    ((∀ r ∈ eight, ¬(r.kind = .heaterOpen ∧ r.chan = some .c0)) ∧ eight.length = 8 ∧
      eight = eight.take 7 ++ ⟨.sensorOpen, some .c3, .note, 1, 1, 1, none, false⟩ :: [] ∧
      (∀ x ∈ eight.take 7, FaultClass.note.code < x.cls.code) ∧ FaultClass.note.code < FaultClass.trip.code) ∧
    FaultKind.lowTemp.level ≤ FaultKind.sensorOpen.level := by
  refine ⟨⟨?_, ?_, ?_⟩, ⟨?_, ?_, ?_⟩, ?_⟩ <;> decide

/-- A leakage watch at its end, with leakage gone or present. -/
def watched (present : Bool) : State :=
  withMeas (fun m => { m with leakPresent := present }) { base with fault := { base.fault with watch := some 10 } }

/-- The same watch at 9 half-cycles, and an edge at which its decision comes first. -/
def almost : State := { watched true with fault := { (watched true).fault with watch := some 9 } }

def watchEdge : EdgeIn := { edge with watchFirst := true }

/-- R207: at a period end the watch's decision may come before the control step, and LEAKAGE_PERSISTS is the first cause. -/
theorem test_watch_first : ∃ t, exec (.periodEnd watchEdge) (atIndex 63 almost) = .next t ∧
    t.halt.record.first = some .leakagePersists ∧ t.station.state = .halting ∧ t.burst.idx = some 0 :=
  ⟨_, rfl, by decide +kernel, by decide +kernel, by decide +kernel⟩

/-- A readback check due at the edge that wants the output on. -/
def stuckLow : State :=
  atIndex 5 { base with burst := { base.burst with chans := base.burst.chans.set .c2 ⟨4, 0, false, some ⟨true, 99995000⟩⟩ } }

theorem witness_DetectionsBeginTheHaltProcedure :
    base.halt.proc = .idle ∧ base.station.state = .running ∧
    ((watched false).fault.watch = some 10 ∧ (watched false).meas.leakPresent = false) ∧
    ((watched true).fault.watch = some 10 ∧ (watched true).meas.leakPresent = true ∧
      (watched true).hasCond .leakagePersists none = false) ∧
    (edgeAccepted ((atIndex 63 almost).advance watchEdge.dt) = true ∧ watchEdge.watchFirst = true ∧ almost.fault.watch = some 9 ∧
      almost.meas.leakPresent = true ∧ almost.hasCond .leakagePersists none = false ∧ atPeriodEnd (atIndex 63 almost) = true) ∧
    (edgeAccepted (stuckLow.advance edge.dt) = true ∧ atPeriodEnd stuckLow = false ∧
      (stuckLow.burst.chans.get .c2).check = some ⟨true, 99995000⟩ ∧
      halfCycle stuckLow.loader.image ≤ 2 * (stuckLow.now + edge.dt - 99995000) ∧ edge.hr.get .c2 ≠ true ∧
      edge.watchFirst = false ∧ ∀ d, stuckLow.hasCond .outputReadback (some d) = false) := by
  refine ⟨by decide, by decide, by decide, by decide, by decide, by decide, by decide, by decide, by decide, by decide, by decide, ?_⟩
  intro d; cases d <;> decide

/-- Confirming by half-cycles or by the crystal time base. -/
def confirming (m : ConfirmMode) (p : PeriodState) : State :=
  { inState .halting .confirming with
    halt := { base.halt with proc := .confirming, mode := m }, burst := { base.burst with period := p } }

/-- The last check sample of channel 1. -/
def lastCheck : State :=
  converting (.current .c1 .check) true
    { checking .running with halt := { base.halt with proc := .checking, checks := (Four.const .counted).set .c1 .requested } }

theorem witness_ConfirmationEndsInHalted :
    ((confirming (.halfCycles 10) .running).halt.proc = .confirming ∧ (confirming (.halfCycles 10) .running).halt.mode = .halfCycles 10) ∧
    ((confirming (.crystal 100100000) .running).halt.mode = .crystal 100100000 ∧
      (confirming (.crystal 100100000) .running).burst.period = .running) ∧
    ((converting (.reading .refLo) false (confirming (.crystal 100100000) .lost)).burst.period ≠ .running ∧
      (converting (.reading .refLo) false (confirming (.crystal 100100000) .lost)).meas.conv ≠ none ∧
      (converting (.reading .refLo) false (confirming (.crystal 100100000) .lost)).meas.convEnd = none ∧
      (converting (.reading .refLo) false (confirming (.crystal 100100000) .lost)).halt.compRead = false) ∧
    (lastCheck.meas.conv = some ⟨.current .c1 .check, true, .live, none, 100000250⟩ ∧ lastCheck.halt.proc = .checking ∧
      (∀ d, d ≠ Chan.c1 → lastCheck.enabled d = true → lastCheck.halt.checks.get d = .counted) ∧
      (lastCheck.halt.currentSeen = false ∧ lastCheck.halt.record.second = none) ∧
      lastCheck.loader.image.iNom.get .c1 / 8 < (672#16).toNat / 32 ∧
      ¬lastCheck.loader.image.iNom.get .c1 / 8 < (671#16).toNat / 32) := by
  refine ⟨by decide, by decide, by decide, by decide, by decide, ?_, by decide, by decide, by decide⟩
  intro d hd _
  cases d <;> first | rfl | exact absurd rfl hd

/-! ## Witnesses: the clauses on several offers, alarms, the leak test, notices and second causes -/

/-- A REPORT in transmission with `n` answers behind it, a pending notice, held REPORT content and a held completion. -/
def threeOffers (n : Nat) : State := holding (pendingNotice (withHeld (sending (.report content :: List.replicate n (.answer reply1)) base)))

theorem threeOffers_bounded : QueueBounded (threeOffers 1).line ∧ QueueBounded (threeOffers 3).line := by
  refine ⟨⟨?_, ?_, ?_, ?_⟩, ⟨?_, ?_, ?_, ?_⟩⟩ <;> decide

/-- Three offers at three free places and at one; a completed FAULT_NOTICE before another notice that waits. -/
theorem witness_CompletedFrameFreesItsPlace_2 :
    (QueueBounded (threeOffers 1).line ∧ QueueBounded (threeOffers 3).line) ∧
    ((threeOffers 3).line.tx ≠ .idle ∧ (threeOffers 3).line.queue = .report content :: List.replicate 3 (.answer reply1) ∧
      (List.replicate 3 (OutFrame.answer reply1)).any OutFrame.isNotice = false ∧
      (List.replicate 3 (OutFrame.answer reply1)).any OutFrame.isReport = false ∧ (threeOffers 3).station.mute = false ∧
      (threeOffers 3).line.slot = none ∧ (OutFrame.report content).isNotice = false ∧
      (threeOffers 3).fault.pendingNotice = some notice2 ∧ (threeOffers 3).line.hold = some content ∧
      (threeOffers 3).cmd = .held reply1) ∧
    ((holding (withHeld (sending [.report content] base))).fault.pendingNotice = none ∧
      (holding (withHeld (sending [.report content] base))).line.hold = some content) ∧
    (let s := withHeld (sending [.notice notice] { base with fault := { base.fault with awaiting := [awaited] } });
      s.line.queue = .notice notice :: [] ∧ s.fault.placed ≠ none ∧ s.fault.pendingNotice = none ∧ s.line.hold = none ∧
        s.fault.awaiting = [] ++ awaited :: [] ∧ s.cmd = .held reply1) ∧
    (let s := withHeld (sending [.notice notice] base);
      s.line.queue = .notice notice :: [] ∧ s.fault.placed ≠ none ∧ s.fault.awaiting = []) :=
  ⟨threeOffers_bounded, by decide, by decide, by decide, by decide⟩

/-- R37: at one free place the notice is placed, the REPORT content is dropped and the completion stays held. -/
theorem test_one_place_for_three : ∃ t, exec (.transmitComplete 5 0) (threeOffers 3) = .next t ∧
    t.line.queue = List.replicate 3 (.answer reply1) ++ [.notice notice2] ∧ t.line.hold = none ∧ t.cmd = .held reply1 ∧
    t.line.lastQ = 0 := ⟨_, rfl, by decide, by decide, by decide, by decide⟩

/-- The flow input is enabled in `net`; without it, upstream peer 2 lends its status, else downstream peer 3, else none does. -/
def borrowing (l : List Peer) : State :=
  withPeers l { base with loader := { base.loader with image := { img with flowEnabled := false } } }

theorem witness_NeighboursAreNearestFreshEntries_2 :
    PeersOrdered (borrowing [peer 1 100 0 300, peer 2 200 1 250, peer 3 1900 1 250]) ∧
    PeersOrdered (borrowing [peer 3 1900 1 250]) ∧ PeersOrdered (borrowing []) ∧ net.loader.image.flowEnabled = true ∧
    (borrowing []).loader.image.flowEnabled = false ∧
    ((peer 2 200 1 250).age = .fresh ∧ (peer 2 200 1 250).ownInput = true ∧ (peer 2 200 1 250).flow = .flowing ∧
      (peer 2 200 1 250).position < img.position ∧ img.position < (peer 3 1900 1 250).position) := by
  refine ⟨⟨?_, ?_, ?_, ?_, ?_⟩, ⟨?_, ?_, ?_, ?_, ?_⟩, ⟨?_, ?_, ?_, ?_, ?_⟩, ?_⟩ <;> decide

/-- A round with a bad span, so that every accepted temperature stays at 600, with T_alarm_low and T_max, and channel 0 as given. -/
def closing (alarm limit : Int) (ch : Channel) (conds : List Cond) : State :=
  { warm with
    loader := { warm.loader with image := { img with tAlarm := alarm, tMax := limit } }
    chans := warm.chans.set .c0 ch
    fault := { warm.fault with
      conds := conds
      tripCause := warm.fault.tripCause.set .c0 (if ch.state = .tripped then some .overtemp else none) }
    meas := { warm.meas with conv := some ⟨.reading .ambient, true, .live, none, 100000250⟩ } }

/-- Channel 0 in a state. -/
def inChan (st : ChanState) (trial : Option Nat) : Channel := { base.chans.get .c0 with state := st, trial := trial }

/-- A hold below the alarm level, a firing channel below it, a channel above T_max in service, in its trial and TRIPPED, an OVERTEMP
that clears, and a MEASURE that is served; after each the own temperature of channel 0 is 600. -/
theorem witness_RoundCompleteSettlesTemperatures_2 :
    (∃ t, exec (.roundComplete 0#16) (closing 700 1600 (inChan .hold none) []) = .next t ∧ t.ownTemp .c0 = some 600 ∧
      t.hasCond .holdOverride (some .c0) = true ∧ (t.chans.get .c0).state = .regulate) ∧
    (∃ t, exec (.roundComplete 0#16) (closing 700 1600 (inChan .regulate none) []) = .next t ∧ t.ownTemp .c0 = some 600 ∧
      t.hasCond .lowTemp (some .c0) = true) ∧
    (∃ t, exec (.roundComplete 0#16) (closing 100 599 (inChan .regulate none) []) = .next t ∧ t.ownTemp .c0 = some 600 ∧
      (t.chans.get .c0).state = .tripped) ∧
    (∃ t, exec (.roundComplete 0#16) (closing 100 599 (inChan .regulate (some 110000000)) []) = .next t ∧
      t.ownTemp .c0 = some 600 ∧ (t.chans.get .c0).state = .locked) ∧
    (∃ t, exec (.roundComplete 0#16) (closing 100 651 (inChan .tripped none) [⟨.overtemp, some .c0, .trip⟩]) = .next t ∧
      t.ownTemp .c0 = some 600 ∧ (t.chans.get .c0).state = .regulate) ∧
    (∃ t, exec (.roundComplete 0#16) (converting (.reading .ambient) true base) = .next t ∧ t.ownTemp .c0 = none) ∧
    (let s := flying { closing 100 1600 (inChan .regulate none) [] with
        meas := { (closing 100 1600 (inChan .regulate none) []).meas with measure := .serving } };
      s.meas.measure = .serving ∧ s.cmd = .inFlight .measure 200#8 1#8 true ∧ s.station.mute = false ∧ s.line.queue.length ≤ 2) := by
  refine ⟨⟨_, rfl, ?_⟩, ⟨_, rfl, ?_⟩, ⟨_, rfl, ?_⟩, ⟨_, rfl, ?_⟩, ⟨_, rfl, ?_⟩, ⟨_, rfl, ?_⟩, ?_⟩ <;> decide +kernel

/-- A LEAK_TEST in flight. -/
def leakFlying (s : State) : State := { s with cmd := .inFlight .leakTest 200#8 1#8 true }

/-- A leak test that waits, one in its drive; the completion finds room, or a full queue. -/
theorem witness_MidpointAsksSamplesAndCountsLeakage_2 :
    (let s := leakFlying (testing 3 (midway 0));
      s.meas.midpoint = some 100005000 ∧ s.meas.conv = some ⟨.reading .refLo, false, .live, none, 100000250⟩ ∧
        s.meas.leakTest = .driving 3 ∧ s.halt.proc ≠ .checking ∧ s.meas.convEnd ≠ some (max s.now 100005000) ∧
        s.loader.image.leakCode = 0 ∧ s.cmd = .inFlight .leakTest 200#8 1#8 true ∧ s.station.mute = false ∧
        s.line.queue.length < 4) ∧
    (withMeas (fun m => { m with leakTest := .waiting }) (midway 0)).meas.leakTest = .waiting ∧
    4 ≤ (sending (List.replicate 4 (.answer reply1)) (midway 0)).line.queue.length := by
  exact ⟨⟨by decide, by decide, by decide, by decide, by decide, rfl, by decide, by decide, by decide⟩, by decide, by decide⟩

/-- Channel 1 of `sampling 1` in a state, with its trial and trip count, and the condition active or not. -/
def sampled (st : ChanState) (trial : Option Nat) (trips : Nat) (conds : List Cond) : State :=
  { sampling 1 with
    chans := base.chans.set .c1 { base.chans.get .c1 with state := st, trial := trial, trips := trips }
    fault := { base.fault with conds := conds } }

/-- A repeat, a channel that is TRIPPED, one in its trial, and one at its third trip. -/
theorem witness_OnSampleCountsAndTripsOnOvercurrent_2 :
    (sampled .tripped none 1 [⟨.overcurrent, some .c1, .trip⟩]).hasCond .overcurrent (some .c1) = true ∧
    ((sampled .tripped none 1 []).hasCond .overcurrent (some .c1) = false ∧
      ((sampled .tripped none 1 []).chans.get .c1).state = .tripped) ∧
    (((sampled .regulate (some 110000000) 1 []).chans.get .c1).trial ≠ none ∧
      ((sampled .regulate (some 110000000) 1 []).chans.get .c1).state = .regulate) ∧
    2 ≤ ((sampled .regulate none 2 []).chans.get .c1).trips ∧
    ((sampled .regulate none 2 []).meas.chans.get .c1).overCount = 1 := by decide

/-- R174, R196: the lock at the third trip, with its notice placed. -/
theorem test_third_trip_locks : ∃ t, exec (.conversionEnd 6432#16) (sampled .regulate none 2 []) = .next t ∧
    (t.chans.get .c1).state = .locked ∧ (t.chans.get .c1).trips = 3 ∧ t.fault.locks.get .c1 = [.overcurrent] ∧
    t.line.queue = [.notice ⟨⟨.overcurrent, some .c1, .lock⟩, .running, 0, 0⟩] :=
  ⟨_, rfl, by decide +kernel, by decide +kernel, by decide +kernel, by decide +kernel⟩

/-- A period that ends with an open heater on channel 0 for the third time, or with stuck switches on channels 1 and 2. -/
def third (contactor : Bool) (stuck : List Chan) (trial : Option Nat) : State :=
  let s := ending []
  { s with
    burst := { s.burst with contactor := contactor }
    chans := s.chans.set .c0 { s.chans.get .c0 with state := .regulate, trial := trial }
    meas := { s.meas with
      chans := .of fun c =>
        if stuck.contains c then { s.meas.chans.get c with offTaken := true, lastOff := some 40, stuckCount := 2 }
        else { s.meas.chans.get c with openCount := 2, offTaken := false } } }

theorem third_checks (contactor : Bool) (stuck : List Chan) (trial : Option Nat) :
    ∀ c k, ((third contactor stuck trial).burst.chans.get c).check = some k →
      halfCycle (third contactor stuck trial).loader.image ≤ 2 * ((third contactor stuck trial).now + edge.dt - k.since) →
      edge.hr.get c = k.level := by
  intro c k h; cases c <;> cases h

/-- The contactor closed and open; the channel in its trial; one and two stuck switches. -/
theorem witness_PeriodEndBeginsTheNextPeriod_2 :
    edgeAccepted ((third true [] none).advance edge.dt) = true ∧
    (∀ c k, ((third true [] none).burst.chans.get c).check = some k →
      halfCycle (third true [] none).loader.image ≤ 2 * ((third true [] none).now + edge.dt - k.since) → edge.hr.get c = k.level) ∧
    (edge.watchFirst = false ∧ (third true [] none).meas.leakTest = .idle) ∧
    (let s := third true [] none; let m := s.meas.chans.get .c0;
      s.enabled .c0 = true ∧ 8 ≤ m.onHalves ∧ 1 ≤ m.onCount ∧ m.onSum / m.onCount < s.loader.image.iNom.get .c0 / 4 ∧
        2 ≤ m.openCount ∧ (∀ c ∈ Chan.list, (s.meas.chans.get c).offTaken = false) ∧ s.burst.contactor = true ∧
        s.hasCond .heaterOpen (some .c0) = false ∧ (s.chans.get .c0).state = .regulate ∧ (s.chans.get .c0).trial = none ∧
        (s.chans.get .c0).trips < 2) ∧
    ((third false [] none).burst.contactor = false ∧ ((third true [] (some 110000000)).chans.get .c0).trial ≠ none) ∧
    (let s := third true [.c1, .c2] none; let m := s.meas.chans.get .c1;
      s.enabled .c1 = true ∧ m.offTaken = true ∧ s.loader.image.iNom.get .c1 / 8 < m.lastOff.getD 0 ∧ 2 ≤ m.stuckCount ∧
        s.halt.proc = .idle ∧ s.station.state = .running ∧ (∀ d ∈ Chan.list, s.hasCond .switchStuck (some d) = false) ∧
        s.loader.image.iNom.get .c2 / 8 < (s.meas.chans.get .c2).lastOff.getD 0 ∧ 2 ≤ (s.meas.chans.get .c2).stuckCount) :=
  ⟨by decide, third_checks _ _ _, by decide, by decide, by decide, by decide⟩

/-- R200, R205: two stuck switches at one edge are the first and the second cause. -/
theorem test_two_stuck : ∃ t, exec (.periodEnd edge) (third true [.c1, .c2] none) = .next t ∧
    t.station.state = .halting ∧ t.halt.record.first = some .switchStuck ∧ t.halt.record.second = some .switchStuck :=
  ⟨_, rfl, by decide +kernel, by decide +kernel, by decide +kernel⟩

theorem witness_MainsLossAbandonsThePeriod_2 :
    (let s := leakFlying (testing 3 (atIndex 5 base));
      s.burst.mainsTimer = some 100025000 ∧ s.burst.period ≠ .lost ∧ s.halt.proc ≠ .checking ∧ s.meas.leakTest ≠ .idle ∧
        s.cmd = .inFlight .leakTest 200#8 1#8 true ∧ s.station.mute = false ∧ s.line.queue.length < 4) ∧
    4 ≤ (sending (List.replicate 4 (.answer reply1)) (atIndex 5 base)).line.queue.length := by decide

/-- A station with notices: placed (and started or not), pending, awaiting. -/
def noticing (q : List OutFrame) (placed : Option Placed) (pending : Option NoticeContent) : State :=
  { base with line := { base.line with queue := q, tx := if placed = some .started then .driving 99999000 else .idle }
              fault := { base.fault with placed := placed, pendingNotice := pending } }

theorem noticing_bounded : QueueBounded (noticing [.notice notice] (some .queued) none).line ∧
    QueueBounded (noticing [.notice notice] (some .started) (some notice2)).line ∧ QueueBounded (noticing [] none none).line ∧
    QueueBounded (noticing (.report content :: List.replicate 3 (.answer reply1)) none none).line ∧
    QueueBounded (noticing (List.replicate 4 (.answer reply1)) none none).line := by
  refine ⟨⟨?_, ?_, ?_, ?_⟩, ⟨?_, ?_, ?_, ?_⟩, ⟨?_, ?_, ?_, ?_⟩, ⟨?_, ?_, ?_, ?_⟩, ⟨?_, ?_, ?_, ?_⟩⟩ <;> decide

/-- Each row of R196: a pending or QUEUED notice of the same kind and channel, one of a lower level, one that is not lower, a STARTED
notice, and none, with room, with a REPORT to remove and without. -/
theorem witness_OccurrenceIsWrittenIntoFaultQueue_2 :
    (QueueBounded (noticing [.notice notice] (some .queued) none).line ∧
      QueueBounded (noticing [.notice notice] (some .started) (some notice2)).line) ∧
    ((noticing [.notice notice] (some .started) (some notice2)).fault.pendingNotice = some notice2 ∧
      ((noticing [.notice notice] (some .queued) none).fault.placed = some .queued ∧
        .notice notice ∈ (noticing [.notice notice] (some .queued) none).line.queue) ∧
      notice.occ.kind = .overtemp ∧ notice.occ.chan = some .c1 ∧
      ¬(notice2.occ.kind = notice.occ.kind ∧ notice2.occ.chan = notice.occ.chan)) ∧
    (notice.occ.kind.level < notice2.occ.kind.level ∧ ¬notice2.occ.kind.level < notice.occ.kind.level) ∧
    (let s := noticing [.notice notice] (some .started) none;
      s.fault.pendingNotice = none ∧ s.fault.placed = some .started ∧ s.line.tx ≠ .idle ∧ s.line.queue = .notice notice :: []) ∧
    ((noticing [] none none).line.queue.length < 4 ∧
      (noticing (.report content :: List.replicate 3 (.answer reply1)) none none).line.queue.length = 4 ∧
      (noticing (.report content :: List.replicate 3 (.answer reply1)) none none).line.tx = .idle) ∧
    ((noticing (List.replicate 4 (.answer reply1)) none none).line.queue.length = 4 ∧
      (noticing (List.replicate 4 (.answer reply1)) none none).line.queue.any OutFrame.isReport = false) ∧
    ([awaited] = [] ++ awaited :: [] ∧ ¬(awaited.kind = notice.occ.kind ∧ awaited.chan = notice.occ.chan)) :=
  ⟨⟨noticing_bounded.1, noticing_bounded.2.1⟩, by decide, by decide, by decide, by decide, by decide, by decide⟩

/-- A second cause: a watch that ends and a readback that differs during CONFIRMING, with the field empty or written; in HALTED. -/
def secondCause (second : Option HaltCause) (proc : ProcState) (s : State) : State :=
  { s with
    station := { s.station with state := if proc = .complete then .halted else .halting }
    halt := { s.halt with proc := proc, record := { s.halt.record with valid := true, first := some .operatorStop, second := second } } }

theorem witness_DetectionsBeginTheHaltProcedure_2 :
    (let s := secondCause none .confirming (watched true);
      s.halt.proc = .confirming ∧ s.fault.watch = some 10 ∧ s.meas.leakPresent = true ∧
        s.hasCond .leakagePersists none = false ∧ s.halt.record.second = none) ∧
    (secondCause (some .switchStuck) .confirming (watched true)).halt.record.second ≠ none ∧
    (secondCause none .complete (watched true)).halt.proc = .complete ∧
    (let s := secondCause none .confirming stuckLow;
      edgeAccepted (s.advance edge.dt) = true ∧ atPeriodEnd s = false ∧ s.halt.proc ≠ .idle ∧ s.meas.leakTest = .idle ∧
        edge.watchFirst = false ∧ (s.burst.chans.get .c2).check = some ⟨true, 99995000⟩ ∧
        halfCycle s.loader.image ≤ 2 * (s.now + edge.dt - 99995000) ∧ edge.hr.get .c2 ≠ true ∧
        ∀ d ∈ Chan.list, s.hasCond .outputReadback (some d) = false) ∧
    (let s := leakFlying (testing 3 stuckLow);
      s.meas.leakTest ≠ .idle ∧ s.cmd = .inFlight .leakTest 200#8 1#8 true ∧ s.station.mute = false ∧ s.line.queue = [] ∧
        s.halt.proc = .idle ∧ s.station.state = .running) := by decide

/-- R57, R108, R205: a readback that differs during a leak test halts the station; the completion goes ahead of the REPORT. -/
theorem test_halt_ends_leak_test : ∃ t r, exec (.zeroCrossEdge edge) (leakFlying (testing 3 stuckLow)) = .next t ∧
    t.line.queue = [.notice ⟨⟨.outputReadback, some .c2, .halt⟩, .running, 0, 0⟩, .answer ⟨200#8, 1#8, .wrongState, []⟩, .report r] :=
  ⟨_, _, rfl, rfl⟩

/-- A dominant stop bit of the own frame, and of a frame of another station. -/
theorem witness_ReceiverFollowsTheLine_2 :
    let s := { rxIn .assemble with line := { (rxIn .assemble).line with sampler := ⟨0, some ⟨151, 0, 5⟩, .nothing⟩
                                                                        tx := .driving 99999000 } };
    s.active = true ∧ s.line.tx ≠ .idle ∧ s.line.rx = .assemble ∧
      (s.line.hear ([true] ++ [true, false])).sampler.heard = .framing := by decide +kernel

/-- The own frame at its end. -/
theorem witness_FrameEndIsDecidedByCrcSlotAndKind_2 :
    let f := frame 0x42#8 200#8 37#8 [0x22#8, 1#8]
    let s := { hears f base with line := { (hears f base).line with tx := .driving 99999000 } }
    s.active = true ∧ s.line.tx ≠ .idle ∧ s.line.rx = .assemble ∧
      (s.line.hear lastBit).asm = 0x42#8 :: 200#8 :: 37#8 :: ([0x22#8, 1#8] ++ crcOf f) ∧ (s.line.hear lastBit).left = 0 := by
  decide +kernel

/-- The stop bit of C0. -/
theorem witness_LostFrameStaysAtTheHead_2 :
    9 < 20 ∧ 9 % 10 = 9 ∧ sentBit (sending [.report content] base).line.txChars 9 = false := by decide

/-- A RESTART that finds a completion held. -/
theorem witness_RestartEndsThePresentRun_2 :
    let s := hears (asks 0x19#8 []) (withHeld (inState .halted .complete));
    Arrives 5 lastBit (.request .restart) (asks 0x19#8 []) s ∧ permitted s.loader.image (asks 0x19#8 []) = true ∧
      allowed .restart s.station.state = true ∧ s.cmd.occupied = true := by
  refine ⟨arrives ?_, ?_, ?_, ?_⟩ <;> decide +kernel

/-- A frame in transmission: a REPORT, and an ANSWER. -/
theorem witness_RestartEndsThePresentRun_3 :
    ((sending [.report content] base).line.tx ≠ .idle ∧ (sending [.report content] base).line.queue = .report content :: [] ∧
      (OutFrame.report content).isReport = true) ∧
    ((sending [.answer reply1] base).line.tx ≠ .idle ∧ (sending [.answer reply1] base).line.queue = .answer reply1 :: [] ∧
      (OutFrame.answer reply1).isReport = false) := by decide

/-- An idle converter takes a check request made again at once. -/
theorem witness_AgeAndCheckRequestsRunOut_2 :
    let s := requesting (fun m => { m with reqCheck := .crystal 100010000 }) (checking .lost)
    (s.meas.chans.get .c1).reqCheck = .crystal 100010000 ∧ s.halt.proc = .checking ∧ s.burst.period ≠ .running ∧
      s.meas.conv = none ∧ NoRequest (s.meas.chans.get .c0) :=
  ⟨by decide, by decide, by decide, by decide, rfl, rfl, rfl⟩

/-- The mid-point with an idle converter: an off-check asked, a check sample that waits, the comparator not sampled, a repeat of
EARTH_LEAKAGE, and a round in progress with no request. -/
theorem witness_MidpointAsksSamplesAndCountsLeakage_3 :
    (let s := withMeas (fun m => { m with conv := none }) (midway 2);
      s.meas.midpoint = some 100005000 ∧ s.meas.conv = none ∧ s.meas.leakTest = .idle ∧ s.meas.leakPause = false ∧
        s.meas.leakCount = 2 ∧ s.hasCond .earthLeakage none = false ∧ s.enabled .c0 = true ∧
        (s.meas.chans.get .c0).told = false ∧ (s.meas.chans.get .c0).offAsked = false) ∧
    (let s := { withMeas (fun m => { m with conv := none }) (midway 0) with
        halt := { base.halt with proc := .checking, checks := .const .wanted } };
      s.meas.conv = none ∧ s.halt.proc = .checking ∧ s.halt.checks.get .c0 = .wanted ∧ s.halt.compRead = false) ∧
    (withMeas (fun m => { m with leakPause := true }) (midway 0)).meas.leakPause = true ∧
    ({ midway 2 with fault := { base.fault with conds := [⟨.earthLeakage, none, .lock⟩] } } : State).hasCond .earthLeakage none = true ∧
    (let s := withMeas (fun m => { m with conv := none, chans := m.chans.map fun x => { x with offAsked := true } }) (midway 0);
      s.meas.conv = none ∧ (∀ c : Chan, (s.meas.chans.get c).told = false ∧ (s.meas.chans.get c).offAsked = true) ∧
        s.meas.roundOn = true ∧ s.meas.remaining ≠ []) := by
  refine ⟨by decide, by decide, by decide, by decide, by decide, ?_, by decide, by decide⟩
  intro c; cases c <;> decide

/-- A mains loss in CHECKING, with the converter idle and with a sample in progress. -/
theorem witness_MainsLossAbandonsThePeriod_3 :
    let s := { atIndex 5 (checking .running) with halt := { (checking .running).halt with checks := .const .requested } };
    s.burst.mainsTimer = some 100025000 ∧ s.burst.period ≠ .lost ∧ s.halt.proc = .checking ∧ s.halt.checks.get .c0 = .requested ∧
      s.meas.conv = none ∧ s.halt.compRead = false ∧ (converting (.current .c1 .check) true s).meas.conv ≠ none := by decide

/-- A flowing line, with an upstream temperature for channels 0 and 1. -/
def flowingLine (s : State) : State := { s with peers := { s.peers with debounced := .flowing } }

/-- The integral with a flow term, in WARMUP below the target, and in SUBSTITUTE. -/
theorem witness_ControlStepSettlesStateAndDemand_2 :
    (let s := flowingLine (channel0 .regulate none true);
      (controlStep s).peers.flow = .flowing ∧ s.ownTemp .c0 = some 600 ∧ (s.chans.get .c0).state = .regulate) ∧
    (let s := flowingLine (channel0 .warmup (some 639) true);
      (s.chans.get .c0).state = .warmup ∧ s.ownTemp .c0 = some 600 ∧
        0 < max (-1000) (min 1000 ((639 : Int) + s.loader.image.rampStep - 600)) ∧ (controlStep s).budget.k = 1024) ∧
    (let s := channel0 .substitute none false;
      substitute s .c0 = some (600, .adjacent) ∧ (s.chans.get .c0).state = .substitute) := by decide +kernel

/-- An entry that waits, and an occurrence of its kind and channel of a higher class that is offered. -/
theorem witness_OccurrenceIsWrittenIntoFaultQueue_3 :
    let s := { noticing [] none none with fault := { base.fault with awaiting := [awaited] } }
    let o : Occ := ⟨.heaterOpen, some .c2, .lock⟩
    s.fault.pendingNotice = none ∧ s.fault.placed = none ∧ s.line.queue.any OutFrame.isNotice = false ∧ s.line.queue.length < 4 ∧
      awaited ∈ s.fault.awaiting ∧ awaited.kind = o.kind ∧ awaited.chan = o.chan ∧ awaited.cls.code < o.cls.code := by decide

/-- A completion that finds a full queue. -/
theorem witness_completionHeld :
    QueueBounded (noticing (List.replicate 4 (.answer reply1)) none none).line ∧
    4 ≤ (noticing (List.replicate 4 (.answer reply1)) none none).line.queue.length :=
  ⟨noticing_bounded.2.2.2.2, by decide⟩

/-- The confirmation time ends with no period running and the converter idle. -/
theorem witness_ConfirmationEndsInHalted_2 :
    let s := confirming (.crystal 100100000) .lost
    s.halt.proc = .confirming ∧ s.halt.mode = .crystal 100100000 ∧ s.burst.period ≠ .running ∧ s.halt.compRead = false ∧
      s.meas.conv = none ∧ s.enabled .c0 = true := by decide

/-- R108: a PASS ends the test within its half-cycle, and the mid-point of the next half-cycle counts again. -/
theorem test_sampling_resumes_from_the_next_half_cycle :
    (sampleLeakage ({ leakFlying (testing 3 base) with pins := { base.pins with residual := 500 } })).meas.leakPause = true ∧
    (settleOutputs (withMeas (fun m => { m with leakPause := true }) base)).meas.leakPause = false ∧
    (sampleLeakage { withMeas (fun m => { m with leakPause := true }) base with pins := { base.pins with residual := 500 } }).meas.leakCount
      = 0 := by decide

/-- R196: the entry that waits takes the higher class, and the occurrence is placed. -/
theorem test_waiting_entry_is_raised :
    let s := settleNotice ⟨.heaterOpen, some .c2, .lock⟩
      { noticing [] none none with fault := { base.fault with awaiting := [awaited] } }
    s.fault.awaiting = [⟨.heaterOpen, some .c2, .lock⟩] ∧ s.fault.placed = some .queued ∧ s.line.queue.length = 1 := by decide

/-- R21: a dominant stop bit of the own frame sets the line-error flag while the transmission goes on. -/
theorem test_framing_error_while_sending :
    let s := { rxIn .assemble with line := { (rxIn .assemble).line with sampler := ⟨0, some ⟨151, 0, 5⟩, .nothing⟩
                                                                        tx := .driving 99999000 } };
    (framingError (s.hear 5 [true, true, false])).line.lineErr = true ∧
      (framingError (s.hear 5 [true, true, false])).line.rx = .awaitIdle ∧
      (framingError (s.hear 5 [true, true, false])).line.tx = .driving 99999000 := by decide +kernel

/-- Channel 0 on in the first half-cycle of a period that began 5 µs from now. -/
def begun : State :=
  { warm with
    burst := { warm.burst with period := .running, idx := some 0, lastEdge := some 100000005
                               chans := warm.burst.chans.set .c0 ⟨40, 3, true, none⟩ }
    meas := { warm.meas with chans := warm.meas.chans.set .c0 { warm.meas.chans.get .c0 with told := true, onHalves := 1 } } }

/-- A HOLD at the moment at which the period began. -/
theorem witness_HoldAndReleaseMoveSelectedChannels_2 :
    Taken .hold (asks 0x12#8 [1#8, 5#8]) begun ∧ Selects (asks 0x12#8 [1#8, 5#8]) (hears (asks 0x12#8 [1#8, 5#8]) begun) ∧
      (picked (asks 0x12#8 [1#8, 5#8]) begun .c0 && (begun.chans.get .c0).state.inService) = true ∧
      (begun.chans.get .c0).state ≠ .hold ∧ (begun.burst.chans.get .c0).out = true ∧ begun.burst.period = .running ∧
      begun.burst.idx = some 0 ∧ begun.burst.lastEdge = some (begun.now + 5) := by
  refine ⟨taken ?_, ⟨?_, .c0, ?_⟩, ?_⟩ <;> decide +kernel

/-- Two commands one after the other. -/
def both (c d : Instr) (s : State) : Option State :=
  match exec c s with
  | .next t =>
    match exec d t with
    | .next u => some u
    | _ => none
  | _ => none

/-- R145, R117: a period end switches channel 0 on; a HOLD at that moment takes its first half-cycle away, one a microsecond later
leaves the output on to the next edge. -/
theorem test_hold_at_a_period_end :
    let f := asks 0x12#8 [1#8, 5#8]
    let held := fun dt : Nat => both (.periodEnd edge) (.hold dt lastBit) (hears f (atIndex 63 warm));
    ((held 0).map fun t => ((t.chans.get .c0).state, t.heaterPin .c0, (t.meas.chans.get .c0).told, (t.meas.chans.get .c0).onHalves,
      (t.burst.chans.get .c0).h)) = some (.hold, false, false, 0, 0) ∧
    ((held 1).map fun t => ((t.chans.get .c0).state, t.heaterPin .c0, (t.meas.chans.get .c0).told, (t.meas.chans.get .c0).onHalves,
      (t.burst.chans.get .c0).h)) = some (.hold, true, true, 1, 0) := by decide +kernel

/-- A channel's own temperature, the control temperature of one in SUBSTITUTE, and neither; levels of conditions and locks. -/
theorem witness_ReadChannelAndStationShow_2 :
    (warm.enabled .c0 = true ∧ (warm.meas.wall.get .c0).cond = none ∧ (warm.meas.wall.get .c0).accepted = some ⟨600, 99000000⟩) ∧
    ((base.meas.wall.get .c0).accepted = none ∧ (base.chans.get .c0).state ≠ .substitute ∧
      ((channel0 .substitute none false).meas.wall.get .c0).accepted = none ∧
      ((channel0 .substitute none false).chans.get .c0).state = .substitute) ∧
    (mixed.fault.conds ≠ [] ∧ mixed.fault.locks.get .c1 ≠ [] ∧ mixed.highestLevel = 7 ∧ base.highestLevel = 0) := by decide

/-- A round with a good span in which channel 0 is short, channel 1 open, channel 2 in range with a condition that clears, and AMB
short. -/
def faulty : State :=
  withMeas (fun m => { m with
    rawWall := ⟨0, 65535, 10300, 10300⟩
    wall := ((m.wall.set .c0 ⟨none, 0, some .opened, 0, 0⟩).set .c2 ⟨some ⟨500, 99000000⟩, 0, some .opened, 2, 0⟩) })
    (converting (.reading .ambient) true base)

theorem witness_RoundCompleteSettlesTemperatures_3 :
    (faulty.meas.conv = some ⟨.reading .ambient, true, .live, none, 100000250⟩ ∧
      faulty.meas.rawLo + 3000 ≤ faulty.meas.rawHi ∧ faulty.meas.rawHi ≤ faulty.meas.rawLo + 6000 ∧
      (∀ c ∈ Chan.list, faulty.enabled c = true)) ∧
    (let x := fun c : Chan => ((faulty.meas.rawWall.get c : Int) - 8200) * 1000 / 4200 + img.trims.get c;
      x .c0 < -600 ∧ 2500 < x .c1 ∧ -600 ≤ x .c2 ∧ x .c2 ≤ 2500) ∧
    ((0 : Int) - 8200) * 1000 / 4200 + img.trimAmb < -600 := by decide

/-- R93, R96, R97: the conditions at the fault unit after that round. -/
theorem test_sensor_conditions :
    let s := { faulty with fault := { faulty.fault with conds := [⟨.sensorOpen, some .c0, .note⟩, ⟨.sensorOpen, some .c2, .note⟩] } }
    ∃ t, exec (.roundComplete 0#16) s = .next t ∧ t.hasCond .sensorShort (some .c0) = true ∧
      t.hasCond .sensorOpen (some .c0) = false ∧ t.hasCond .sensorOpen (some .c1) = true ∧
      t.hasCond .sensorOpen (some .c2) = false ∧ t.hasCond .ambientSensor none = true := by
  refine ⟨_, rfl, ?_, ?_, ?_, ?_, ?_⟩ <;> decide +kernel

/-- A current sample of channel 1 with its fate. -/
def ended (k : CurrentKind) (fate : Fate) : State :=
  withMeas (fun m => { m with conv := some ⟨.current .c1 k, true, fate, none, 100000250⟩ }) (converting (.reading .refLo) true base)

/-- A counted off-check, a counted on-sample, a sample whose half-cycle has ended, and one abandoned; a trip as a period begins. -/
theorem witness_OnSampleCountsAndTripsOnOvercurrent_3 :
    ((ended .offCheck .live).meas.conv = some ⟨.current .c1 .offCheck, true, .live, none, 100000250⟩ ∧
      (ended .onSample .live).meas.conv = some ⟨.current .c1 .onSample, true, .live, none, 100000250⟩ ∧
      ((ended .onSample .live).meas.chans.get .c1).overCount ≠ 1 ∧
      (ended .onSample .stale).meas.conv = some ⟨.current .c1 .onSample, true, .stale, none, 100000250⟩ ∧
      (ended .check .abandoned).meas.conv = some ⟨.current .c1 .check, true, .abandoned, none, 100000250⟩) ∧
    (let s := { sampling 1 with burst := { base.burst with
        period := .running, idx := some 0, lastEdge := some 100000250, chans := base.burst.chans.set .c1 ⟨40, 3, true, none⟩ } };
      s.heaterPin .c1 = true ∧ s.burst.lastEdge = some (max s.now 100000250) ∧ (s.meas.chans.get .c1).overCount = 1) := by decide

/-- The leak test fails with its completion due and room for it, with a full queue, and with LEAK_TEST_FAIL active. -/
theorem witness_AcceptedEdgeStartsHalfCycle_2 :
    (let s := leakFlying (testing 8 base);
      s.cmd = .inFlight .leakTest 200#8 1#8 true ∧ s.meas.leakTest = .driving 8 ∧ s.station.mute = false ∧ s.line.queue.length < 4 ∧
        s.enabled .c0 = true ∧ s.hasCond .leakTestFail none = false) ∧
    4 ≤ (sending (List.replicate 4 (.answer reply1)) (leakFlying (testing 8 base))).line.queue.length ∧
    ({ testing 8 base with fault := { base.fault with conds := [⟨.leakTestFail, none, .lock⟩] } } : State).hasCond .leakTestFail none
      = true ∧
    (img.mains60 = false ∧ ({ img with mains60 := true } : Image).mains60 = true) := by decide

/-- R49, R57, R182: the completion of a failed leak test, ahead of the notice. -/
theorem test_failed_leak_test_completes : ∃ t, exec (.zeroCrossEdge edge) (leakFlying (testing 8 base)) = .next t ∧
    t.cmd = .empty ∧ t.line.queue = [.answer ⟨200#8, 1#8, .ok, [2#8]⟩,
      .notice ⟨⟨.leakTestFail, none, .lock⟩, .running, 0, 0⟩] := ⟨_, rfl, by decide +kernel, by decide +kernel⟩

/-- A period end with no detection, with the station demand at and far from the one last reported. -/
theorem witness_PeriodEndBeginsTheNextPeriod_3 :
    (edgeAccepted ((atIndex 63 warm).advance edge.dt) = true ∧ (atIndex 63 warm).burst.idx = some ((atIndex 63 warm).burst.len - 1) ∧
      (atIndex 63 warm).meas.leakTest = .idle ∧ edge.watchFirst = false ∧
      ∀ c ∈ Chan.list, ((atIndex 63 warm).burst.chans.get c).check = none ∧
        ((atIndex 63 warm).meas.chans.get c).openCount < 2 ∧ ((atIndex 63 warm).meas.chans.get c).stuckCount < 2) ∧
    ((controlStep base).budget.qs = 0 ∧ base.line.lastQ = 0) ∧
    (let s := { base with line := { base.line with lastQ := 64 } };
      64 ≤ (((controlStep s).budget.qs : Int) - s.line.lastQ).natAbs ∧ s.station.mute = false ∧ s.line.queue = []) ∧
    ((controlStep warm).chans ≠ warm.chans ∧ ((controlStep warm).burst.chans.get .c0).h ≠ 0) := by decide +kernel

/-- The lists of R149: the upstream exit for channel 0 and, with no neighbour, channel 1; for channel 1 both neighbours, one, and the
upstream exit; for channel 3 the downstream entry. -/
theorem witness_ControlStepSettlesStateAndDemand_3 :
    let without := fun (cs : List Chan) (l : List Peer) =>
      withPeers l { warm with meas := { warm.meas with
        wall := .of fun c => if cs.contains c then .powerOn else { warm.meas.wall.get c with accepted := some ⟨-31, 99000000⟩ } } };
    substitute (without [.c0] [peer 2 200 1 250]) .c0 = ((peer 2 200 1 250).exit.map fun v => (v, .neighbourUp)) ∧
    substitute (without [.c0] []) .c0 = some (-31, .adjacent) ∧
    substitute (without [.c1] [peer 2 200 1 250]) .c1 = some (-31, .adjacent) ∧
    substitute (without [.c0, .c1] [peer 2 200 1 250]) .c1 = some (-31, .adjacent) ∧
    substitute (without [.c0, .c1, .c2] [peer 2 200 1 250]) .c1 = ((peer 2 200 1 250).exit.map fun v => (v, .neighbourUp)) ∧
    substitute (without [.c3] [peer 3 1900 1 250]) .c3 = ((peer 3 1900 1 250).entry.map fun v => (v, .neighbourDown)) ∧
    substitute (without [.c2, .c3] []) .c3 = none ∧
    -- R149's own example: the floor mean of -31 and -40 is -36
    middleSubstitute base (some (-31)) (some (-40)) = some (-36, .adjacent) := by decide +kernel

/-- The ninth half-cycle of a confirmation time, with a period running. -/
theorem witness_AcceptedEdgeStartsHalfCycle_3 :
    let s := atIndex 5 (confirming (.halfCycles 9) .running);
    s.active = true ∧ s.halt.proc = .confirming ∧ s.halt.mode = .halfCycles 9 ∧ s.meas.leakTest = .idle ∧
      edgeAccepted (s.advance edge.dt) = true := by decide

/-- R204: the edge at which the count reaches 10. -/
theorem test_confirmation_count_rises :
    ∃ t, exec (.zeroCrossEdge edge) (atIndex 5 (confirming (.halfCycles 9) .running)) = .next t ∧
      t.halt.mode = .halfCycles 10 ∧ t.halt.proc = .confirming := ⟨_, rfl, by decide, by decide⟩

/-- A readback that differs at a period end. -/
def stuckEnd : State := { stuckLow with burst := { stuckLow.burst with idx := some 63 } }

/-- It differs in a station that runs, with no switch stuck, and in one whose procedure is under way. -/
theorem witness_DetectionsBeginTheHaltProcedure_3 :
    (stuckEnd.halt.proc = .idle ∧ stuckEnd.station.state = .running ∧ edgeAccepted (stuckEnd.advance edge.dt) = true ∧
      atPeriodEnd stuckEnd = true ∧ edge.watchFirst = false ∧ (stuckEnd.burst.chans.get .c2).check = some ⟨true, 99995000⟩ ∧
      halfCycle stuckEnd.loader.image ≤ 2 * (stuckEnd.now + edge.dt - 99995000) ∧ edge.hr.get .c2 ≠ true ∧
      (∀ d ∈ Chan.list, stuckEnd.hasCond .outputReadback (some d) = false) ∧
      (∀ d ∈ Chan.list, (stuckEnd.meas.chans.get d).offTaken = false)) ∧
    (edge.checksFirst = false ∧ edge.closeFirst = false) ∧
    ((secondCause none .confirming stuckEnd).halt.proc ≠ .idle ∧ (secondCause none .confirming stuckEnd).meas.leakTest = .idle ∧
      atPeriodEnd (secondCause none .confirming stuckEnd) = true) := by decide

/-- R207: a readback that differs at a period end halts before the control step, which then writes 0, or after it, and the record
then holds its figures. -/
theorem test_readback_at_a_period_end :
    let s := { stuckEnd with chans := warm.chans, meas := warm.meas, budget := ⟨7, 0, 0, 7, 1024⟩ }
    let figures := fun checksFirst : Bool => match exec (.periodEnd { edge with checksFirst := checksFirst }) s with
      | .next t => some (t.station.state, t.halt.record.qs, t.budget.qs)
      | _ => none
    figures true = some (.halting, 7, 0) ∧ figures false = some (.halting, (controlStep s).budget.qs, (controlStep s).budget.qs) ∧
      (controlStep s).budget.qs ≠ 7 := by decide +kernel

end Sys2Proof.Tests
end

section
/-! Every command as one total effect on the state, and what no effect touches: the model's queue, and the configuration of a passed
load (O2, O7). -/

namespace Sys2Proof.Machine

/-- The next state of a command; `exec_next` ties it to `exec`, which stops for one operand alone. -/
def effect (c : Instr) (s : State) : State :=
  match c with
  | .powerOn => powerUp s
  | .configReadComplete dt bytes => if s.loading then loadImage bytes (s.advance dt) else s.advance dt
  | .configPortRefusal dt => if s.loading then failLoad (s.advance dt) else s.advance dt
  | .configReadTimeout => readTimeout s
  | .listenIntervalExpiry => listenEnds s
  | .isolationTimeoutExpiry => isolationEnds s
  | .lineIdle e => lineIdle (s.hear e.dt e.wave)
  | .frameStart e => frameStart (s.hear e.dt e.wave)
  | .frameC0Check dt wave => checkC0 (s.hear dt wave)
  | .framePrefilter dt wave1 wave2 => prefilter (s.hear dt (wave1 ++ wave2))
  | .framingError dt wave s9 s10 => framingError (s.hear dt (wave ++ [s9, s10]))
  | .frameBadCrc dt wave => frameEvent dt wave .badCrc (fun _ => lineError) s
  | .completedFrameLost dt wave => frameEvent dt wave .lost (fun _ => lineError) s
  | .report dt wave => frameEvent dt wave .report peerReport s
  | .faultNotice dt wave => frameEvent dt wave .notice peerNotice s
  | .answer dt wave => frameEvent dt wave .answer (fun _ => id) s
  | .shortRequestDiscard dt wave => requestEvent dt wave .short s
  | .badRequestCode dt wave => requestEvent dt wave .badCode s
  | .setPoint dt wave => requestEvent dt wave (.request .setPoint) s
  | .hold dt wave => requestEvent dt wave (.request .hold) s
  | .release dt wave => requestEvent dt wave (.request .release) s
  | .resetTrip dt residual wave => requestEvent dt wave (.request .resetTrip) (s.showResidual residual)
  | .leakTest dt wave => requestEvent dt wave (.request .leakTest) s
  | .measure dt wave => requestEvent dt wave (.request .measure) s
  | .reslot dt wave => requestEvent dt wave (.request .reslot) s
  | .stopStation dt wave => requestEvent dt wave (.request .stopStation) s
  | .restart dt wave => requestEvent dt wave (.request .restart) s
  | .faultPop dt wave => requestEvent dt wave (.request .faultPop) s
  | .readChannel dt wave => requestEvent dt wave (.request .readChannel) s
  | .readStation dt wave => requestEvent dt wave (.request .readStation) s
  | .readHalt dt wave => requestEvent dt wave (.request .readHalt) s
  | .readPeer dt wave => requestEvent dt wave (.request .readPeer) s
  | .readFaultHead dt wave => requestEvent dt wave (.request .readFaultHead) s
  | .readIdent dt wave => requestEvent dt wave (.request .readIdent) s
  | .transmitStart dt => transmitHead (s.advance dt)
  | .arbitrationLost dt bit => loseArbitration bit (s.advance dt)
  | .bitError dt bit dominant => takeBitError bit dominant (s.advance dt)
  | .transmitComplete dt residual => transmitEnds residual (s.advance dt)
  | .reportTimerExpiry => reportDue s
  | .staleExpiry id => staleEnds id s
  | .lostExpiry id => lostEnds id s
  | .removalExpiry id => removalEnds id s
  | .flowInputChange dt low => flowInput low (s.advance dt)
  | .flowDebounceExpiry => flowSettles s
  | .roundTimerExpiry => roundTick s
  | .conversionEnd raw => conversionEnds raw s
  | .roundComplete raw => roundEnds raw s
  | .temperatureAgeExpiry sensor => ageExpires sensor s
  | .halfCycleMidpoint residual => midpoint residual s
  | .checkRequestTimeout c => checkTimesOut c s
  | .zeroCrossEdge e => if edgeAccepted (s.advance e.dt) then takeEdge e (s.advance e.dt) else s.advance e.dt
  | .periodEnd e =>
    if edgeAccepted (s.advance e.dt) && atPeriodEnd s then takeEdge e (s.advance e.dt) else s.advance e.dt
  | .mainsLost residual => mainsEnds residual s
  | .slotChoiceIntervalExpiry => slotChoiceEnds s
  | .holdExpiry c => holdEnds c s
  | .recloseTimerExpiry c => recloseEnds c s
  | .trialTimerExpiry c => trialEnds c s
  | .cleanPeriodExpiry c => cleanEnds c s
  | .leakageWatchExpiry => watchEnds s
  | .confirmationCountEnd => countEnds s
  | .confirmationTimerExpiry residual => confirmEnds residual s
  | .skippedFrameEnd e => skippedEnd (s.hear e.dt e.wave)
  | .supplyFailure => powerDown s

/-- CONFIG_READ_COMPLETE answers for the 98 bytes of R4 and for no other number. -/
theorem exec_configReadComplete (dt : Nat) (bytes : List Byte) (s : State) :
    exec (.configReadComplete dt bytes) s =
      if bytes.length = 98 then .next (effect (.configReadComplete dt bytes) s) else .fault .imageLength := rfl

/-- Where a command has a next state, it is its effect. -/
theorem exec_next {c : Instr} {s t : State} (h : exec c s = .next t) : t = effect c s := by
  cases c
  case configReadComplete dt bytes =>
    rw [exec_configReadComplete] at h
    split at h
    · exact (Host.Outcome.next.inj h).symm
    · cases h
  all_goals exact (Host.Outcome.next.inj h).symm

/-- A well-formed command has its effect as next state. -/
theorem exec_of_wellFormed (c : Instr) (s : State) (h : c.wellFormed = true) : exec c s = .next (effect c s) := by
  cases c
  case configReadComplete dt bytes =>
    have hl : bytes.length = 98 := by simpa [Instr.wellFormed] using h
    rw [exec_configReadComplete, if_pos hl]
  all_goals rfl

/-- A step is the effect of the command at the front of the queue. -/
theorem step_effect {c : Instr} {rest : List Instr} {s t : State} (hp : s.pending = c :: rest) (h : step s = .next t) :
    t = effect c { s with pending := rest } := by
  unfold step at h
  rw [hp] at h
  exact exec_next h

/-- A property that every effect carries over is carried over by a step, on an empty queue too. -/
theorem step_inv (P : State → Prop) (hq : ∀ s q, P s → P { s with pending := q }) (he : ∀ c s, P s → P (effect c s))
    {s t : State} (hs : P s) (h : step s = .next t) : P t := by
  cases hp : s.pending with
  | nil =>
    have e : s = t := by simpa [step, hp] using h
    exact e ▸ hs
  | cons c rest => exact step_effect hp h ▸ he c _ (hq s rest hs)

/-! ## The queue of commands and the configuration -/

/-- The end of a frame keeps what its samples, the receiver's release and its own work keep. -/
theorem frameEvent_keeps {β : Type} (g : State → β) {act : RxFrame → State → State} (hear : ∀ s dt wave, g (s.hear dt wave) = g s)
    (line : ∀ s l, g { s with line := l } = g s) (hact : ∀ f s, g (act f s) = g s) (dt : Nat) (wave : List Bool) (want : FrameEnd)
    (s : State) : g (frameEvent dt wave want act s) = g s := by
  rcases frameEvent_cases dt wave want act s with h | ⟨f, crc, -, -, h⟩
  · rw [h, hear]
  · rw [h, hact, line, hear]

@[simp] theorem requestEvent_frame (dt : Nat) (wave : List Bool) (want : FrameEnd) (s : State) :
    (requestEvent dt wave want s).pending = s.pending ∧ (requestEvent dt wave want s).loader = s.loader :=
  ⟨frameEvent_keeps State.pending (fun _ _ _ => rfl) (fun _ _ => rfl) (fun _ _ => by simp) dt wave want s,
    frameEvent_keeps State.loader (fun _ _ _ => rfl) (fun _ _ => rfl) (fun _ _ => by simp) dt wave want s⟩

/-- The commands at which the supply or the configuration loader acts. -/
def actsOnLoader : Instr → Bool
  | .powerOn => true
  | .configReadComplete _ _ => true
  | .configPortRefusal _ => true
  | .configReadTimeout => true
  | .supplyFailure => true
  | _ => false

/-- Every other command leaves the queue of commands and the loader (R8). -/
theorem effect_frame {c : Instr} (h : actsOnLoader c = false) (s : State) :
    (effect c s).pending = s.pending ∧ (effect c s).loader = s.loader := by
  cases c
  case powerOn | configReadComplete | configPortRefusal | configReadTimeout | supplyFailure => cases h
  case frameBadCrc | completedFrameLost | report | faultNotice | answer =>
    exact ⟨frameEvent_keeps State.pending (fun _ _ _ => rfl) (fun _ _ => rfl) (fun _ _ => by simp) _ _ _ s,
      frameEvent_keeps State.loader (fun _ _ _ => rfl) (fun _ _ => rfl) (fun _ _ => by simp) _ _ _ s⟩
  case listenIntervalExpiry | isolationTimeoutExpiry =>
    simp only [effect, listenEnds, isolationEnds]
    (repeat' split) <;> simp
  case lineIdle | frameStart | frameC0Check | framePrefilter | framingError | skippedFrameEnd =>
    simp only [effect, lineIdle, frameStart, checkC0, prefilter, framingError, skippedEnd]
    (repeat' split) <;> simp
  case transmitStart | arbitrationLost | bitError | transmitComplete | reportTimerExpiry =>
    simp only [effect, loseArbitration, takeBitError, transmitEnds, reportDue]
    (repeat' split) <;> simp
  case staleExpiry | lostExpiry | removalExpiry | flowInputChange | flowDebounceExpiry =>
    simp only [effect, staleEnds, lostEnds, removalEnds, flowInput, restartDebounce, flowSettles]
    (repeat' split) <;> simp
  case roundTimerExpiry | conversionEnd | roundComplete | temperatureAgeExpiry | halfCycleMidpoint | checkRequestTimeout =>
    simp only [effect, roundTick, conversionEnds, roundEnds, ageExpires, midpoint, checkTimesOut]
    (repeat' split) <;> simp
  case zeroCrossEdge | periodEnd | mainsLost | slotChoiceIntervalExpiry =>
    simp only [effect, mainsEnds, slotChoiceEnds]
    (repeat' split) <;> simp
  case holdExpiry | recloseTimerExpiry | trialTimerExpiry | cleanPeriodExpiry =>
    simp only [effect, holdEnds, recloseEnds, trialEnds, cleanEnds]
    (repeat' split) <;> simp
  case leakageWatchExpiry | confirmationCountEnd | confirmationTimerExpiry =>
    simp only [effect, watchEnds, countEnds, confirmEnds]
    (repeat' split) <;> simp
  all_goals simp [effect]

/-- No effect touches the queue of commands. -/
theorem effect_pending (c : Instr) (s : State) : (effect c s).pending = s.pending := by
  cases c
  case powerOn | supplyFailure => rfl
  case configReadComplete | configPortRefusal | configReadTimeout =>
    simp only [effect, readTimeout, loadImage]
    (repeat' split) <;> simp
  all_goals exact (effect_frame rfl s).1

/-- A loader whose load has passed is not loading: no event of the load finds it (R8). -/
theorem loading_of_passed {s : State} (h : s.loader.status = .passed) : s.loading = false := by simp [State.loading, h]

/-- After a passed load the loader stands until the supply acts (R8). -/
theorem effect_loader {c : Instr} {s : State} (h : s.loader.status = .passed) (hon : c ≠ .powerOn) (hoff : c ≠ .supplyFailure) :
    (effect c s).loader = s.loader := by
  cases c
  case powerOn => exact absurd rfl hon
  case supplyFailure => exact absurd rfl hoff
  case configReadComplete | configPortRefusal | configReadTimeout =>
    simp only [effect, readTimeout, loading_of_passed h]
    (repeat' split) <;> simp_all
  all_goals exact (effect_frame rfl s).2

/-- Settles O2. -/
theorem commandsCompleteAndLeaveTheQueue : Obligations.CommandsCompleteAndLeaveTheQueue := by
  unfold Obligations.CommandsCompleteAndLeaveTheQueue
  refine ⟨fun c s t h => ?_, fun c s h => ⟨_, exec_of_wellFormed c s h⟩, fun dt bytes s h => ?_⟩
  · rw [exec_next h, effect_pending]
  · rw [exec_configReadComplete, if_neg h]

/-- Settles O7. -/
theorem configurationFixedAfterLoad : Obligations.ConfigurationFixedAfterLoad := by
  unfold Obligations.ConfigurationFixedAfterLoad
  intro c rest s t hp hon hoff hs h
  rw [step_effect hp h]
  exact effect_loader hs hon hoff

end Sys2Proof.Machine
end

section
/-! What every operation keeps of the station's three invariants, in one relation (`Keeps`) that composes: the agreement of outputs,
contactor, halt procedure and trip causes with the station state, the silence of a mute station, and a station state that moves to
HALTING or not at all. The operations of the channels, the outputs, the outgoing queue and the halt unit. -/

namespace Sys2Proof.Machine

/-! ## The invariants and what they read -/

/-- What `OutputsAgree` reads, the burst timer apart. -/
def outView (s : State) : Loader × StationState × ProcState × Four (List FaultKind) × Four (Option FaultKind) :=
  (s.loader, s.station.state, s.halt.proc, s.fault.locks, s.fault.tripCause)

/-- What `MuteSilent` reads. -/
def muteView (s : State) : Bool × TxState × List OutFrame × Option ReportContent × Option NoticeContent × CmdState :=
  (s.station.mute, s.line.tx, s.line.queue, s.line.hold, s.fault.pendingNotice, s.cmd)

/-- The period stands, and no output and no contactor comes on. -/
structure Recedes (b b' : Burst) : Prop where
  period : b'.period = b.period
  out : ∀ c, (b'.chans.get c).out = true → (b.chans.get c).out = true
  contactor : b'.contactor = true → b.contactor = true

theorem Recedes.of_eq {b b' : Burst} (h : b' = b) : Recedes b b' := h ▸ ⟨rfl, fun _ h => h, id⟩

theorem Recedes.trans {a b c : Burst} (h : Recedes a b) (g : Recedes b c) : Recedes a c :=
  ⟨g.period.trans h.period, fun c hc => h.out c (g.out c hc), fun hc => h.contactor (g.contactor hc)⟩

/-- The earth-leakage lock: some channel's lock list holds EARTH_LEAKAGE (R172). -/
theorem earthLock_iff (s : State) : s.earthLock = true ↔ ∃ c, FaultKind.earthLeakage ∈ s.fault.locks.get c := by
  simp only [State.earthLock, Four.toList, List.any_cons, List.any_nil, List.contains_iff_mem, Bool.or_eq_true, Bool.false_eq_true,
    or_false]
  constructor
  · rintro (h | h | h | h)
    exacts [⟨.c0, h⟩, ⟨.c1, h⟩, ⟨.c2, h⟩, ⟨.c3, h⟩]
  · rintro ⟨c, h⟩
    cases c
    exacts [.inl h, .inr (.inl h), .inr (.inr (.inl h)), .inr (.inr (.inr h))]

/-- The outputs agree still where the burst timer's outputs are settled by the same rule and nothing else that they rest on moved. -/
theorem OutputsAgree.of_burst {s t : State} (h : OutputsAgree s) (e : outView t = outView s)
    (hout : ∀ c, (t.burst.chans.get c).out = true → s.enabled c = true ∧ s.station.state.fires = true ∧ t.burst.period = .running)
    (hcon : t.burst.contactor = true → s.burst.contactor = true) : OutputsAgree t := by
  simp only [outView, Prod.mk.injEq] at e
  obtain ⟨hl, hs, hp, hk, hc⟩ := e
  refine ⟨by rw [hl, hs]; exact h.loaded, by rw [hs, hp]; exact h.proc, fun c ho => ?_, fun ho => ?_, by rw [hc]; exact h.causes⟩
  · simpa [State.enabled, hl, hs] using hout c ho
  · simpa [State.earthLock, hs, hk] using h.contactor (hcon ho)

/-- A mute station's line and command unit have nothing to send (R14, R44). -/
structure Quiet (s : State) : Prop where
  tx : s.line.tx = .idle
  queue : s.line.queue = []
  hold : s.line.hold = none
  pendingNotice : s.fault.pendingNotice = none
  cmd : s.cmd.occupied = false

theorem muteSilent_iff (s : State) : MuteSilent s ↔ (s.station.mute = true → Quiet s) :=
  ⟨fun h m => ⟨h.tx m, h.queue m, h.hold m, h.pendingNotice m, h.cmd m⟩,
    fun h => ⟨fun m => (h m).tx, fun m => (h m).queue, fun m => (h m).hold, fun m => (h m).pendingNotice, fun m => (h m).cmd⟩⟩

/-- Silence is a matter of the mute station alone. -/
theorem MuteSilent.of_quiet {s t : State} (h : MuteSilent s) (hm : t.station.mute = s.station.mute)
    (hq : s.station.mute = true → Quiet s → Quiet t) : MuteSilent t :=
  (muteSilent_iff t).mpr fun m => hq (hm ▸ m) ((muteSilent_iff s).mp h (hm ▸ m))

theorem MuteSilent.of_view {s t : State} (h : MuteSilent s) (e : muteView t = muteView s) : MuteSilent t := by
  simp only [muteView, Prod.mk.injEq] at e
  obtain ⟨hm, htx, hq, hh, hp, hc⟩ := e
  exact h.of_quiet hm fun _ q => ⟨htx ▸ q.tx, hq ▸ q.queue, hh ▸ q.hold, hp ▸ q.pendingNotice, hc ▸ q.cmd⟩

/-! ## The relation -/

/-- Both invariants are carried over. -/
structure Sound (s t : State) : Prop where
  outputs : OutputsAgree s → OutputsAgree t
  silent : MuteSilent s → MuteSilent t

theorem Sound.trans {s t u : State} (h : Sound s t) (g : Sound t u) : Sound s u := ⟨g.outputs ∘ h.outputs, g.silent ∘ h.silent⟩

/-- Both invariants are carried over, and the station state stands, or, where `halts` holds, goes from a serving state to HALTING. -/
structure Keeps (halts : Prop) (s t : State) : Prop extends Sound s t where
  moves : t.station.state = s.station.state ∨ (halts ∧ s.station.state.serves = true ∧ t.station.state = .halting)

section
variable {h : Prop} {s t u : State}

theorem Keeps.refl (s : State) : Keeps h s s := ⟨⟨id, id⟩, .inl rfl⟩

theorem Keeps.trans (a : Keeps h s t) (b : Keeps h t u) : Keeps h s u where
  toSound := a.toSound.trans b.toSound
  moves := by
    rcases a.moves with ha | ⟨hh, ha, ha'⟩
    · simpa only [ha] using b.moves
    · rcases b.moves with hb | ⟨-, hb, -⟩
      · exact .inr ⟨hh, ha, hb.trans ha'⟩
      · rw [ha'] at hb; cases hb

/-- What cannot halt keeps the station state. -/
theorem Keeps.state (a : Keeps False s t) : t.station.state = s.station.state := a.moves.resolve_right fun x => x.1

/-- All that the two invariants read. -/
def safeView (s : State) := (outView s, s.burst, muteView s)

theorem Keeps.of_line (e : outView t = outView s) (b : t.burst = s.burst) (hm : MuteSilent s → MuteSilent t) : Keeps h s t where
  outputs a := a.of_burst e (by rw [b]; exact a.outputs) (by rw [b]; exact id)
  silent := hm
  moves := .inl (by simp only [outView, Prod.mk.injEq] at e; exact e.2.1)

theorem Keeps.of_view (e : safeView t = safeView s) : Keeps h s t := by
  simp only [safeView, Prod.mk.injEq] at e
  exact .of_line e.1 e.2.1 fun a => a.of_view e.2.2

theorem Keeps.of_recedes (e : outView t = outView s) (b : Recedes s.burst t.burst) (m : muteView t = muteView s) : Keeps h s t where
  outputs a := a.of_burst e (fun c ho => by rw [b.period]; exact a.outputs c (b.out c ho)) b.contactor
  silent a := a.of_view m
  moves := .inl (by simp only [outView, Prod.mk.injEq] at e; exact e.2.1)

/-- What each application keeps, the operation on a list of channels keeps. -/
theorem Keeps.each {f : Chan → State → State} (hf : ∀ c s, Keeps h s (f c s)) (cs : List Chan) (s : State) : Keeps h s (s.each cs f) :=
  State.each_inv (fun t => Keeps h s t) (fun c _ _ k => k.trans (hf c _)) (.refl s)

end

section
variable {h : Prop}

/-! ## Time and pins -/

theorem advance_keeps (s : State) (dt : Nat) : Keeps h s (s.advance dt) := .of_view rfl
theorem reach_keeps (s : State) (t : Nat) : Keeps h s (s.reach t) := .of_view rfl
theorem showResidual_keeps (s : State) (r : Nat) : Keeps h s (s.showResidual r) := .of_view rfl

/-- The samples of the line change nothing that the invariants read (R20). -/
theorem hear_keeps (s : State) (dt : Nat) (wave : List Bool) : Keeps h s (s.hear dt wave) := by
  refine .of_view ?_
  simp only [safeView, outView, muteView, State.hear_loader, State.hear_station, State.hear_halt, State.hear_fault, State.hear_burst,
    State.hear_cmd, State.hear_line]
  split <;> simp

/-! ## Channels and outputs -/

theorem modChan_keeps (s : State) (c : Chan) (f : Channel → Channel) : Keeps h s (s.modChan c f) := .of_view rfl
theorem modMeas_keeps (s : State) (c : Chan) (f : ChanMeas → ChanMeas) : Keeps h s (s.modMeas c f) := .of_view rfl

/-- A burst channel changed with its output as it was, or off. -/
theorem modBurst_recedes (s : State) (c : Chan) (f : ChanBurst → ChanBurst) (hf : ∀ b, (f b).out = true → b.out = true) :
    Recedes s.burst (s.modBurst c f).burst where
  period := rfl
  out d ho := by
    by_cases e : d = c
    · subst e
      exact hf _ (by simpa using ho)
    · simpa [Four.get_set_other _ _ e] using ho
  contactor := id

/-- Every burst channel changed with its output as it was, or off. -/
theorem mapBurst_recedes (b : Burst) (f : ChanBurst → ChanBurst) (hf : ∀ b, (f b).out = true → b.out = true) :
    Recedes b { b with chans := b.chans.map f } := ⟨rfl, fun c ho => hf _ (by simpa using ho), id⟩

theorem ChanBurst.drive_out (b : ChanBurst) (now : Nat) (level : Bool) : (b.drive now level).out = level := by
  unfold ChanBurst.drive
  split
  · assumption
  · rfl

theorem startChoice_keeps (c : Chan) (s : State) : Keeps h s (startChoice c s) := .of_view rfl

theorem stopFiring_recedes (c : Chan) (s : State) : Recedes s.burst (stopFiring c s).burst := modBurst_recedes s c _ fun _ => id

theorem stopFiring_keeps (c : Chan) (s : State) : Keeps h s (stopFiring c s) := .of_recedes rfl (stopFiring_recedes c s) rfl

theorem chanToOff_keeps (c : Chan) (s : State) : Keeps h s (chanToOff c s) := (modChan_keeps s c _).trans (stopFiring_keeps c _)

theorem cutFirst_recedes (c : Chan) (s : State) : Recedes s.burst (cutFirst c s).burst := by
  unfold cutFirst
  split
  · show Recedes s.burst (s.modBurst c fun b => b.drive s.now false).burst
    exact modBurst_recedes s c _ fun b ho => absurd ho (by simp [ChanBurst.drive_out])
  · exact .of_eq rfl

theorem cutFirst_keeps (c : Chan) (s : State) : Keeps h s (cutFirst c s) :=
  .of_recedes (by simp [outView]) (cutFirst_recedes c s) (by simp [muteView])

theorem stopChan_recedes (c : Chan) (st : ChanState) (hold : Option Nat) {s t : State} (e : t.burst = s.burst) :
    Recedes s.burst (stopChan c st hold t).burst :=
  e ▸ (stopFiring_recedes c (t.modChan c _)).trans (cutFirst_recedes c _)

theorem stopChan_keeps (c : Chan) (st : ChanState) (hold : Option Nat) (s : State) : Keeps h s (stopChan c st hold s) :=
  ((modChan_keeps s c _).trans (stopFiring_keeps c _)).trans (cutFirst_keeps c _)

theorem holdChan_keeps (expiry : Nat) (c : Chan) (s : State) : Keeps h s (holdChan expiry c s) := by
  unfold holdChan
  split
  · exact modChan_keeps s c _
  · exact .refl s
  · exact .refl s
  · exact stopChan_keeps c _ _ s

theorem firingToOff_recedes (s : State) : Recedes s.burst (firingToOff s).burst := by
  refine State.each_inv (fun t => Recedes s.burst t.burst) (fun c _ t ht => ?_) (.of_eq rfl)
  show Recedes s.burst (ite _ _ _ : State).burst
  split
  · exact ht.trans (stopFiring_recedes c (t.modChan c _))
  · exact ht

theorem startOffChannels_keeps (s : State) : Keeps h s (startOffChannels s) := .of_view (by simp [safeView, outView, muteView])

/-- After it no output is on (R117). -/
theorem outputsOff_out (s : State) (c : Chan) : ((outputsOff s).burst.chans.get c).out = false := by
  simp [outputsOff, ChanBurst.drive_out]

theorem outputsOff_keeps (s : State) : Keeps h s (outputsOff s) :=
  .of_recedes rfl ⟨rfl, fun c ho => absurd ho (by simp [outputsOff_out]), id⟩ rfl

theorem discardChecks_keeps (s : State) : Keeps h s (discardChecks s) := .of_recedes rfl (mapBurst_recedes _ _ fun _ => id) rfl

/-- An output that is due is due by R117's conditions. -/
theorem outputDue_conditions {s : State} {c : Chan} (ho : outputDue s c = true) :
    s.enabled c = true ∧ s.station.state.fires = true ∧ s.burst.period = .running := by
  unfold outputDue at ho
  split at ho
  · simp only [Bool.and_eq_true, decide_eq_true_eq] at ho
    obtain ⟨⟨⟨⟨⟨he, -⟩, hf⟩, -⟩, hp⟩, -⟩ := ho
    exact ⟨he, hf, hp⟩
  · cases ho

theorem settleOutputs_keeps (s : State) : Keeps h s (settleOutputs s) where
  outputs a := a.of_burst rfl (fun c ho => outputDue_conditions (by simpa [settleOutputs, settledOutput, ChanBurst.drive_out] using ho)) id
  silent a := a.of_view rfl
  moves := .inl rfl

theorem clearPhases_keeps (s : State) : Keeps h s (clearPhases s) := .of_view rfl

theorem alignment_keeps (s : State) : Keeps h s (alignment s) := .of_recedes rfl ⟨rfl, fun _ => id, id⟩ rfl

theorem applySlot_keeps (s : State) : Keeps h s (applySlot s) := by
  unfold applySlot
  split
  · exact .of_recedes rfl ⟨rfl, fun _ => id, id⟩ rfl
  · exact .refl s

/-- A period that begins turns nothing on by itself (R110). -/
theorem freshPeriod_keeps (s : State) : Keeps h s (freshPeriod s) where
  outputs a := a.of_burst rfl (fun c ho => by
    obtain ⟨he, hf, -⟩ := a.outputs c (by simpa [freshPeriod] using ho)
    exact ⟨he, hf, rfl⟩) id
  silent a := a.of_view rfl
  moves := .inl rfl

theorem openContactor_keeps (s : State) : Keeps h s (setContactor false s) := .of_recedes rfl ⟨rfl, fun _ => id, fun hc => by cases hc⟩ rfl

/-- The contactor may close in a serving state without the earth-leakage lock (R124). -/
theorem closeContactor_keeps {s : State} (hs : s.station.state.serves = true) (he : s.earthLock = false) :
    Keeps h s (setContactor true s) where
  outputs a := ⟨a.loaded, a.proc, a.outputs, fun _ => ⟨hs, he⟩, a.causes⟩
  silent a := a.of_view rfl
  moves := .inl rfl

theorem stopAllFiring_recedes (s : State) : Recedes s.burst (stopAllFiring s).burst := mapBurst_recedes _ _ fun _ => id

theorem makeSlotChoice_keeps (s : State) : Keeps h s (makeSlotChoice s) := .of_recedes rfl ⟨rfl, fun _ => id, id⟩ rfl

theorem setFlow_keeps (s : State) : Keeps h s (setFlow s) := .of_view (by simp [safeView, outView, muteView])

/-! ## The outgoing queue -/

/-- A report instant of a mute station offers nothing (R14). -/
theorem reportInstant_keeps (s : State) : Keeps h s (reportInstant s) :=
  .of_line (by simp [outView]) (by simp) fun a => a.of_quiet (by simp) fun m q =>
    ⟨by simpa [reportInstant, m] using q.tx, by simpa [reportInstant, m] using q.queue, by simpa [reportInstant, m] using q.hold,
      by simpa using q.pendingNotice, by simpa using q.cmd⟩

/-- Offering a notice leaves the conditions, the locks, the trip causes and the watch. -/
@[simp] theorem offerNotice_marks (n : NoticeContent) (s : State) :
    (offerNotice n s).fault.conds = s.fault.conds ∧ (offerNotice n s).fault.locks = s.fault.locks ∧
    (offerNotice n s).fault.tripCause = s.fault.tripCause ∧ (offerNotice n s).fault.watch = s.fault.watch := by
  unfold offerNotice
  (repeat' split) <;> simp [placeNotice, keepPending]

theorem offerNotice_keeps (n : NoticeContent) (s : State) : Keeps h s (offerNotice n s) :=
  .of_line (by simp [outView]) (by simp) fun a => a.of_quiet (by simp) fun m q => by
    have e : offerNotice n s = { s with fault := { s.fault with pendingNotice := none } } := by simp [offerNotice, m]
    rw [e]
    exact ⟨q.tx, q.queue, q.hold, rfl, q.cmd⟩

theorem nextNotice_keeps (s : State) : Keeps h s (nextNotice s) := by
  have placed : Keeps h s { s with fault := { s.fault with placed := none } } := .of_view rfl
  have waiting : ∀ (t : State) (l : List Occ), Keeps h t { t with fault := { t.fault with awaiting := l } } := fun _ _ => .of_view rfl
  unfold nextNotice
  dsimp only
  split
  · exact placed.trans (offerNotice_keeps _ _)
  · split
    · exact (placed.trans (waiting _ _)).trans (offerNotice_keeps _ _)
    · exact placed

theorem offerPending_keeps (s : State) : Keeps h s (offerPending s) := by
  unfold offerPending
  split
  · exact offerNotice_keeps _ s
  · exact .refl s

theorem offerHold_keeps (s : State) : Keeps h s (offerHold s) :=
  .of_line (by simp [outView]) (by simp) fun a => a.of_quiet (by simp) fun _ q => by
    have e : offerHold s = s := by simp [offerHold, q.hold]
    rwa [e]

theorem offerCompletion_keeps (s : State) : Keeps h s (offerCompletion s) :=
  .of_line (by simp [outView]) (by simp) fun a => a.of_quiet (by simp) fun _ q => by
    have e : offerCompletion s = s := by
      unfold offerCompletion
      split
      · rename_i hc
        exact absurd q.cmd (by simp [hc, CmdState.occupied])
      · rfl
    rwa [e]

theorem placeFreed_keeps (s : State) : Keeps h s (placeFreed s) :=
  ((offerPending_keeps s).trans (offerHold_keeps _)).trans (offerCompletion_keeps _)

/-- The end of a deferred command's work at a mute station sends nothing (R14, R49). -/
theorem completeDeferred_keeps (name : Deferred) (st : Status) (result : List Byte) (s : State) :
    Keeps h s (completeDeferred name st result s) :=
  .of_line (by simp [outView]) (by simp) fun a => a.of_quiet (by simp) fun m q => by
    rcases completeDeferred_cases name st result s with e | ⟨_, _, _, -, ⟨-, e⟩ | ⟨-, hm, -⟩ | ⟨-, hm, -⟩⟩
    · rwa [e]
    · rw [e]
      exact ⟨q.tx, q.queue, q.hold, q.pendingNotice, rfl⟩
    · rw [m] at hm; cases hm
    · rw [m] at hm; cases hm

/-- What an answer's carrying out keeps, the reply keeps: a mute station appends none (R14, R47). -/
theorem reply_respects {f : RxFrame} {st : Status} {result : List Byte} {act : State → State} (hact : ∀ s, Keeps h s (act s)) (s : State) :
    Keeps h s (reply f st result act s) := by
  refine reply_inv (fun t => Keeps h s t) (fun _ hm => ?_) (.of_view rfl) (fun t k => k.trans (hact t)) (.refl s)
  exact .of_line rfl rfl fun a => a.of_quiet rfl fun m => by rw [hm] at m; cases m

/-! ## The halt unit -/

theorem endLeakTest_keeps (s : State) : Keeps h s (endLeakTest s) := .of_view rfl

theorem abortLeakTest_keeps (s : State) : Keeps h s (abortLeakTest s) := by
  unfold abortLeakTest
  split
  · exact .refl s
  · exact (endLeakTest_keeps s).trans (completeDeferred_keeps _ _ _ _)

theorem writeSecond_keeps (cause : HaltCause) (s : State) : Keeps h s (writeSecond cause s) := .of_view rfl

/-- R202: after steps 1 to 3 no output is on and the contactor is open. -/
theorem beginHalt_off (cause : HaltCause) (s : State) :
    (∀ c, ((beginHalt cause s).burst.chans.get c).out = false) ∧ (beginHalt cause s).burst.contactor = false :=
  ⟨fun c => outputsOff_out s c, rfl⟩

theorem beginHalt_keeps (cause : HaltCause) (s : State) : Keeps h s (beginHalt cause s) := by
  obtain ⟨ho, hc⟩ := beginHalt_off cause s
  exact .of_recedes rfl ⟨rfl, fun c h => absurd h (by simp [ho]), fun h => absurd h (by simp [hc])⟩ rfl

/-- The blocks at the entry to HALTING, before a leak test ends and the procedure state is set (R203). -/
def haltingBlocks (s : State) : State :=
  let s := stopAllFiring (firingToOff s)
  { s with burst := { s.burst with slotTimer := none },
           station := { s.station with state := .halting, listenTimer := none, isolationTimer := none } }

theorem enterHalting_eq (s : State) : enterHalting s =
    reportInstant { abortLeakTest (haltingBlocks s) with
      halt := { (abortLeakTest (haltingBlocks s)).halt with proc := .confirming } } := rfl

@[simp] theorem enterHalting_state (s : State) : (enterHalting s).station.state = .halting := by
  simp [enterHalting_eq, haltingBlocks]

@[simp] theorem enterHalting_proc (s : State) : (enterHalting s).halt.proc = .confirming := by simp [enterHalting_eq]

theorem enterHalting_recedes (s : State) : Recedes s.burst (enterHalting s).burst := by
  have e : (enterHalting s).burst = { (stopAllFiring (firingToOff s)).burst with slotTimer := none } := by
    simp [enterHalting_eq, haltingBlocks]
  have r := (firingToOff_recedes s).trans (stopAllFiring_recedes (firingToOff s))
  exact e ▸ ⟨r.period, r.out, r.contactor⟩

/-- The entry to HALTING with every output off and the contactor open (R202, R203). -/
theorem enterHalting_sound {s : State} (ho : ∀ c, (s.burst.chans.get c).out = false) (hc : s.burst.contactor = false)
    (hs : s.station.state.serves = true) : Sound s (enterHalting s) where
  outputs a := by
    have r := enterHalting_recedes s
    refine ⟨?_, by simp [procFollows], fun c h => ?_, fun h => ?_, by simpa using a.causes⟩
    · have hp : s.loader.status = .passed := a.loaded.mpr (by intro e; rw [e] at hs; cases hs)
      simp [hp]
    · exact absurd (r.out c h) (by simp [ho])
    · exact absurd (r.contactor h) (by simp [hc])
  silent a := by
    have blocks : MuteSilent (haltingBlocks s) := a.of_view (by simp [muteView, haltingBlocks])
    have test := (abortLeakTest_keeps (h := False) (haltingBlocks s)).silent blocks
    rw [enterHalting_eq]
    exact (reportInstant_keeps (h := False) _).silent (test.of_view rfl)

end

end Sys2Proof.Machine
end

section
/-! What the fault unit, the control step, the sequencer and the burst timer keep of the station's invariants (`Keeps`). -/

namespace Sys2Proof.Machine

/-! ## Notices and records -/

@[simp] theorem noticeRow_marks (o : Occ) (s : State) :
    (noticeRow o s).fault.conds = s.fault.conds ∧ (noticeRow o s).fault.locks = s.fault.locks ∧
    (noticeRow o s).fault.tripCause = s.fault.tripCause ∧ (noticeRow o s).fault.watch = s.fault.watch := by
  unfold noticeRow
  (repeat' split) <;> simp [awaitNotice, keepPending]

@[simp] theorem settleNotice_marks (o : Occ) (s : State) :
    (settleNotice o s).fault.conds = s.fault.conds ∧ (settleNotice o s).fault.locks = s.fault.locks ∧
    (settleNotice o s).fault.tripCause = s.fault.tripCause ∧ (settleNotice o s).fault.watch = s.fault.watch := by
  unfold settleNotice
  split <;> simp [raiseEntry]

/-- Recording an occurrence leaves the conditions, the locks, the trip causes and the watch. -/
@[simp] theorem recordOccurrence_marks (d : Detection) (cls : FaultClass) (trial due : Bool) (s : State) :
    (recordOccurrence d cls trial due s).fault.conds = s.fault.conds ∧
    (recordOccurrence d cls trial due s).fault.locks = s.fault.locks ∧
    (recordOccurrence d cls trial due s).fault.tripCause = s.fault.tripCause ∧
    (recordOccurrence d cls trial due s).fault.watch = s.fault.watch := by
  unfold recordOccurrence
  dsimp only
  split <;> simp [writeQueue]

/-- A mute station writes the queue and offers no notice (R14). -/
theorem recordOccurrence_mute (d : Detection) (cls : FaultClass) (trial due : Bool) (s : State) (m : s.station.mute = true) :
    recordOccurrence d cls trial due s = writeQueue d cls trial s := by
  unfold recordOccurrence
  dsimp only
  split
  · exact settleNotice_mute _ _ m
  · rfl

section
variable {h : Prop}

theorem recordOccurrence_keeps (d : Detection) (cls : FaultClass) (trial due : Bool) (s : State) :
    Keeps h s (recordOccurrence d cls trial due s) :=
  .of_line (by simp [outView]) (by simp) fun a => a.of_quiet (by simp) fun m q => by
    rw [recordOccurrence_mute d cls trial due s m]
    exact ⟨q.tx, q.queue, q.hold, q.pendingNotice, q.cmd⟩

theorem addCond_keeps (s : State) (x : Cond) : Keeps h s (s.addCond x) := .of_view rfl
theorem clearCond_keeps (s : State) (k : FaultKind) (c : Option Chan) : Keeps h s (s.clearCond k c) := .of_view rfl
theorem endTripConds_keeps (c : Chan) (s : State) : Keeps h s (endTripConds c s) := .of_view rfl
theorem startWatch_keeps (s : State) : Keeps h s (startWatch s) := by
  unfold startWatch
  split
  · exact .of_view rfl
  · exact .refl s

/-! ## Trips and locks -/

theorem mem_joinLock {x k : FaultKind} {l : List FaultKind} : x ∈ joinLock k l ↔ x = k ∨ x ∈ l := by
  unfold joinLock
  split
  · rename_i hk
    have hk' : k ∈ l := List.contains_iff_mem.mp hk
    exact ⟨.inr, fun hx => hx.elim (fun e => e ▸ hk') id⟩
  · simp [or_comm]

theorem mem_joinCause {x : FaultKind} {cause : Option FaultKind} {l : List FaultKind} :
    x ∈ joinCause cause l ↔ cause = some x ∨ x ∈ l := by
  cases cause with
  | none => simp [joinCause]
  | some k => simp [joinCause, mem_joinLock, eq_comm]

/-- The outputs agree still where locks and trip causes changed within their rules, and nothing came on. -/
theorem OutputsAgree.of_fault {s t : State} (a : OutputsAgree s) (hl : t.loader = s.loader)
    (hs : t.station.state = s.station.state) (hp : t.halt.proc = s.halt.proc) (b : Recedes s.burst t.burst)
    (hk : t.burst.contactor = true → s.earthLock = false → t.earthLock = false)
    (hc : ∀ c k, t.fault.tripCause.get c = some k → k = .overcurrent ∨ k = .overtemp ∨ k = .heaterOpen) : OutputsAgree t where
  loaded := by rw [hl, hs]; exact a.loaded
  proc := by rw [hs, hp]; exact a.proc
  outputs c ho := by
    obtain ⟨he, hf, hr⟩ := a.outputs c (b.out c ho)
    exact ⟨by simpa [State.enabled, hl] using he, by rwa [hs], by rwa [b.period]⟩
  contactor ho := by
    obtain ⟨hv, he⟩ := a.contactor (b.contactor ho)
    exact ⟨by rwa [hs], hk ho he⟩
  causes := hc

/-- A trip cause set for one channel, to none or to a kind that trips. -/
theorem causes_set {s : State} (a : OutputsAgree s) {c : Chan} {x : Option FaultKind}
    (hx : ∀ k, x = some k → k = .overcurrent ∨ k = .overtemp ∨ k = .heaterOpen) (d : Chan) (k : FaultKind)
    (hk : (s.fault.tripCause.set c x).get d = some k) : k = .overcurrent ∨ k = .overtemp ∨ k = .heaterOpen := by
  by_cases e : d = c
  · subst e
    exact hx k (by simpa using hk)
  · exact a.causes d k (by simpa [Four.get_set_other _ _ e] using hk)

theorem lockChan_fault (k : FaultKind) (c : Chan) (s : State) :
    (lockChan k c s).fault.locks =
      s.fault.locks.set c (joinLock k (joinCause (s.fault.tripCause.get c) (s.fault.locks.get c))) ∧
    (lockChan k c s).fault.tripCause = s.fault.tripCause.set c none := by
  unfold lockChan
  dsimp only
  split <;> simp [endTripConds]

theorem lockChan_recedes (k : FaultKind) (c : Chan) (s : State) : Recedes s.burst (lockChan k c s).burst := by
  unfold lockChan
  dsimp only
  split
  · exact .of_eq rfl
  · rw [State.modChan_burst]
    exact stopChan_recedes c .locked none rfl

/-- A lock by another kind brings no earth-leakage lock, and one by EARTH_LEAKAGE is asked with the contactor open (R124, R180). -/
theorem lockChan_keeps {k : FaultKind} (c : Chan) {s : State} (hk : k = .earthLeakage → s.burst.contactor = false) :
    Keeps h s (lockChan k c s) where
  outputs a := by
    obtain ⟨locks, causes⟩ := lockChan_fault k c s
    refine a.of_fault (by simp) (by simp) (by simp) (lockChan_recedes k c s) (fun hcon he => ?_) (fun d x hx => ?_)
    · rw [Bool.eq_false_iff, ne_eq, earthLock_iff] at he ⊢
      rintro ⟨d, hd⟩
      rw [locks] at hd
      by_cases e : d = c
      · subst e
        rw [Four.get_set_same, mem_joinLock, mem_joinCause] at hd
        rcases hd with hd | hd | hd
        · exact absurd ((lockChan_recedes k d s).contactor hcon) (by simp [hk hd.symm])
        · have := a.causes d _ hd
          simp at this
        · exact he ⟨d, hd⟩
      · rw [Four.get_set_other _ _ e] at hd
        exact he ⟨d, hd⟩
    · exact causes_set a (fun _ e => by cases e) d x (causes ▸ hx)
  silent a := a.of_view (by
    unfold lockChan
    dsimp only
    split <;> simp [muteView, endTripConds])
  moves := .inl (by simp)

theorem lockAll_keeps {k : FaultKind} {s : State} (hk : k = .earthLeakage → s.burst.contactor = false) :
    Keeps h s (lockAll k s) := by
  refine (State.each_inv (fun t => Keeps h s t ∧ (k = .earthLeakage → t.burst.contactor = false)) ?_ ⟨.refl s, hk⟩).1
  rintro c - t ⟨ht, hc⟩
  refine ⟨ht.trans (lockChan_keeps c hc), fun e => ?_⟩
  rw [Bool.eq_false_iff]
  intro ho
  exact absurd ((lockChan_recedes k c t).contactor ho) (by simp [hc e])

theorem tripChan_recedes (k : FaultKind) (reclose : Option Nat) (c : Chan) (s : State) :
    Recedes s.burst (tripChan k reclose c s).burst := by
  unfold tripChan
  rw [State.modChan_burst]
  exact stopChan_recedes c .tripped none rfl

theorem tripChan_keeps {k : FaultKind} (hk : k = .overcurrent ∨ k = .overtemp ∨ k = .heaterOpen) (reclose : Option Nat) (c : Chan)
    (s : State) : Keeps h s (tripChan k reclose c s) where
  outputs a := a.of_fault (by simp) (by simp) (by simp) (tripChan_recedes k reclose c s)
    (fun _ he => by simpa [tripChan, State.earthLock] using he)
    (causes_set a (c := c) (x := some k) (fun x e => by cases e; exact hk) · · <| by simpa [tripChan] using ·)
  silent a := a.of_view (by simp [muteView, tripChan])
  moves := .inl (by simp)

theorem occurCounted_keeps {d : Detection} (hd : d.kind = .overcurrent ∨ d.kind = .heaterOpen) (c : Chan) (s : State) :
    Keeps h s (occurCounted d c s) := by
  have lock : ∀ (trial : Bool) (n : Nat), Keeps h s (recordOccurrence d .lock trial true
      (lockChan d.kind c (s.modChan c fun ch => { ch with trips := n }))) := fun trial n =>
    ((modChan_keeps s c _).trans (lockChan_keeps c fun e => by rw [e] at hd; simp at hd)).trans (recordOccurrence_keeps ..)
  unfold occurCounted
  dsimp only
  (repeat' split)
  · exact .refl s
  · exact recordOccurrence_keeps ..
  · exact (addCond_keeps s _).trans (recordOccurrence_keeps ..)
  · exact lock true _
  · exact lock false _
  · refine ((((modChan_keeps s c _).trans (addCond_keeps _ _)).trans (tripChan_keeps ?_ _ c _))).trans (recordOccurrence_keeps ..)
    rcases hd with e | e <;> simp [e]

theorem occurOvertemp_keeps (d : Detection) (c : Chan) (s : State) : Keeps h s (occurOvertemp d c s) := by
  unfold occurOvertemp
  dsimp only
  (repeat' split)
  · exact recordOccurrence_keeps ..
  · exact (addCond_keeps s _).trans (recordOccurrence_keeps ..)
  · exact ((addCond_keeps s _).trans (lockChan_keeps c fun e => by cases e)).trans (recordOccurrence_keeps ..)
  · exact ((addCond_keeps s _).trans (tripChan_keeps (.inr (.inl rfl)) _ c _)).trans (recordOccurrence_keeps ..)

theorem occurEarth_keeps (d : Detection) (s : State) : Keeps h s (occurEarth d s) := by
  unfold occurEarth
  dsimp only
  split
  · exact (startWatch_keeps s).trans (recordOccurrence_keeps ..)
  · have off : Keeps h s (setContactor false (outputsOff s)) := (outputsOff_keeps s).trans (openContactor_keeps _)
    have lock := off.trans (lockAll_keeps (k := .earthLeakage) fun _ => rfl)
    exact ((lock.trans (addCond_keeps _ _)).trans (startWatch_keeps _)).trans (recordOccurrence_keeps ..)

theorem occurTestFail_keeps (d : Detection) (s : State) : Keeps h s (occurTestFail d s) := by
  unfold occurTestFail
  split
  · exact recordOccurrence_keeps ..
  · exact ((lockAll_keeps fun e => by cases e).trans (addCond_keeps _ _)).trans (recordOccurrence_keeps ..)

theorem occurNote_keeps (d : Detection) (s : State) : Keeps h s (occurNote d s) := by
  unfold occurNote
  split
  · exact recordOccurrence_keeps ..
  · exact (addCond_keeps s _).trans (recordOccurrence_keeps ..)

/-- A first cause is taken in a serving state alone (R200). -/
theorem serves_of_first {st : StationState} {x : Halt} (e : causeTaken st x = .first) : st.serves = true := by
  unfold causeTaken at e
  split at e
  · split at e
    · assumption
    · cases e
  · split at e <;> cases e
  · split at e <;> cases e
  · cases e

/-- A HALT-class occurrence halts a serving station, with every output off and the contactor open before the state changes (R202). -/
theorem occurHalt_keeps (hh : h) (d : Detection) (cause : HaltCause) (s : State) : Keeps h s (occurHalt d cause s) := by
  unfold occurHalt
  dsimp only
  split
  · exact recordOccurrence_keeps ..
  · split
    · rename_i e
      have hs : s.station.state.serves = true := serves_of_first e
      have begun : Keeps h s (recordOccurrence d .halt false true (beginHalt cause (s.addCond ⟨d.kind, d.chan, .halt⟩))) :=
        ((addCond_keeps s _).trans (beginHalt_keeps cause _)).trans (recordOccurrence_keeps ..)
      obtain ⟨ho, hc⟩ := beginHalt_off cause (s.addCond ⟨d.kind, d.chan, .halt⟩)
      refine ⟨begun.toSound.trans (enterHalting_sound ?_ ?_ ?_), .inr ⟨hh, hs, enterHalting_state _⟩⟩
      · simpa using ho
      · simpa using hc
      · simpa using hs
    · exact ((addCond_keeps s _).trans (writeSecond_keeps _ _)).trans (recordOccurrence_keeps ..)
    · exact (addCond_keeps s _).trans (recordOccurrence_keeps ..)

/-- An occurrence: only one of a HALT-class kind can halt the station (R170, R200). -/
theorem occur_keeps {d : Detection} (hd : d.kind.haltCause ≠ none → h) (s : State) : Keeps h s (occur d s) := by
  obtain ⟨kind, chan, value⟩ := d
  cases kind
  case earthLeakage => exact occurEarth_keeps _ s
  case leakTestFail => exact occurTestFail_keeps _ s
  case switchStuck | outputReadback | leakagePersists | operatorStop => exact occurHalt_keeps (hd (by simp [FaultKind.haltCause])) _ _ s
  case overcurrent =>
    cases chan with
    | none => exact .refl s
    | some c => exact occurCounted_keeps (.inl rfl) c s
  case heaterOpen =>
    cases chan with
    | none => exact .refl s
    | some c => exact occurCounted_keeps (.inr rfl) c s
  case overtemp =>
    cases chan with
    | none => exact .refl s
    | some c => exact occurOvertemp_keeps _ c s
  all_goals exact occurNote_keeps _ s

/-- An occurrence of a kind that is no halt cause. -/
theorem occur_mild {d : Detection} (hd : d.kind.haltCause = none) (s : State) : Keeps h s (occur d s) :=
  occur_keeps (fun e => absurd hd e) s

theorem occurAll_keeps (hh : h) (ds : List Detection) (s : State) : Keeps h s (occurAll ds s) :=
  occurAll_inv (fun t => Keeps h s t) (fun _ t k => k.trans (occur_keeps (fun _ => hh) t)) ds (.refl s)

/-- The trip cause of a channel set, with the conditions of its trip ended. -/
theorem turnCause_keeps (c : Chan) (x : Option FaultKind) (hx : ∀ k, x = some k → k = .overcurrent ∨ k = .overtemp ∨ k = .heaterOpen)
    (s : State) : Keeps h s { s with fault := { s.fault with tripCause := s.fault.tripCause.set c x } } where
  outputs a := a.of_fault rfl rfl rfl (.of_eq rfl) (fun _ he => he) (causes_set a hx)
  silent a := a.of_view rfl
  moves := .inl rfl

theorem endTrip_keeps (trial : Bool) (c : Chan) (s : State) : Keeps h s (endTrip trial c s) :=
  (((turnCause_keeps c none (fun _ e => by cases e) s).trans (endTripConds_keeps c _)).trans (modChan_keeps _ c _)).trans
    (startChoice_keeps c _)

/-- A lock list emptied: an earth-leakage lock may end by it, and none begins (R185). -/
theorem emptyLock_keeps (c : Chan) (s : State) :
    Keeps h s { s with fault := { s.fault with locks := s.fault.locks.set c [] } } where
  outputs a := a.of_fault rfl rfl rfl (.of_eq rfl) (fun _ he => by
    rw [Bool.eq_false_iff, ne_eq, earthLock_iff] at he ⊢
    rintro ⟨d, hd⟩
    by_cases e : d = c
    · subst e; simp at hd
    · exact he ⟨d, by simpa [Four.get_set_other _ _ e] using hd⟩) a.causes
  silent a := a.of_view rfl
  moves := .inl rfl

theorem unlockChan_keeps (c : Chan) (s : State) : Keeps h s (unlockChan c s) :=
  (((emptyLock_keeps c s).trans (endTripConds_keeps c _)).trans (modChan_keeps _ c _)).trans (startChoice_keeps c _)

theorem endEarthLock_keeps {s : State} (hs : s.station.state.serves = true) (he : s.earthLock = false) :
    Keeps h s (endEarthLock s) := (clearCond_keeps s _ _).trans (closeContactor_keeps hs he)

theorem turnToOvertemp_keeps (c : Chan) (s : State) : Keeps h s (turnToOvertemp c s) :=
  ((turnCause_keeps c (some .overtemp) (fun k e => by cases e; exact .inr (.inl rfl)) s).trans (modChan_keeps _ c _)).trans
    (endTripConds_keeps c _)

theorem recloseChan_keeps (c : Chan) (s : State) : Keeps h s (recloseChan c s) := by
  unfold recloseChan
  split
  · exact turnToOvertemp_keeps c s
  · exact endTrip_keeps true c s

/-! ## The control step -/

theorem setFiring_keeps (s : State) : Keeps h s (setFiring s) := by
  refine .of_recedes rfl ⟨rfl, fun c ho => ?_, id⟩ rfl
  have e : (firingOf s c).out = (s.burst.chans.get c).out := by
    simp only [firingOf]
    split <;> rfl
  simpa [setFiring, e] using ho

theorem controlStep_keeps (s : State) : Keeps h s (controlStep s) := by
  refine (setFlow_keeps s).trans ?_
  show Keeps h _ (ite _ _ _ : State)
  split
  · unfold firingStep
    refine Keeps.trans ?_ (setFiring_keeps _)
    exact .of_view rfl
  · unfold idleStep
    refine Keeps.trans ?_ (setFiring_keeps _)
    exact .of_view rfl

/-! ## The measurement sequencer -/

/-- The sequencer's own cells are none that the invariants read. -/
theorem meas_keeps (s : State) (m : Meas) : Keeps h s { s with meas := m } := .of_view rfl

theorem startNext_keeps (s : State) : Keeps h s (startNext s) := .of_view (by simp [safeView, outView, muteView])
theorem startRequested_keeps (s : State) : Keeps h s (startRequested s) := .of_view (by simp [safeView, outView, muteView])
theorem beginRound_keeps (s : State) : Keeps h s (beginRound s) := .of_view (by simp [safeView, outView, muteView])

theorem SensorCond.kind_mild (k : SensorCond) : k.kind.haltCause = none := by cases k <;> rfl

theorem wallFaults_keeps (c : Chan) (old new : SensorState) (raised : Option SensorCond) (s : State) :
    Keeps h s (wallFaults c old new raised s) := by
  unfold wallFaults
  split
  · rename_i k o _
    refine Keeps.trans ?_ (occur_mild k.kind_mild _)
    split
    · exact .refl s
    · exact clearCond_keeps s _ _
  · rename_i k _
    exact occur_mild k.kind_mild s
  · split
    · exact clearCond_keeps s _ _
    · exact .refl s
  · exact .refl s

theorem ambientFaults_keeps (old new : SensorState) (raised : Option SensorCond) (s : State) :
    Keeps h s (ambientFaults old new raised s) := by
  unfold ambientFaults
  split
  · exact occur_mild rfl s
  · split
    · exact clearCond_keeps s _ _
    · exact .refl s
  · exact .refl s

theorem takeWall_keeps (c : Chan) (s : State) : Keeps h s (takeWall c s) := (meas_keeps s _).trans (wallFaults_keeps ..)

theorem takeAmbient_keeps (raw : Nat) (s : State) : Keeps h s (takeAmbient raw s) := (meas_keeps s _).trans (ambientFaults_keeps ..)

theorem goodRound_keeps (raw : Nat) (s : State) : Keeps h s (goodRound raw s) :=
  (((meas_keeps s _).trans (clearCond_keeps _ _ _)).trans (.each takeWall_keeps _ _)).trans (takeAmbient_keeps raw _)

theorem badRound_keeps (s : State) : Keeps h s (badRound s) := (meas_keeps s _).trans (occur_mild rfl _)

theorem alarmCheck_keeps (c : Chan) (s : State) : Keeps h s (alarmCheck c s) := by
  unfold alarmCheck
  split
  · exact .refl s
  · dsimp only
    (repeat' split)
    · exact (startChoice_keeps c s).trans (occur_mild rfl _)
    · exact occur_mild rfl s
    · exact .refl s
    · exact (clearCond_keeps s _ _).trans (clearCond_keeps _ _ _)
    · exact .refl s

theorem overtempCheck_keeps (c : Chan) (s : State) : Keeps h s (overtempCheck c s) := by
  unfold overtempCheck
  split
  · exact .refl s
  · dsimp only
    (repeat' split)
    · exact .refl s
    · exact occur_mild rfl s
    · exact (clearCond_keeps s _ _).trans (endTrip_keeps false c _)
    · exact clearCond_keeps s _ _
    · exact .refl s

theorem finishMeasure_keeps (s : State) : Keeps h s (finishMeasure s) := by
  unfold finishMeasure
  split
  · exact (meas_keeps s _).trans (completeDeferred_keeps ..)
  · exact .refl s

theorem finishRound_keeps (raw : Nat) (s : State) : Keeps h s (finishRound raw s) := by
  have round : Keeps h s (if spanGood s.meas.rawLo s.meas.rawHi then goodRound raw s else badRound s) := by
    split
    · exact goodRound_keeps raw s
    · exact badRound_keeps s
  exact ((round.trans (.each alarmCheck_keeps _ _)).trans (.each overtempCheck_keeps _ _)).trans (finishMeasure_keeps _)

theorem storeReading_keeps (r : Reading) (raw : Nat) (s : State) : Keeps h s (storeReading r raw s) := by
  have stored : ∀ m : Meas, Keeps h s (startNext { s with meas := m }) := fun m => (meas_keeps s m).trans (startNext_keeps _)
  cases r with
  | refLo | refHi | wall c => exact stored _
  | ambient => exact (stored _).trans (finishRound_keeps raw _)

/-- The confirmation time and the check are parts of HALTING (R198). -/
theorem halting_of_proc {st : StationState} {p : ProcState} (a : procFollows st p) (hp : p = .confirming ∨ p = .checking) :
    st = .halting := by
  cases st <;> rcases hp with rfl | rfl <;> simp [procFollows] at a ⊢

/-- The check decision is taken in CHECKING, a part of HALTING, and ends in HALTED (R204, R206). -/
theorem checkDecision_sound {s : State} (hp : s.halt.proc = .checking) : Sound s (checkDecision s) where
  outputs a := by
    have hs : s.station.state = .halting := halting_of_proc a.proc (.inr hp)
    have hl : s.loader.status = .passed := a.loaded.mpr (by simp [hs])
    have st : (checkDecision s).station.state = .halted := by simp [checkDecision]
    refine ⟨by simp [st, hl], by simp [procFollows, checkDecision], fun c ho => ?_, fun ho => ?_, by simpa using a.causes⟩
    · obtain ⟨-, hf, -⟩ := a.outputs c (by simpa using ho)
      rw [hs] at hf; cases hf
    · obtain ⟨hv, -⟩ := a.contactor (by simpa using ho)
      rw [hs] at hv; cases hv
  silent a := by
    refine (reportInstant_keeps (h := False) _).silent ?_
    dsimp only
    split <;> exact a.of_view rfl

theorem checkDecision_state (s : State) : (checkDecision s).station.state = .halted := by simp [checkDecision]

/-- A counted sample keeps the station state, but the last check sample in CHECKING, which ends the halt procedure (R204). -/
theorem countSample_cases (c : Chan) (k : CurrentKind) (raw : Nat) (s : State) :
    Keeps h s (countSample c k raw s) ∨
    (Sound s (countSample c k raw s) ∧ s.halt.proc = .checking ∧ (countSample c k raw s).station.state = .halted) := by
  cases k with
  | onSample =>
    left
    unfold countSample
    dsimp only
    split
    · exact (modMeas_keeps s c _).trans (occur_mild rfl _)
    · exact modMeas_keeps s c _
  | offCheck => exact .inl (.of_view rfl)
  | check =>
    unfold countSample
    dsimp only
    split
    · rename_i hp
      refine .inr ⟨Sound.trans (Keeps.toSound (halts := h) ?_) (checkDecision_sound hp.1), hp.1, checkDecision_state _⟩
      exact .of_view rfl
    · exact .inl (.of_view rfl)

/-- The end of a conversion: as for the sample it counts. -/
theorem endConversion_cases (cv : Conversion) (raw : Nat) (s : State) :
    Keeps h s (endConversion cv raw s) ∨
    ((∃ c k, cv.sample = .current c k) ∧ Sound s (endConversion cv raw s) ∧ s.halt.proc = .checking ∧
      (endConversion cv raw s).station.state = .halted) := by
  have ended : ∀ m : Meas, Keeps h s { s with meas := m } := meas_keeps s
  unfold endConversion
  dsimp only
  split
  · exact .inl ((ended _).trans (startNext_keeps _))
  · split
    · split
      · exact .inl ((ended _).trans (storeReading_keeps _ raw _))
      · rename_i c k hs
        split
        · rcases countSample_cases (h := h) c k raw { s with meas := { s.meas with conv := none, convEnd := some s.now } } with
            hk | ⟨hk, hp, hst⟩
          · exact .inl (((ended _).trans hk).trans (startNext_keeps _))
          · refine .inr ⟨⟨c, k, hs⟩, ((ended _).toSound.trans hk).trans (startNext_keeps (h := h) _).toSound, hp, ?_⟩
            simpa using hst
        · exact .inl ((ended _).trans (startNext_keeps _))
    · split
      · split
        · exact .inl ((ended _).trans (startNext_keeps _))
        · exact .inl ((ended _).trans (meas_keeps _ _))
      · exact .inl ((ended _).trans (meas_keeps _ _))

theorem readForHalt_keeps (s : State) : Keeps h s (readForHalt s) := by
  unfold readForHalt
  split
  · exact .refl s
  · exact .of_view rfl

theorem askChecks_keeps (s : State) : Keeps h s (askChecks s) := by
  unfold askChecks
  dsimp only
  split
  · refine (readForHalt_keeps s).trans (.each (fun c t => ?_) _ _)
    split
    · exact .of_view rfl
    · exact .refl t
  · exact .refl s

theorem midRequests_keeps (s : State) : Keeps h s (midRequests s) :=
  ((Keeps.each (fun c t => modMeas_keeps t c _) _ s).trans (askChecks_keeps _)).trans (startRequested_keeps _)

theorem askCrystal_keeps (c : Chan) (s : State) : Keeps h s (askCrystal c s) := .of_view rfl

theorem askAllCrystal_keeps (s : State) : Keeps h s (askAllCrystal s) := by
  refine ((readForHalt_keeps s).trans (.each (fun c t => ?_) _ _)).trans (startRequested_keeps _)
  split
  · exact askCrystal_keeps c t
  · exact .refl t

theorem endHalfCycle_keeps (s : State) : Keeps h s (endHalfCycle s) := .of_view rfl

theorem leakSample_keeps (s : State) : Keeps h s (leakSample s) := by
  unfold leakSample
  (repeat' split)
  · exact meas_keeps s _
  · exact (meas_keeps s _).trans (occur_mild rfl _)
  · exact .refl s
  · exact meas_keeps s _

theorem failLeakTest_keeps (s : State) : Keeps h s (failLeakTest s) :=
  ((endLeakTest_keeps s).trans (completeDeferred_keeps ..)).trans (occur_mild rfl _)

theorem sampleLeakage_keeps (s : State) : Keeps h s (sampleLeakage s) := by
  unfold sampleLeakage
  (repeat' split)
  · exact .refl s
  · exact leakSample_keeps s
  · exact .refl s
  · exact ((endLeakTest_keeps s).trans (completeDeferred_keeps ..)).trans (clearCond_keeps _ _ _)
  · exact .refl s

theorem leakTestEdge_keeps (s : State) : Keeps h s (leakTestEdge s) := by
  unfold leakTestEdge
  (repeat' split)
  · exact .refl s
  · exact meas_keeps s _
  · exact meas_keeps s _
  · exact failLeakTest_keeps s

theorem closePeriod_keeps (hh : h) (s : State) : Keeps h s (closePeriod s) := (meas_keeps s _).trans (occurAll_keeps hh _ _)

theorem askAgain_keeps (c : Chan) (s : State) : Keeps h s (askAgain c s) := by
  unfold askAgain
  (repeat' split)
  · exact .of_view rfl
  · exact (askCrystal_keeps c s).trans (startRequested_keeps _)
  · exact .refl s

/-! ## The burst timer's events -/

theorem noteEdge_keeps (hr : Four Bool) (s : State) : Keeps h s (noteEdge hr s) := .of_recedes rfl ⟨rfl, fun _ => id, id⟩ rfl
theorem countWatch_keeps (s : State) : Keeps h s (countWatch s) := .of_view rfl
theorem stopWatch_keeps (s : State) : Keeps h s (stopWatch s) := .of_view rfl

theorem decideWatch_keeps (hh : h) (s : State) : Keeps h s (decideWatch s) := by
  unfold decideWatch
  split
  · exact (stopWatch_keeps s).trans (occur_keeps (fun _ => hh) _)
  · exact stopWatch_keeps s

theorem countConfirm_keeps (s : State) : Keeps h s (countConfirm s) := by
  unfold countConfirm
  split
  · exact .of_view rfl
  · exact .refl s

theorem startEdge_keeps (hh : h) (e : EdgeIn) (s : State) : Keeps h s (startEdge e s) := by
  refine ((((noteEdge_keeps e.hr s).trans (endHalfCycle_keeps _)).trans (countConfirm_keeps _)).trans (countWatch_keeps _)).trans ?_
  show Keeps h _ (watchAtEdge _ _)
  unfold watchAtEdge
  split
  · exact decideWatch_keeps hh _
  · exact .refl _

theorem readbackChecks_keeps (hh : h) (s : State) : Keeps h s (readbackChecks s) := by
  have checked : Keeps h s { s with burst := { s.burst with chans := .of (checkedOutput s) } } := by
    refine .of_recedes rfl ⟨rfl, fun c ho => ?_, id⟩ rfl
    have e : (checkedOutput s c).out = (s.burst.chans.get c).out := by
      unfold checkedOutput
      split <;> rfl
    simpa [e] using ho
  exact checked.trans (occurAll_keeps hh _ _)

theorem beginPeriod_keeps (s : State) : Keeps h s (beginPeriod s) := by
  refine Keeps.trans ?_ ((clearPhases_keeps _).trans (freshPeriod_keeps _))
  split
  · exact (clearCond_keeps s _ _).trans (applySlot_keeps _)
  · exact .refl s

theorem setIndex_keeps (i : Nat) (s : State) : Keeps h s (setIndex i s) := .of_recedes rfl ⟨rfl, fun _ => id, id⟩ rfl

theorem endPeriod_keeps (hh : h) (closeFirst : Bool) (s : State) : Keeps h s (endPeriod closeFirst s) := by
  refine (((alignment_keeps s).trans (applySlot_keeps _)).trans ?_).trans (setIndex_keeps 0 _)
  unfold closeAndStep
  split
  · exact (closePeriod_keeps hh _).trans (controlStep_keeps _)
  · exact (controlStep_keeps _).trans (closePeriod_keeps hh _)

theorem periodWork_keeps (hh : h) (e : EdgeIn) (s : State) : Keeps h s (periodWork e s) := by
  unfold periodWork
  split
  · exact (readbackChecks_keeps hh s).trans (endPeriod_keeps hh _ _)
  · exact (endPeriod_keeps hh _ s).trans (readbackChecks_keeps hh _)

theorem nextHalfCycle_keeps (hh : h) (s : State) : Keeps h s (nextHalfCycle s) := by
  unfold nextHalfCycle
  split
  · exact (readbackChecks_keeps hh s).trans (setIndex_keeps _ _)
  · exact (readbackChecks_keeps hh s).trans (setIndex_keeps _ _)
  · exact (readbackChecks_keeps hh s).trans (beginPeriod_keeps _)

theorem reportMoved_keeps (before : StationState) (s : State) : Keeps h s (reportMoved before s) := by
  unfold reportMoved
  split
  · exact reportInstant_keeps s
  · exact .refl s

/-- An accepted edge: any of its detections of a HALT-class kind may halt the station (R118, R181, R188). -/
theorem takeEdge_keeps (hh : h) (e : EdgeIn) (s : State) : Keeps h s (takeEdge e s) := by
  have settled : ∀ t, Keeps h t (settleHalfCycle t) := fun t => (leakTestEdge_keeps t).trans (settleOutputs_keeps _)
  unfold takeEdge
  split
  · exact (((startEdge_keeps hh e s).trans (periodWork_keeps hh e _)).trans (settled _)).trans (reportMoved_keeps _ _)
  · exact ((startEdge_keeps hh e s).trans (nextHalfCycle_keeps hh _)).trans (settled _)

theorem haltAtLoss_keeps (s : State) : Keeps h s (haltAtLoss s) := by
  unfold haltAtLoss
  split
  · exact .of_view rfl
  · exact askAllCrystal_keeps s
  · exact .refl s

/-- With every output off the period may take any state (R112). -/
theorem setPeriod_keeps {s : State} (p : PeriodState) (ho : ∀ c, (s.burst.chans.get c).out = false) :
    Keeps h s { s with burst := { s.burst with period := p } } where
  outputs a := a.of_burst rfl (fun c hc => absurd hc (by simp [ho])) id
  silent a := a.of_view rfl
  moves := .inl rfl

/-- The blocks of a mains loss before the period state tells of it (R112). -/
def lossBlocks (s : State) : State :=
  zeroShare (stopWatch (abortLeakTest (abandonSamples (clearPhases (abandonPeriod (discardChecks (outputsOff s)))))))

theorem lossBlocks_keeps (s : State) : Keeps h s (lossBlocks s) := by
  have period : ∀ t : State, Keeps h t (abandonPeriod t) := fun t =>
    .of_recedes rfl ⟨rfl, fun c ho => by simpa [abandonPeriod] using ho, id⟩ rfl
  have samples : ∀ t : State, Keeps h t (abandonSamples t) := fun _ => .of_view rfl
  have share : ∀ t : State, Keeps h t (zeroShare t) := fun _ => .of_view rfl
  have off := ((outputsOff_keeps s).trans (discardChecks_keeps _)).trans (period _)
  have blocks := ((off.trans (clearPhases_keeps _)).trans (samples _)).trans (abortLeakTest_keeps _)
  exact (blocks.trans (stopWatch_keeps _)).trans (share _)

theorem lossBlocks_out (s : State) (c : Chan) : ((lossBlocks s).burst.chans.get c).out = false := by
  simp [lossBlocks, abandonPeriod, discardChecks, outputsOff_out]

theorem loseMains_keeps (s : State) : Keeps h s (loseMains s) :=
  (((lossBlocks_keeps s).trans (setPeriod_keeps .lost (lossBlocks_out s))).trans (occur_mild rfl _)).trans (haltAtLoss_keeps _)

/-! ## The confirmation time -/

/-- CHECKING follows CONFIRMING within HALTING (R204). -/
theorem startChecking_keeps (how : CheckState) {s : State} (hp : s.halt.proc = .confirming) : Keeps h s (startChecking how s) where
  outputs a := by
    have hs : s.station.state = .halting := halting_of_proc a.proc (.inl hp)
    have st : procFollows s.station.state .checking := by simp [hs, procFollows]
    exact ⟨a.loaded, st, a.outputs, a.contactor, a.causes⟩
  silent a := a.of_view rfl
  moves := .inl rfl

theorem confirmCrystal_keeps {s : State} (hp : s.halt.proc = .confirming) : Keeps h s (confirmCrystal s) := by
  unfold confirmCrystal
  split
  · exact startChecking_keeps _ hp
  · exact (startChecking_keeps _ hp).trans (askAllCrystal_keeps _)

end

end Sys2Proof.Machine
end

section
/-! What the command unit, the receiver, the peer table and the transmitter keep of the station's invariants, and the steps of the
machine: outputs and station state agree after every step (O10), and a mute station stays silent (O21). -/

namespace Sys2Proof.Machine

/-! ## The entry to LISTENING -/

@[simp] theorem enterListening_station (s : State) : (enterListening s).station =
    { s.station with state := .listening, listenTimer := some (s.now + seconds s.loader.image.listen) } := by
  simp [enterListening, startTimers]

@[simp] theorem enterListening_burst (s : State) : (enterListening s).burst =
    { s.burst with contactor := !s.earthLock, mainsTimer := some (s.now + mainsLostTime s.loader.image) } := by
  simp [enterListening, startTimers, setContactor]

/-- The entry to LISTENING agrees where no output is on and no halt procedure runs (R9, R124). -/
theorem enterListening_agrees {s : State} (hl : s.loader.status = .passed) (hp : s.halt.proc = .idle)
    (ho : ∀ c, (s.burst.chans.get c).out = false)
    (hc : ∀ c k, s.fault.tripCause.get c = some k → k = .overcurrent ∨ k = .overtemp ∨ k = .heaterOpen) :
    OutputsAgree (enterListening s) where
  loaded := by simp [hl]
  proc := by simp [procFollows, hp]
  outputs c h := absurd h (by simp [ho])
  contactor h := ⟨by simp [StationState.serves], by simpa [State.earthLock] using h⟩
  causes := by simpa using hc

theorem enterListening_silent {s : State} (a : MuteSilent s) : MuteSilent (enterListening s) := by
  have timers : MuteSilent (startTimers (setContactor (!s.earthLock) s)) := a.of_view rfl
  exact ((beginRound_keeps (h := False) _).trans (reportInstant_keeps _)).silent timers

/-- No output is on while the station does not fire (R117). -/
theorem OutputsAgree.off {s : State} (a : OutputsAgree s) (hf : s.station.state.fires = false) (c : Chan) :
    (s.burst.chans.get c).out = false := by
  rw [Bool.eq_false_iff]
  intro ho
  have := (a.outputs c ho).2.1
  rw [hf] at this; cases this

/-- While the load is in progress the station is UNCONFIGURED. -/
theorem unconfigured_of_loading {s : State} (a : s.loader.status = .passed ↔ s.station.state ≠ .unconfigured) (hl : s.loading = true) :
    s.station.state = .unconfigured := by
  by_contra hne
  have hp := a.mpr hne
  simp [loading_of_passed hp] at hl

theorem failLoad_sound {s : State} (hl : s.loading = true) : Sound s (failLoad s) where
  outputs a := by
    have hs := unconfigured_of_loading a.loaded hl
    exact ⟨by simp [failLoad, hs], a.proc, a.outputs, a.contactor, a.causes⟩
  silent a := a.of_view rfl

theorem loadImage_sound (bytes : List Byte) {s : State} (hl : s.loading = true) : Sound s (loadImage bytes s) := by
  unfold loadImage
  split
  · refine ⟨fun a => ?_, fun a => enterListening_silent (a.of_view rfl)⟩
    have hs := unconfigured_of_loading a.loaded hl
    have hp : s.halt.proc = .idle := by simpa [procFollows, hs] using a.proc
    exact enterListening_agrees rfl hp (a.off (by simp [hs, StationState.fires])) a.causes
  · exact failLoad_sound hl

section
variable {h : Prop}

/-! ## Requests -/

theorem answerOnly_keeps (f : RxFrame) (st : Status) (result : List Byte) (s : State) : Keeps h s (answerOnly f st result s) :=
  reply_respects .refl s

theorem refuse_keeps (f : RxFrame) (st : Status) (s : State) : Keeps h s (refuse f st s) := answerOnly_keeps f st [] s

theorem takeSetPoint_keeps (f : RxFrame) (s : State) : Keeps h s (takeSetPoint f s) := by
  unfold takeSetPoint
  dsimp only
  split
  · exact refuse_keeps ..
  · split
    · exact refuse_keeps ..
    · refine reply_respects (fun t => .each (fun c u => ?_) _ t) s
      exact modChan_keeps u c _

theorem takeHold_keeps (f : RxFrame) (s : State) : Keeps h s (takeHold f s) := by
  unfold takeHold
  dsimp only
  split
  · exact refuse_keeps ..
  · split
    · exact refuse_keeps ..
    · split
      · exact refuse_keeps ..
      · exact reply_respects (fun t => .each (fun c u => holdChan_keeps _ c u) _ t) s

theorem takeRelease_keeps (f : RxFrame) (s : State) : Keeps h s (takeRelease f s) := by
  unfold takeRelease
  split
  · exact refuse_keeps ..
  · exact reply_respects (.each startChoice_keeps _) s

theorem clearChan_keeps (c : Chan) (s : State) : Keeps h s (clearChan c s) := by
  unfold clearChan
  split
  · exact unlockChan_keeps c s
  · exact endTrip_keeps _ c s

/-- The contactor closes again with the last earth-leakage lock, in a serving state (R124, R186). -/
theorem clearChans_keeps (cs : List Chan) {s : State} (hs : s.station.state.serves = true) : Keeps h s (clearChans cs s) := by
  have cleared : Keeps h s (s.each cs clearChan) := .each clearChan_keeps cs s
  have station : (s.each cs clearChan).station = s.station := State.each_keeps State.station (fun c t => by simp) cs s
  unfold clearChans
  dsimp only
  split
  · rename_i e
    have he : (s.each cs clearChan).earthLock = false := by simpa using (Bool.and_eq_true_iff.mp e).2
    exact cleared.trans (endEarthLock_keeps (by rwa [station]) he)
  · exact cleared

theorem takeResetTrip_keeps (f : RxFrame) {s : State} (hs : s.station.state.serves = true) : Keeps h s (takeResetTrip f s) := by
  unfold takeResetTrip
  dsimp only
  split
  · exact refuse_keeps ..
  · rcases reply_cases f _ _ (clearChans _) s with ⟨-, e⟩ | ⟨-, hm, -, e⟩ | ⟨-, -, -, e⟩ <;> rw [e]
    · exact clearChans_keeps _ hs
    · refine Keeps.trans ?_ (clearChans_keeps _ hs)
      exact .of_line rfl rfl fun a => a.of_quiet rfl fun m => by rw [hm] at m; cases m
    · exact .of_view rfl

/-- A deferred command that enters IN_FLIGHT replaces no held completion's silence (R44, R48). -/
theorem putInFlight_keeps (name : Deferred) (f : RxFrame) (s : State) : Keeps h s (putInFlight name f s) :=
  .of_line rfl rfl fun a => a.of_quiet rfl fun _ q => ⟨q.tx, q.queue, q.hold, q.pendingNotice, rfl⟩

theorem takeLeakTest_keeps (f : RxFrame) (s : State) : Keeps h s (takeLeakTest f s) := by
  unfold takeLeakTest
  split
  · exact refuse_keeps ..
  · refine reply_respects (fun t => (putInFlight_keeps .leakTest f t).trans ?_) s
    exact .of_view rfl

theorem takeMeasure_keeps (f : RxFrame) (s : State) : Keeps h s (takeMeasure f s) :=
  reply_respects (fun t => (putInFlight_keeps .measure f t).trans (meas_keeps _ _)) s

theorem startReslot_keeps (s : State) : Keeps h s (startReslot s) := by
  unfold startReslot
  dsimp only
  split
  · exact .of_view rfl
  · exact .of_recedes rfl ⟨rfl, fun _ => id, id⟩ rfl

theorem takeStopStation_keeps (hh : h) (f : RxFrame) (s : State) : Keeps h s (takeStopStation f s) :=
  reply_respects (occur_keeps fun _ => hh) s

theorem takeFaultPop_keeps (f : RxFrame) (s : State) : Keeps h s (takeFaultPop f s) := by
  unfold takeFaultPop
  split
  · exact answerOnly_keeps ..
  · refine reply_respects (fun t => ?_) s
    exact .of_view rfl

theorem takeReadChannel_keeps (f : RxFrame) (s : State) : Keeps h s (takeReadChannel f s) := by
  unfold takeReadChannel
  (repeat' split) <;> exact answerOnly_keeps ..

theorem takeReadHalt_keeps (f : RxFrame) (s : State) : Keeps h s (takeReadHalt f s) := by
  unfold takeReadHalt
  split <;> exact answerOnly_keeps ..

theorem takeReadPeer_keeps (f : RxFrame) (s : State) : Keeps h s (takeReadPeer f s) := by
  unfold takeReadPeer
  dsimp only
  (repeat' split) <;> exact answerOnly_keeps ..

theorem takeReadFaultHead_keeps (f : RxFrame) (s : State) : Keeps h s (takeReadFaultHead f s) := by
  unfold takeReadFaultHead
  split <;> exact answerOnly_keeps ..

/-- The state that a RESTART's entry to LISTENING begins with: its blocks reset, the answer in the queue where one is due (R16). -/
def restarted (f : RxFrame) (s : State) : State :=
  if answerDue s.loader.image f then
    { restartBlocks s with line := (restartBlocks s).line.append (.answer (answerTo f .ok [])) }
  else restartBlocks s

theorem takeRestart_eq (f : RxFrame) (s : State) : takeRestart f s = enterListening (restarted f s) := rfl

/-- What is in `restarted` apart from the line (R16). -/
theorem restarted_blocks (f : RxFrame) (s : State) : restarted f s = { restartBlocks s with line := (restarted f s).line } := by
  unfold restarted
  split <;> rfl

theorem takeRestart_sound (f : RxFrame) {s : State} (ha : allowed .restart s.station.state = true) : Sound s (takeRestart f s) where
  outputs a := by
    have hl : s.loader.status = .passed := a.loaded.mpr (by intro e; rw [e] at ha; cases ha)
    rw [takeRestart_eq, restarted_blocks]
    refine enterListening_agrees hl rfl (fun c => ?_) (fun c k hk => ?_)
    · simp [restartBlocks, Burst.restart, Burst.powerOn]
    · simp [restartBlocks, FaultUnit.restart, FaultUnit.powerOn] at hk
  silent _ := by
    rw [takeRestart_eq, restarted_blocks]
    exact enterListening_silent ((muteSilent_iff _).mpr fun m => by cases m)

theorem takeRestart_state (f : RxFrame) (s : State) : (takeRestart f s).station.state = .listening := by simp [takeRestart_eq]

/-- A frame taken by the command unit: a RESTART that the station state allows is carried out, and anything else keeps the
invariants; STOP_STATION alone can halt the station (R46, R51, R60). -/
theorem takeRequest_cases (f : RxFrame) (s : State) :
    Keeps (requestOf f = some .stopStation) s (takeRequest f s) ∨
    (requestOf f = some .restart ∧ allowed .restart s.station.state = true ∧ takeRequest f s = takeRestart f s) := by
  unfold takeRequest
  split
  · exact .inl (.refl s)
  · split
    · exact .inl (refuse_keeps ..)
    · split
      · exact .inl (refuse_keeps ..)
      · rename_i r hr
        split
        · exact .inl (refuse_keeps ..)
        · split
          · exact .inl (refuse_keeps ..)
          · rename_i ha
            have ha' : allowed r s.station.state = true := by simpa using ha
            cases r
            case restart => exact .inr ⟨hr, ha', rfl⟩
            case stopStation => exact .inl (takeStopStation_keeps hr f s)
            case setPoint => exact .inl (takeSetPoint_keeps f s)
            case hold => exact .inl (takeHold_keeps f s)
            case release => exact .inl (takeRelease_keeps f s)
            case resetTrip => exact .inl (takeResetTrip_keeps f ha')
            case leakTest => exact .inl (takeLeakTest_keeps f s)
            case measure => exact .inl (takeMeasure_keeps f s)
            case reslot => exact .inl (reply_respects startReslot_keeps s)
            case faultPop => exact .inl (takeFaultPop_keeps f s)
            case readChannel => exact .inl (takeReadChannel_keeps f s)
            case readStation => exact .inl (answerOnly_keeps ..)
            case readHalt => exact .inl (takeReadHalt_keeps f s)
            case readPeer => exact .inl (takeReadPeer_keeps f s)
            case readFaultHead => exact .inl (takeReadFaultHead_keeps f s)
            case readIdent => exact .inl (answerOnly_keeps ..)

theorem takeRequest_sound (f : RxFrame) (s : State) : Sound s (takeRequest f s) := by
  rcases takeRequest_cases f s with k | ⟨-, ha, e⟩
  · exact k.toSound
  · exact e ▸ takeRestart_sound f ha

theorem dispatchRequest_sound (f : RxFrame) (s : State) : Sound s (dispatchRequest f s) := by
  unfold dispatchRequest
  split
  · refine Keeps.toSound (halts := False) ?_
    exact .of_view rfl
  · exact takeRequest_sound f s

theorem takeSlot_sound (s : State) : Sound s (takeSlot s) := by
  unfold takeSlot
  split
  · split
    · exact (Keeps.refl (h := False) s).toSound
    · refine Sound.trans (Keeps.toSound (halts := False) ?_) (takeRequest_sound _ _)
      exact .of_view rfl
  · exact (Keeps.refl (h := False) s).toSound

/-! ## Receiving -/

theorem dropFrame_keeps (s : State) : Keeps h s { s with line := s.line.dropFrame } := .of_view rfl
theorem lineError_keeps (s : State) : Keeps h s (lineError s) := .of_view rfl

/-- The end of a frame carries over what its work carries over. -/
theorem frameEvent_sound {act : RxFrame → State → State} (hact : ∀ f s, Sound s (act f s)) (dt : Nat) (wave : List Bool)
    (want : FrameEnd) (s : State) : Sound s (frameEvent dt wave want act s) := by
  have heard : Sound s (s.hear dt wave) := (hear_keeps (h := False) s dt wave).toSound
  rcases frameEvent_cases dt wave want act s with e | ⟨f, crc, -, -, e⟩ <;> rw [e]
  · exact heard
  · exact (heard.trans (dropFrame_keeps (h := False) _).toSound).trans (hact f _)

/-- The state in which the mute flag has just been set, before a frame that waits is taken (R14). -/
def muted (s : State) : State :=
  { s with station := { s.station with mute := true }, line := s.line.silence, cmd := s.cmd.silenced,
           fault := { s.fault with awaiting := [], placed := none, pendingNotice := none } }

theorem muted_sound (s : State) : Sound s (muted s) where
  outputs a := a.of_burst rfl a.outputs id
  silent _ := (muteSilent_iff _).mpr fun _ => ⟨rfl, rfl, rfl, rfl, by
    simp only [muted]
    cases s.cmd <;> rfl⟩

theorem setMute_eq (s : State) :
    setMute s = if s.station.mute then s else if s.cmd.occupied then takeSlot (muted s) else muted s := rfl

theorem setMute_sound (s : State) : Sound s (setMute s) := by
  rw [setMute_eq]
  (repeat' split)
  · exact (Keeps.refl (h := False) s).toSound
  · exact (muted_sound s).trans (takeSlot_sound _)
  · exact muted_sound s

theorem duplicateId_sound (s : State) : Sound s (duplicateId s) :=
  (setMute_sound s).trans (occur_mild (h := False) rfl _).toSound

theorem startIsolation_keeps (s : State) : Keeps h s (startIsolation s) := by
  unfold startIsolation
  split
  · exact .of_view rfl
  · exact .refl s

theorem stopIsolation_keeps (s : State) : Keeps h s (stopIsolation s) := .of_view rfl

theorem putEntries_keeps (l : List Peer) (s : State) : Keeps h s (putEntries l s) := by
  unfold putEntries
  dsimp only
  split
  · refine Keeps.trans ?_ (startIsolation_keeps _)
    exact .of_view rfl
  · exact .of_view rfl

/-- A station state set between two that run without a halt procedure: RUNNING and ISOLATED, or from LISTENING (R2). -/
theorem setState_sound {s : State} {st : StationState} {x : Station} (hx : x.state = st) (hm : x.mute = s.station.mute)
    (hs : s.station.state.serves = true) (ht : st.fires = true) : Sound s { s with station := x } where
  outputs a := by
    have hl : s.loader.status = .passed := a.loaded.mpr (by intro e; rw [e] at hs; cases hs)
    have hp : s.halt.proc = .idle := by
      have := a.proc
      cases e : s.station.state <;> simp_all [procFollows, StationState.serves]
    subst hx
    refine ⟨?_, ?_, fun c ho => ?_, fun ho => ⟨?_, (a.contactor ho).2⟩, a.causes⟩
    · simp only [hl, true_iff]
      intro e
      rw [e] at ht; cases ht
    · cases e : x.state <;> simp_all [procFollows, StationState.fires]
    · obtain ⟨he, -, hr⟩ := a.outputs c ho
      exact ⟨he, ht, hr⟩
    · cases e : x.state <;> simp_all [StationState.fires, StationState.serves]
  silent a := a.of_view (by simp [muteView, hm])

/-- A REPORT of the own feeder ends ISOLATED and nothing else (R11, R12). -/
theorem heardFeeder_cases (s : State) :
    Keeps h s (heardFeeder s) ∨
    (Sound s (heardFeeder s) ∧ s.station.state = .isolated ∧ (heardFeeder s).station.state = .running) := by
  unfold heardFeeder
  dsimp only
  split
  · rename_i hs
    refine .inr ⟨Sound.trans ?_ (reportInstant_keeps (h := False) _).toSound, hs, by simp⟩
    exact setState_sound rfl rfl (by simp [hs, StationState.serves]) rfl
  · exact .inl (stopIsolation_keeps s)

theorem reportTaken_cases (id : Nat) (r : ReportFields) (l : List Peer) (s : State) :
    Keeps h s (reportTaken id r l s) ∨
    (Sound s (reportTaken id r l s) ∧ s.station.state = .isolated ∧ (reportTaken id r l s).station.state = .running) := by
  unfold reportTaken
  split
  · have table : Keeps h s (putEntries l (if admits s.loader.image id s.peers.entries then s.clearCond .feederCrowded none else s)) := by
      refine Keeps.trans ?_ (putEntries_keeps l _)
      split
      · exact clearCond_keeps s _ _
      · exact .refl s
    rcases heardFeeder_cases (h := h) _ with k | ⟨k, hi, hr⟩
    · exact .inl (table.trans k)
    · refine .inr ⟨table.toSound.trans k, ?_, hr⟩
      rcases table.moves with e | ⟨-, -, e⟩
      · rwa [← e]
      · rw [e] at hi; cases hi
  · exact .inl (putEntries_keeps l s)

/-- A REPORT taken by the peer table: the own id mutes, a REPORT of the own feeder may end ISOLATED, and anything else keeps the
invariants (R70). -/
theorem peerReport_cases (f : RxFrame) (s : State) :
    peerReport f s = duplicateId s ∨ Keeps h s (peerReport f s) ∨
    (Sound s (peerReport f s) ∧ s.station.state = .isolated ∧ (peerReport f s).station.state = .running) := by
  unfold peerReport
  dsimp only
  split
  · exact .inl rfl
  · right
    split
    · exact .inl (.refl s)
    · split
      · exact .inl (.refl s)
      · split
        · exact reportTaken_cases _ _ _ s
        · split
          · exact .inl (occur_mild rfl s)
          · exact .inl (.refl s)

theorem peerReport_sound (f : RxFrame) (s : State) : Sound s (peerReport f s) := by
  rcases peerReport_cases (h := False) f s with e | k | ⟨k, -⟩
  · exact e ▸ duplicateId_sound s
  · exact k.toSound
  · exact k

theorem noticeTaken_keeps (id : Nat) (n : NoticeFields) (p : Peer) (s : State) : Keeps h s (noticeTaken id n p s) := by
  unfold noticeTaken
  dsimp only
  split
  · exact .of_view rfl
  · exact .of_view rfl

theorem peerNotice_cases (f : RxFrame) (s : State) : peerNotice f s = duplicateId s ∨ Keeps h s (peerNotice f s) := by
  unfold peerNotice
  dsimp only
  split
  · exact .inl rfl
  · right
    (repeat' split)
    · exact .refl s
    · exact noticeTaken_keeps _ _ _ s
    · exact .refl s

theorem peerNotice_sound (f : RxFrame) (s : State) : Sound s (peerNotice f s) := by
  rcases peerNotice_cases (h := False) f s with e | k
  · exact e ▸ duplicateId_sound s
  · exact k.toSound

/-! ## Transmitting -/

@[simp] theorem requeueNotice_marks (n : NoticeContent) (s : State) :
    (requeueNotice n s).fault.conds = s.fault.conds ∧ (requeueNotice n s).fault.locks = s.fault.locks ∧
    (requeueNotice n s).fault.tripCause = s.fault.tripCause ∧ (requeueNotice n s).fault.watch = s.fault.watch := by
  unfold requeueNotice
  dsimp only
  split <;> simp [awaitNotice]

/-- A mute station has no head frame: the transmitter's work finds none (R14, R29). -/
theorem transmitHead_keeps (s : State) : Keeps h s (transmitHead s) := by
  refine .of_line ?_ (by simp) fun a => a.of_quiet (by simp) fun _ q => ?_
  · unfold transmitHead
    (repeat' split) <;> simp [outView, startHead]
  · have e : transmitHead s = s := by simp [transmitHead, q.queue]
    rwa [e]

theorem unstartHead_keeps (s : State) : Keeps h s (unstartHead s) := by
  refine .of_line ?_ (by simp) fun a => a.of_quiet (by simp) fun _ q => ?_
  · unfold unstartHead
    (repeat' split) <;> simp [outView]
  · have e : unstartHead s = s := by simp [unstartHead, q.queue]
    rwa [e]

/-- The queue's head dropped, or replaced, with the transmitter IDLE. -/
theorem shortenQueue_keeps (s : State) (l : Line) (ht : l.tx = .idle) (hq : l.queue = s.line.queue.tail) (hh : l.hold = s.line.hold) :
    Keeps h s { s with line := l } :=
  .of_line rfl rfl fun a => a.of_quiet rfl fun _ q =>
    ⟨ht, by simp [hq, q.queue], by simp [hh, q.hold], q.pendingNotice, q.cmd⟩

theorem loseFrame_keeps (s : State) : Keeps h s (loseFrame s) := by
  have stopped : Keeps h s { s with line := s.line.stopDriving } :=
    .of_line rfl rfl fun a => a.of_quiet rfl fun _ q => ⟨rfl, q.queue, q.hold, q.pendingNotice, q.cmd⟩
  unfold loseFrame
  dsimp only
  split
  · refine stopped.trans (Keeps.trans ?_ (placeFreed_keeps _))
    exact shortenQueue_keeps _ _ rfl rfl rfl
  · exact stopped.trans (unstartHead_keeps _)

theorem completedKind_keeps (head : OutFrame) (s : State) : Keeps h s (completedKind head s) := by
  unfold completedKind
  (repeat' split)
  · exact .of_view rfl
  · exact nextNotice_keeps s
  · exact .refl s
  · exact .refl s

/-- The place of a completed frame filled again (R32, R37). -/
def completed (residual : Nat) (head : OutFrame) (s : State) : State :=
  placeFreed (completedKind head (({ s with line := s.line.popHead } : State).showResidual residual))

theorem completed_keeps (residual : Nat) (head : OutFrame) (s : State) : Keeps h s (completed residual head s) :=
  (((shortenQueue_keeps s s.line.popHead rfl rfl rfl).trans (showResidual_keeps _ residual)).trans (completedKind_keeps head _)).trans
    (placeFreed_keeps _)

theorem completeHead_cases (residual : Nat) (s : State) :
    Keeps h s (completeHead residual s) ∨ ∃ t, Keeps h s t ∧ completeHead residual s = takeSlot t := by
  unfold completeHead
  split
  · rename_i head _ _
    show Keeps h s (ite _ (takeSlot (completed residual head s)) (completed residual head s)) ∨ _
    split
    · exact .inr ⟨_, completed_keeps residual head s, rfl⟩
    · exact .inl (completed_keeps residual head s)
  · exact .inl (.refl s)

theorem completeHead_sound (residual : Nat) (s : State) : Sound s (completeHead residual s) := by
  rcases completeHead_cases (h := False) residual s with k | ⟨t, k, e⟩
  · exact k.toSound
  · exact e ▸ k.toSound.trans (takeSlot_sound t)

end

end Sys2Proof.Machine
end

section
/-! Every effect carries the invariants over: outputs and station state agree after every step (O10), a mute station stays silent
(O21), and every change of station state is a row of R2's table (O9). -/

namespace Sys2Proof.Machine

section
variable {h : Prop}

/-! ## The events -/

theorem readTimeout_sound (s : State) : Sound s (readTimeout s) := by
  unfold readTimeout
  (repeat' split)
  · rename_i hl
    exact (reach_keeps (h := False) s _).toSound.trans (failLoad_sound hl)
  · exact (Keeps.refl (h := False) s).toSound
  · exact (Keeps.refl (h := False) s).toSound

theorem setIsolation_keeps (s : State) : Keeps h s (setIsolation s) := by
  unfold setIsolation
  split
  · exact stopIsolation_keeps s
  · exact startIsolation_keeps s

theorem enterRunning_state (s : State) : (enterRunning s).station.state = .running := by
  simp [enterRunning, (setIsolation_keeps (h := False) _).state]

/-- The entry to RUNNING (R10, R11). -/
theorem enterRunning_sound {s : State} (hs : s.station.state = .listening) : Sound s (enterRunning s) := by
  have chosen : Sound s (makeSlotChoice s) := (makeSlotChoice_keeps (h := False) s).toSound
  have running : Sound (makeSlotChoice s)
      { makeSlotChoice s with station := { (makeSlotChoice s).station with state := .running, listenTimer := none } } :=
    setState_sound rfl rfl (by simp [hs, StationState.serves]) rfl
  exact (chosen.trans running).trans
    (((startOffChannels_keeps (h := False) _).trans (setIsolation_keeps _)).trans (reportInstant_keeps _)).toSound

theorem listenEnds_sound (s : State) : Sound s (listenEnds s) := by
  unfold listenEnds
  (repeat' split)
  · rename_i t _ hs
    exact (reach_keeps (h := False) s t).toSound.trans (enterRunning_sound hs)
  · exact (Keeps.refl (h := False) s).toSound
  · exact (Keeps.refl (h := False) s).toSound

theorem isolationEnds_sound (s : State) : Sound s (isolationEnds s) := by
  unfold isolationEnds
  (repeat' split)
  · rename_i t _ hs
    have isolated : Sound s { s.reach t with station := { s.station with state := .isolated, isolationTimer := none } } :=
      (reach_keeps (h := False) s t).toSound.trans (setState_sound rfl rfl (by simp [hs, StationState.serves]) rfl)
    exact isolated.trans (reportInstant_keeps (h := False) _).toSound
  · exact (Keeps.refl (h := False) s).toSound
  · exact (Keeps.refl (h := False) s).toSound

theorem Line.becomeIdle_sends (l : Line) :
    l.becomeIdle.tx = l.tx ∧ l.becomeIdle.queue = l.queue ∧ l.becomeIdle.hold = l.hold := by
  unfold Line.becomeIdle
  split <;> exact ⟨rfl, rfl, rfl⟩

/-- A receiver's work on the line, of which the sending side sees nothing. -/
theorem receiver_keeps {s : State} {l : Line} (ht : l.tx = s.line.tx) (hq : l.queue = s.line.queue) (hh : l.hold = s.line.hold) :
    Keeps h s { s with line := l } := .of_view (by simp [safeView, outView, muteView, ht, hq, hh])

theorem lineIdle_keeps (s : State) : Keeps h s (lineIdle s) := by
  unfold lineIdle
  split
  · obtain ⟨ht, hq, hh⟩ := s.line.becomeIdle_sends
    exact receiver_keeps ht hq hh
  · exact .refl s

theorem frameStart_keeps (s : State) : Keeps h s (frameStart s) := by
  unfold frameStart
  split
  · exact receiver_keeps rfl rfl rfl
  · exact .refl s

theorem checkC0_keeps (s : State) : Keeps h s (checkC0 s) := by
  unfold checkC0
  (repeat' split)
  · exact receiver_keeps rfl rfl rfl
  · exact receiver_keeps rfl rfl rfl
  · exact .refl s
  · exact .refl s

theorem prefilter_keeps (s : State) : Keeps h s (prefilter s) := by
  unfold prefilter
  (repeat' split)
  · unfold Line.filtered
    split <;> exact receiver_keeps rfl rfl rfl
  · exact .refl s
  · exact .refl s

theorem framingError_keeps (s : State) : Keeps h s (framingError s) := by
  unfold framingError
  split
  · exact receiver_keeps rfl rfl rfl
  · exact .refl s

theorem skippedEnd_keeps (s : State) : Keeps h s (skippedEnd s) := by
  unfold skippedEnd
  split
  · exact receiver_keeps rfl rfl rfl
  · exact .refl s

theorem loseArbitration_keeps (bit : Nat) (s : State) : Keeps h s (loseArbitration bit s) := by
  unfold loseArbitration
  split
  · exact loseFrame_keeps s
  · exact .refl s

theorem takeBitError_keeps (bit : Nat) (dominant : Bool) (s : State) : Keeps h s (takeBitError bit dominant s) := by
  unfold takeBitError
  split
  · refine Keeps.trans ?_ (loseFrame_keeps _)
    exact receiver_keeps rfl rfl rfl
  · exact .refl s

theorem reportDue_keeps (s : State) : Keeps h s (reportDue s) := by
  unfold reportDue
  split
  · exact (reach_keeps s _).trans (reportInstant_keeps _)
  · exact .refl s

theorem staleEnds_keeps (id : Nat) (s : State) : Keeps h s (staleEnds id s) := by
  unfold staleEnds
  (repeat' split)
  · exact (reach_keeps s _).trans (putEntries_keeps _ _)
  · exact .refl s
  · exact .refl s

theorem lostEnds_keeps (id : Nat) (s : State) : Keeps h s (lostEnds id s) := by
  unfold lostEnds
  (repeat' split)
  · exact (reach_keeps s _).trans (putEntries_keeps _ _)
  · exact .refl s
  · exact .refl s

theorem removalEnds_keeps (id : Nat) (s : State) : Keeps h s (removalEnds id s) := by
  unfold removalEnds
  split
  · exact (reach_keeps s _).trans (putEntries_keeps _ _)
  · exact .refl s

theorem flowInput_keeps (low : Bool) (s : State) : Keeps h s (flowInput low s) := by
  unfold flowInput restartDebounce
  (repeat' split)
  · exact .refl s
  · exact .of_view rfl
  · exact .of_view rfl

theorem flowSettles_keeps (s : State) : Keeps h s (flowSettles s) := by
  unfold flowSettles
  split
  · exact .of_view rfl
  · exact .refl s

theorem roundTick_keeps (s : State) : Keeps h s (roundTick s) := by
  unfold roundTick
  split
  · exact ((meas_keeps s _).trans (reach_keeps _ _)).trans (beginRound_keeps _)
  · exact .refl s

theorem conversionEnds_cases (raw : Word16) (s : State) :
    Keeps h s (conversionEnds raw s) ∨
    (Sound s (conversionEnds raw s) ∧ s.halt.proc = .checking ∧ (conversionEnds raw s).station.state = .halted) := by
  unfold conversionEnds
  split
  · rename_i cv _
    rcases endConversion_cases (h := h) cv raw.toNat (s.reach cv.ends) with k | ⟨-, k, hp, hs⟩
    · exact .inl ((reach_keeps s _).trans k)
    · exact .inr ⟨(reach_keeps (h := h) s _).toSound.trans k, hp, hs⟩
  · exact .inl (.refl s)

/-- A round ends with a reading, which halts nothing (R90). -/
theorem roundEnds_keeps (raw : Word16) (s : State) : Keeps h s (roundEnds raw s) := by
  unfold roundEnds
  (repeat' split)
  · rename_i cv _ he
    have hr : cv.sample = .reading .ambient := (of_decide_eq_true he).1
    rcases endConversion_cases (h := h) cv raw.toNat (s.reach cv.ends) with k | ⟨⟨c, k, hc⟩, -⟩
    · exact (reach_keeps s _).trans k
    · rw [hr] at hc; cases hc
  · exact .refl s
  · exact .refl s

theorem ageExpires_keeps (sensor : Sensor) (s : State) : Keeps h s (ageExpires sensor s) := by
  unfold ageExpires
  split
  · exact .of_view rfl
  · exact .refl s

theorem midpoint_keeps (residual : Nat) (s : State) : Keeps h s (midpoint residual s) := by
  unfold midpoint
  split
  · exact ((((meas_keeps s _).trans (showResidual_keeps _ residual)).trans (reach_keeps _ _)).trans (midRequests_keeps _)).trans
      (sampleLeakage_keeps _)
  · exact .refl s

theorem checkTimesOut_keeps (c : Chan) (s : State) : Keeps h s (checkTimesOut c s) := by
  unfold checkTimesOut
  split
  · exact ((reach_keeps s _).trans (modMeas_keeps _ c _)).trans (askAgain_keeps c _)
  · exact .refl s

theorem mainsEnds_keeps (residual : Nat) (s : State) : Keeps h s (mainsEnds residual s) := by
  unfold mainsEnds
  (repeat' split)
  · exact .refl s
  · exact ((showResidual_keeps s residual).trans (reach_keeps _ _)).trans (loseMains_keeps _)
  · exact .refl s

theorem slotChoiceEnds_keeps (s : State) : Keeps h s (slotChoiceEnds s) := by
  unfold slotChoiceEnds
  split
  · rename_i t _
    refine ((reach_keeps s t).trans ?_).trans (makeSlotChoice_keeps _)
    exact .of_recedes rfl ⟨rfl, fun _ => id, id⟩ rfl
  · exact .refl s

theorem holdEnds_keeps (c : Chan) (s : State) : Keeps h s (holdEnds c s) := by
  unfold holdEnds
  (repeat' split)
  · exact (reach_keeps s _).trans (startChoice_keeps c _)
  · exact .refl s
  · exact .refl s

theorem recloseEnds_keeps (c : Chan) (s : State) : Keeps h s (recloseEnds c s) := by
  unfold recloseEnds
  (repeat' split)
  · exact (reach_keeps s _).trans (recloseChan_keeps c _)
  · exact .refl s
  · exact .refl s

theorem trialEnds_keeps (c : Chan) (s : State) : Keeps h s (trialEnds c s) := by
  unfold trialEnds
  split
  · exact (reach_keeps s _).trans (modChan_keeps _ c _)
  · exact .refl s

theorem cleanEnds_keeps (c : Chan) (s : State) : Keeps h s (cleanEnds c s) := by
  unfold cleanEnds
  split
  · exact (reach_keeps s _).trans (modChan_keeps _ c _)
  · exact .refl s

theorem watchEnds_keeps (hh : h) (s : State) : Keeps h s (watchEnds s) := by
  unfold watchEnds
  split
  · exact decideWatch_keeps hh s
  · exact .refl s

theorem countEnds_keeps (s : State) : Keeps h s (countEnds s) := by
  unfold countEnds
  split
  · rename_i hp
    exact startChecking_keeps _ hp.1
  · exact .refl s

theorem confirmEnds_keeps (residual : Nat) (s : State) : Keeps h s (confirmEnds residual s) := by
  unfold confirmEnds
  (repeat' split)
  · rename_i hp
    exact ((showResidual_keeps s residual).trans (reach_keeps _ _)).trans (confirmCrystal_keeps hp)
  · exact .refl s
  · exact .refl s

/-- An edge, where it is taken. -/
theorem edge_keeps (hh : h) (taken : Bool) (e : EdgeIn) (s : State) :
    Keeps h s (if taken then takeEdge e (s.advance e.dt) else s.advance e.dt) := by
  split
  · exact (advance_keeps s _).trans (takeEdge_keeps hh e _)
  · exact advance_keeps s _

theorem transmitEnds_sound (residual : Nat) (s : State) : Sound s (transmitEnds residual s) := by
  unfold transmitEnds
  split
  · exact completeHead_sound residual s
  · exact (Keeps.refl (h := False) s).toSound

/-! ## The supply -/

/-- A power-on agrees: every output off, UNCONFIGURED, no halt procedure, no trip (R3). -/
theorem powerUp_agrees (s : State) : OutputsAgree (powerUp s) where
  loaded := by simp [powerUp, State.reset]
  proc := rfl
  outputs c ho := absurd ho (by simp [powerUp, State.reset, Burst.powerOn])
  contactor ho := by cases ho
  causes c k hk := absurd hk (by simp [powerUp, State.reset, FaultUnit.powerOn])

theorem powerDown_agrees (s : State) : OutputsAgree (powerDown s) where
  loaded := by simp [powerDown, powerUp, State.reset]
  proc := rfl
  outputs := (powerUp_agrees s).outputs
  contactor := (powerUp_agrees s).contactor
  causes := (powerUp_agrees s).causes

end

/-! ## Every effect -/

/-- The end of a request's frame carries the invariants over. -/
theorem requestEvent_sound (dt : Nat) (wave : List Bool) (want : FrameEnd) (s : State) : Sound s (requestEvent dt wave want s) :=
  frameEvent_sound dispatchRequest_sound dt wave want s

theorem effect_sound (c : Instr) (s : State) : Sound s (effect c s) := by
  have after : ∀ {dt : Nat} {t : State}, Keeps False (s.advance dt) t → Sound s t := fun {dt} {t} k =>
    ((advance_keeps s dt).trans k).toSound
  have heard : ∀ {dt : Nat} {wave : List Bool} {t : State}, Keeps False (s.hear dt wave) t → Sound s t := fun {dt} {wave} {t} k =>
    ((hear_keeps s dt wave).trans k).toSound
  cases c
  case powerOn => exact ⟨fun _ => powerUp_agrees s, fun _ => (muteSilent_iff _).mpr fun m => by cases m⟩
  case supplyFailure => exact ⟨fun _ => powerDown_agrees s, fun _ => (muteSilent_iff _).mpr fun m => by cases m⟩
  case configReadComplete dt bytes =>
    simp only [effect]
    split
    · rename_i hl
      exact (advance_keeps (h := False) s dt).toSound.trans (loadImage_sound bytes hl)
    · exact (advance_keeps (h := False) s dt).toSound
  case configPortRefusal dt =>
    simp only [effect]
    split
    · rename_i hl
      exact (advance_keeps (h := False) s dt).toSound.trans (failLoad_sound hl)
    · exact (advance_keeps (h := False) s dt).toSound
  case configReadTimeout => exact readTimeout_sound s
  case listenIntervalExpiry => exact listenEnds_sound s
  case isolationTimeoutExpiry => exact isolationEnds_sound s
  case lineIdle e => exact heard (lineIdle_keeps _)
  case frameStart e => exact heard (frameStart_keeps _)
  case frameC0Check dt wave => exact heard (checkC0_keeps _)
  case framePrefilter dt wave1 wave2 => exact heard (prefilter_keeps _)
  case framingError dt wave s9 s10 => exact heard (framingError_keeps _)
  case skippedFrameEnd e => exact heard (skippedEnd_keeps _)
  case frameBadCrc | completedFrameLost =>
    exact frameEvent_sound (fun _ t => (lineError_keeps (h := False) t).toSound) _ _ _ s
  case answer => exact frameEvent_sound (fun _ t => (Keeps.refl (h := False) t).toSound) _ _ _ s
  case report => exact frameEvent_sound peerReport_sound _ _ _ s
  case faultNotice => exact frameEvent_sound peerNotice_sound _ _ _ s
  case resetTrip dt residual wave =>
    exact (showResidual_keeps (h := False) s residual).toSound.trans (requestEvent_sound dt wave _ _)
  case transmitStart dt => exact after (transmitHead_keeps _)
  case arbitrationLost dt bit => exact after (loseArbitration_keeps bit _)
  case bitError dt bit dominant => exact after (takeBitError_keeps bit dominant _)
  case transmitComplete dt residual => exact (advance_keeps (h := False) s dt).toSound.trans (transmitEnds_sound residual _)
  case reportTimerExpiry => exact (reportDue_keeps (h := False) s).toSound
  case staleExpiry id => exact (staleEnds_keeps (h := False) id s).toSound
  case lostExpiry id => exact (lostEnds_keeps (h := False) id s).toSound
  case removalExpiry id => exact (removalEnds_keeps (h := False) id s).toSound
  case flowInputChange dt low => exact after (flowInput_keeps low _)
  case flowDebounceExpiry => exact (flowSettles_keeps (h := False) s).toSound
  case roundTimerExpiry => exact (roundTick_keeps (h := False) s).toSound
  case conversionEnd raw =>
    rcases conversionEnds_cases (h := False) raw s with k | ⟨k, -⟩
    · exact k.toSound
    · exact k
  case roundComplete raw => exact (roundEnds_keeps (h := False) raw s).toSound
  case temperatureAgeExpiry sensor => exact (ageExpires_keeps (h := False) sensor s).toSound
  case halfCycleMidpoint residual => exact (midpoint_keeps (h := False) residual s).toSound
  case checkRequestTimeout c => exact (checkTimesOut_keeps (h := False) c s).toSound
  case zeroCrossEdge e => exact (edge_keeps (h := True) trivial (edgeAccepted (s.advance e.dt)) e s).toSound
  case periodEnd e => exact (edge_keeps (h := True) trivial (edgeAccepted (s.advance e.dt) && atPeriodEnd s) e s).toSound
  case mainsLost residual => exact (mainsEnds_keeps (h := False) residual s).toSound
  case slotChoiceIntervalExpiry => exact (slotChoiceEnds_keeps (h := False) s).toSound
  case holdExpiry c => exact (holdEnds_keeps (h := False) c s).toSound
  case recloseTimerExpiry c => exact (recloseEnds_keeps (h := False) c s).toSound
  case trialTimerExpiry c => exact (trialEnds_keeps (h := False) c s).toSound
  case cleanPeriodExpiry c => exact (cleanEnds_keeps (h := False) c s).toSound
  case leakageWatchExpiry => exact (watchEnds_keeps (h := True) trivial s).toSound
  case confirmationCountEnd => exact (countEnds_keeps (h := False) s).toSound
  case confirmationTimerExpiry residual => exact (confirmEnds_keeps (h := False) residual s).toSound
  all_goals exact requestEvent_sound _ _ _ s

/-- Settles O10. -/
theorem outputsAgreeAfterEveryStep : Obligations.OutputsAgreeAfterEveryStep := by
  unfold Obligations.OutputsAgreeAfterEveryStep
  intro s t hs h
  exact step_inv OutputsAgree (fun s q a => a.of_burst rfl a.outputs id) (fun c s => (effect_sound c s).outputs) hs h

/-- Settles O21. -/
theorem muteStationStaysSilent : Obligations.MuteStationStaysSilent := by
  unfold Obligations.MuteStationStaysSilent
  intro s t hs h
  exact step_inv MuteSilent (fun s q a => a.of_view rfl) (fun c s => (effect_sound c s).silent) hs h

/-! ## Changes of station state -/

/-- What taking a frame of the completed-frame slot can make of the station state: nothing, a halt, or a RESTART (R15, R60). -/
def requestMoves (a b : StationState) : Prop :=
  b = a ∨ (a.serves = true ∧ b = .halting) ∨ (allowed .restart a = true ∧ b = .listening)

theorem takeRequest_moves (f : RxFrame) (s : State) : requestMoves s.station.state (takeRequest f s).station.state := by
  rcases takeRequest_cases f s with k | ⟨-, ha, e⟩
  · rcases k.moves with h | ⟨-, hs, h⟩
    · exact .inl h
    · exact .inr (.inl ⟨hs, h⟩)
  · exact .inr (.inr ⟨ha, by rw [e, takeRestart_state]⟩)

theorem takeSlot_moves (s : State) : requestMoves s.station.state (takeSlot s).station.state := by
  unfold takeSlot
  split
  · split
    · exact .inl rfl
    · exact takeRequest_moves _ _
  · exact .inl rfl

theorem duplicateId_moves (s : State) : requestMoves s.station.state (duplicateId s).station.state := by
  have noted : (duplicateId s).station.state = (setMute s).station.state := (occur_mild (h := False) rfl _).state
  rw [noted, setMute_eq]
  (repeat' split)
  · exact .inl rfl
  · exact takeSlot_moves (muted s)
  · exact .inl rfl

theorem transmitEnds_moves (residual : Nat) (s : State) : requestMoves s.station.state (transmitEnds residual s).station.state := by
  unfold transmitEnds
  split
  · rcases completeHead_cases (h := False) residual s with k | ⟨t, k, e⟩
    · exact .inl k.state
    · rw [e, ← k.state]
      exact takeSlot_moves t
  · exact .inl rfl

/-- The row of R2's table for a RESTART carried out. -/
theorem stationMoves_of_restart {c : Instr} {a b : StationState} (hr : mayRestart c) (ha : allowed .restart a = true)
    (hb : b = .listening) (hne : b ≠ a) : StationMoves c a b := by
  cases a <;> simp_all [StationMoves, StationState.serves, allowed]

/-- The row of R2's table for a halt. -/
theorem stationMoves_of_halt {c : Instr} {a b : StationState} (hh : mayHalt c) (ha : a.serves = true) (hb : b = .halting) :
    StationMoves c a b := by
  cases a <;> simp_all [StationMoves, StationState.serves]

/-- The row of R2's table for a frame taken at an event that may halt and may restart. -/
theorem stationMoves_of_request {c : Instr} {a b : StationState} (hh : mayHalt c) (hr : mayRestart c) (hm : requestMoves a b)
    (hne : b ≠ a) : StationMoves c a b := by
  rcases hm with e | ⟨hs, e⟩ | ⟨ha, e⟩
  · exact absurd e hne
  · exact stationMoves_of_halt hh hs e
  · exact stationMoves_of_restart hr ha e hne

/-- What a request's frame can turn out to be at its end (R27, R28, R46). -/
theorem endOf_of_requestOf {f : RxFrame} {r : Request} (hr : requestOf f = some r) (s : State) (crc : List Byte) :
    endOf s f crc = .badCrc ∨ endOf s f crc = .own ∨ endOf s f crc = .lost ∨ endOf s f crc = .request r := by
  have code : r.kind = kindOf f.c0 ∧ r.length = f.payload.length := by
    unfold requestOf at hr
    split at hr
    · split at hr
      · rename_i h
        obtain rfl := Option.some.inj hr
        exact h
      · cases hr
    · cases hr
  have hlen : ¬f.payload.length < 2 := by
    rw [← code.2]
    cases r <;> decide
  have dispatched : dispatchEnd f = .request r := by
    have hk : kindOf f.c0 = kindCommand ∨ kindOf f.c0 = kindQuery := by
      rw [← code.1]
      cases r <;> decide
    rcases hk with hk | hk <;>
      simp [dispatchEnd, requestEnd, hk, hlen, hr, kindReport, kindNotice, kindAnswer, kindCommand, kindQuery]
  unfold endOf
  (repeat' split) <;> simp [dispatched]

/-- The end of a request's frame: STOP_STATION may halt, RESTART may enter LISTENING, and no other request moves the station. -/
theorem requestEvent_moves (dt : Nat) (wave : List Bool) {want : FrameEnd} (hw : want ≠ .badCrc ∧ want ≠ .own ∧ want ≠ .lost)
    (s : State) :
    (requestEvent dt wave want s).station.state = s.station.state ∨
    (want = .request .stopStation ∧ s.station.state.serves = true ∧ (requestEvent dt wave want s).station.state = .halting) ∨
    (want = .request .restart ∧ allowed .restart s.station.state = true ∧
      (requestEvent dt wave want s).station.state = .listening) := by
  unfold requestEvent
  rcases frameEvent_cases dt wave want dispatchRequest s with e | ⟨f, crc, -, hend, e⟩ <;> rw [e]
  · exact .inl rfl
  · have named : ∀ r, requestOf f = some r → want = .request r := fun r hr => by
      obtain ⟨hb, ho, hl⟩ := hw
      have := endOf_of_requestOf hr (s.hear dt wave) crc
      rw [hend] at this
      exact ((this.resolve_left hb).resolve_left ho).resolve_left hl
    unfold dispatchRequest
    split
    · exact .inl rfl
    · rcases takeRequest_cases f { s.hear dt wave with line := (s.hear dt wave).line.dropFrame } with k | ⟨hr, ha, e⟩
      · rcases k.moves with h | ⟨hr, hs, h⟩
        · exact .inl h
        · exact .inr (.inl ⟨named _ hr, hs, h⟩)
      · exact .inr (.inr ⟨named _ hr, ha, by rw [e, takeRestart_state]⟩)

/-- No other request moves the station. -/
theorem requestEvent_still (dt : Nat) (wave : List Bool) {want : FrameEnd}
    (hw : want ≠ .badCrc ∧ want ≠ .own ∧ want ≠ .lost ∧ want ≠ .request .stopStation ∧ want ≠ .request .restart) (s : State) :
    (requestEvent dt wave want s).station.state = s.station.state := by
  obtain ⟨hb, ho, hl, hs, hr⟩ := hw
  rcases requestEvent_moves dt wave ⟨hb, ho, hl⟩ s with e | ⟨e, -⟩ | ⟨e, -⟩
  · exact e
  · exact absurd e hs
  · exact absurd e hr

/-- The row of R2's table for an event that can do no more than halt. -/
theorem Keeps.stationMoves {c : Instr} {s t : State} (k : Keeps (mayHalt c) s t) (hne : t.station.state ≠ s.station.state) :
    StationMoves c s.station.state t.station.state := by
  rcases k.moves with e | ⟨hh, hs, e⟩
  · exact absurd e hne
  · exact stationMoves_of_halt hh hs e

/-- The end of a frame has the row of its work, if it moves the station. -/
theorem frameEvent_moves {c : Instr} {act : RxFrame → State → State} (dt : Nat) (wave : List Bool) (want : FrameEnd) {s : State}
    (hact : ∀ f t, (act f t).station.state ≠ t.station.state → StationMoves c t.station.state (act f t).station.state)
    (hne : (frameEvent dt wave want act s).station.state ≠ s.station.state) :
    StationMoves c s.station.state (frameEvent dt wave want act s).station.state := by
  rcases frameEvent_cases dt wave want act s with e | ⟨f, crc, -, -, e⟩ <;> rw [e] at hne ⊢
  · exact absurd rfl hne
  · exact hact f _ hne

/-- The load of R5 enters LISTENING from UNCONFIGURED or leaves the station state. -/
theorem loadImage_state (bytes : List Byte) (s : State) :
    (loadImage bytes s).station.state = .listening ∨ (loadImage bytes s).station.state = s.station.state := by
  unfold loadImage
  split
  · exact .inl (by simp)
  · exact .inr rfl

/-- The listen interval ends in RUNNING or nowhere (R10). -/
theorem listenEnds_state (s : State) :
    (listenEnds s).station.state = s.station.state ∨
    (s.station.state = .listening ∧ (listenEnds s).station.state = .running) := by
  unfold listenEnds
  (repeat' split)
  · rename_i hs
    exact .inr ⟨hs, enterRunning_state _⟩
  · exact .inl rfl
  · exact .inl rfl

/-- The isolation timer ends in ISOLATED or nowhere (R11). -/
theorem isolationEnds_state (s : State) :
    (isolationEnds s).station.state = s.station.state ∨
    (s.station.state = .running ∧ (isolationEnds s).station.state = .isolated) := by
  unfold isolationEnds
  (repeat' split)
  · rename_i hs
    exact .inr ⟨hs, by simp [enterIsolated]⟩
  · exact .inl rfl
  · exact .inl rfl

/-- R2: the row of its table, for every command (log 4 for SUPPLY_FAILURE). -/
theorem effect_moves (c : Instr) (s : State) (hp : procFollows s.station.state s.halt.proc)
    (hl : s.loader.status = .passed ↔ s.station.state ≠ .unconfigured)
    (hne : (effect c s).station.state ≠ s.station.state) :
    StationMoves c s.station.state (effect c s).station.state := by
  have after : ∀ {dt : Nat} {t : State}, Keeps (mayHalt c) (s.advance dt) t → Keeps (mayHalt c) s t := fun {dt} {t} k =>
    (advance_keeps s dt).trans k
  have heard : ∀ {dt : Nat} {wave : List Bool} {t : State}, Keeps (mayHalt c) (s.hear dt wave) t → Keeps (mayHalt c) s t :=
    fun {dt} {wave} {t} k => (hear_keeps s dt wave).trans k
  cases c
  case powerOn => exact .inl ⟨rfl, .inl rfl⟩
  case supplyFailure => exact .inl ⟨rfl, .inr rfl⟩
  case configReadComplete dt bytes =>
    simp only [effect] at hne ⊢
    split at hne
    · rename_i hload
      rw [if_pos hload]
      rcases loadImage_state bytes (s.advance dt) with e | e
      · exact .inr (.inl ⟨unconfigured_of_loading hl hload, e, dt, bytes, rfl⟩)
      · exact absurd e hne
    · exact absurd rfl hne
  case configPortRefusal dt =>
    refine absurd ?_ hne
    simp only [effect]
    split <;> rfl
  case configReadTimeout =>
    refine absurd ?_ hne
    simp only [effect, readTimeout]
    (repeat' split) <;> rfl
  case listenIntervalExpiry =>
    rcases listenEnds_state s with e | ⟨ha, hb⟩
    · exact absurd e hne
    · exact .inr (.inr (.inl ⟨ha, hb, rfl⟩))
  case isolationTimeoutExpiry =>
    rcases isolationEnds_state s with e | ⟨ha, hb⟩
    · exact absurd e hne
    · exact .inr (.inr (.inr (.inl ⟨ha, hb, rfl⟩)))
  case lineIdle e => exact (heard (lineIdle_keeps _)).stationMoves hne
  case frameStart e => exact (heard (frameStart_keeps _)).stationMoves hne
  case frameC0Check dt wave => exact (heard (checkC0_keeps _)).stationMoves hne
  case framePrefilter dt wave1 wave2 => exact (heard (prefilter_keeps _)).stationMoves hne
  case framingError dt wave s9 s10 => exact (heard (framingError_keeps _)).stationMoves hne
  case skippedFrameEnd e => exact (heard (skippedEnd_keeps _)).stationMoves hne
  case frameBadCrc | completedFrameLost | answer => exact frameEvent_moves _ _ _ (fun _ _ hne => absurd rfl hne) hne
  case report dt wave =>
    refine frameEvent_moves dt wave _ (fun f t hne => ?_) hne
    rcases peerReport_cases (h := False) f t with e | k | ⟨-, ha, hb⟩
    · rw [e] at hne ⊢
      exact stationMoves_of_request trivial trivial (duplicateId_moves t) hne
    · exact absurd k.state hne
    · exact .inr (.inr (.inr (.inr (.inl ⟨ha, hb, dt, wave, rfl⟩))))
  case faultNotice dt wave =>
    refine frameEvent_moves dt wave _ (fun f t hne => ?_) hne
    rcases peerNotice_cases (h := False) f t with e | k
    · rw [e] at hne ⊢
      exact stationMoves_of_request trivial trivial (duplicateId_moves t) hne
    · exact absurd k.state hne
  case transmitStart dt => exact (after (transmitHead_keeps _)).stationMoves hne
  case arbitrationLost dt bit => exact (after (loseArbitration_keeps bit _)).stationMoves hne
  case bitError dt bit dominant => exact (after (takeBitError_keeps bit dominant _)).stationMoves hne
  case transmitComplete dt residual =>
    exact stationMoves_of_request trivial trivial (transmitEnds_moves residual (s.advance dt)) hne
  case reportTimerExpiry => exact (reportDue_keeps s).stationMoves hne
  case staleExpiry id => exact (staleEnds_keeps id s).stationMoves hne
  case lostExpiry id => exact (lostEnds_keeps id s).stationMoves hne
  case removalExpiry id => exact (removalEnds_keeps id s).stationMoves hne
  case flowInputChange dt low => exact (after (flowInput_keeps low _)).stationMoves hne
  case flowDebounceExpiry => exact (flowSettles_keeps s).stationMoves hne
  case roundTimerExpiry => exact (roundTick_keeps s).stationMoves hne
  case conversionEnd raw =>
    rcases conversionEnds_cases (h := False) raw s with k | ⟨-, hc, hb⟩
    · exact absurd k.state hne
    · exact .inr (.inr (.inr (.inr (.inr (.inr (.inl ⟨halting_of_proc hp (.inr hc), hb, raw, rfl⟩))))))
  case roundComplete raw => exact (roundEnds_keeps raw s).stationMoves hne
  case temperatureAgeExpiry sensor => exact (ageExpires_keeps sensor s).stationMoves hne
  case halfCycleMidpoint residual => exact (midpoint_keeps residual s).stationMoves hne
  case checkRequestTimeout c => exact (checkTimesOut_keeps c s).stationMoves hne
  case zeroCrossEdge e => exact (edge_keeps (h := mayHalt (.zeroCrossEdge e)) trivial (edgeAccepted (s.advance e.dt)) e s).stationMoves hne
  case periodEnd e =>
    exact (edge_keeps (h := mayHalt (.periodEnd e)) trivial (edgeAccepted (s.advance e.dt) && atPeriodEnd s) e s).stationMoves hne
  case mainsLost residual => exact (mainsEnds_keeps residual s).stationMoves hne
  case slotChoiceIntervalExpiry => exact (slotChoiceEnds_keeps s).stationMoves hne
  case holdExpiry c => exact (holdEnds_keeps c s).stationMoves hne
  case recloseTimerExpiry c => exact (recloseEnds_keeps c s).stationMoves hne
  case trialTimerExpiry c => exact (trialEnds_keeps c s).stationMoves hne
  case cleanPeriodExpiry c => exact (cleanEnds_keeps c s).stationMoves hne
  case leakageWatchExpiry => exact (watchEnds_keeps (h := mayHalt .leakageWatchExpiry) trivial s).stationMoves hne
  case confirmationCountEnd => exact (countEnds_keeps s).stationMoves hne
  case confirmationTimerExpiry residual => exact (confirmEnds_keeps residual s).stationMoves hne
  case stopStation dt wave =>
    have m := requestEvent_moves dt wave (want := .request .stopStation) (by decide) s
    have k : Keeps (mayHalt (.stopStation dt wave)) s (requestEvent dt wave (.request .stopStation) s) :=
      ⟨requestEvent_sound dt wave _ s, by simpa [mayHalt] using m⟩
    exact k.stationMoves hne
  case restart dt wave =>
    rcases requestEvent_moves dt wave (want := .request .restart) (by decide) s with e | ⟨e, -⟩ | ⟨-, ha, hb⟩
    · exact absurd e hne
    · cases e
    · exact stationMoves_of_restart trivial ha hb hne
  case resetTrip dt residual wave => exact absurd (requestEvent_still dt wave (by decide) (s.showResidual residual)) hne
  all_goals
    rename_i dt wave
    exact absurd (requestEvent_still dt wave (by decide) s) hne

/-- Settles O9. -/
theorem stationStateFollowsTable : Obligations.StationStateFollowsTable := by
  unfold Obligations.StationStateFollowsTable
  intro c rest s t hpend hp hl h hne
  rw [step_effect hpend h] at hne ⊢
  exact effect_moves c _ hp hl hne

end Sys2Proof.Machine
end

section
/-! Supply and configuration: what reset and the supply events hold (O3), and what a load makes of the 98 bytes (O4, O5, O6). -/

namespace Sys2Proof.Machine

/-! ## Reset and supply -/

/-- R3: the invariants hold in the state after reset, which a power-on of itself gives. -/
theorem reset_invariants :
    OutputsAgree State.reset ∧ MuteSilent State.reset ∧ QueueBounded State.reset.line ∧ FaultQueueBounded State.reset.fault.queue ∧
    PeersOrdered State.reset ∧ ControlBounded State.reset ∧ ShareBounded State.reset.budget := by
  refine ⟨powerUp_agrees State.reset, (muteSilent_iff _).mpr (fun m => by cases m), ⟨by decide, by decide, by decide, by decide⟩,
    ⟨by decide, by decide, by decide⟩, ⟨by decide, by decide, by decide, by decide, fun _ => rfl⟩, ⟨by decide, fun c => ?_⟩,
    ⟨by decide, by decide, by decide, by decide⟩⟩
  cases c <;> exact ⟨by decide, by decide, by decide, by decide, by decide, by decide, by decide⟩

/-- No output is on after a supply failure (R3). -/
theorem powerDown_heaterPin (s : State) (c : Chan) : (powerDown s).heaterPin c = false := by
  cases c <;> rfl

/-- Settles O3. -/
theorem supplyEventsAndResetHoldPowerOnValues : Obligations.SupplyEventsAndResetHoldPowerOnValues := by
  unfold Obligations.SupplyEventsAndResetHoldPowerOnValues
  refine ⟨⟨rfl, rfl, rfl, rfl, rfl, rfl, rfl, rfl, rfl, rfl, ?_, ?_, rfl, rfl, rfl, rfl, rfl, rfl, rfl⟩,
    reset_invariants, fun s => ⟨rfl, ?_⟩⟩
  · intro c
    cases c <;> exact ⟨rfl, rfl⟩
  · intro c
    cases c <;> rfl
  · exact ⟨_, rfl, rfl, rfl, rfl, rfl, powerDown_heaterPin s, rfl, rfl, rfl, rfl, rfl, rfl, rfl, rfl, rfl, rfl, rfl, rfl, rfl⟩

/-! ## A load that fails -/

/-- The 98 bytes reach a loader in progress (R5). -/
theorem exec_load {dt : Nat} {bytes : List Byte} {s : State} (hl : s.loading = true) (hb : bytes.length = 98) :
    exec (.configReadComplete dt bytes) s = .next (loadImage bytes (s.advance dt)) := by
  rw [exec_configReadComplete, if_pos hb, effect, if_pos hl]

theorem loadImage_fails {bytes : List Byte} (h : imagePasses bytes = false) (s : State) : loadImage bytes s = failLoad s := by
  simp [loadImage, h]

/-- Settles O5. -/
theorem failedLoadStaysUnconfigured : Obligations.FailedLoadStaysUnconfigured := by
  unfold Obligations.FailedLoadStaysUnconfigured
  refine ⟨fun dt bytes s hl hb hf => ?_, fun dt s hl => ?_, fun t s hl ht => ?_⟩
  · rw [exec_load hl hb, loadImage_fails hf]
    rfl
  · show Host.Outcome.next (ite _ _ _ : State) = _
    rw [if_pos hl]
    rfl
  · show Host.Outcome.next (readTimeout s) = _
    simp only [readTimeout, ht, hl, if_true]
    rfl

/-! ## A load that passes -/

/-- What a passed image makes of the state (R5, R7, R9). -/
def loaded (bytes : List Byte) (s : State) : State :=
  takeImage (clampImage (readImage bytes)) (decide (clampImage (readImage bytes) ≠ readImage bytes))
    (BitVec.ofNat 16 (u16 bytes 96)) s

theorem loadImage_passes {bytes : List Byte} (h : imagePasses bytes = true) (s : State) :
    loadImage bytes s = enterListening (loaded bytes s) := by
  simp [loadImage, h, loaded]

/-- The loader after a passed load (R8). -/
theorem loadImage_loader {bytes : List Byte} (h : imagePasses bytes = true) (s : State) : (loadImage bytes s).loader =
    ⟨.passed, decide (clampImage (readImage bytes) ≠ readImage bytes), BitVec.ofNat 16 (u16 bytes 96),
      clampImage (readImage bytes), none⟩ := by
  rw [loadImage_passes h, (enterListening_frame _).2.2.2.1]
  rfl

/-! ### The clamped fields (R7) -/

/-- Clamping to a range gives the nearer limit. -/
theorem clampNat_eq_nearest {lo hi : Nat} (h : lo ≤ hi) (x : Nat) : ((clampNat lo hi x : Nat) : Int) = nearest lo hi x := by
  unfold clampNat nearest
  (repeat' split) <;> omega

theorem clampInt_eq_nearest {lo hi : Int} (h : lo ≤ hi) (x : Int) : clampInt lo hi x = nearest lo hi x := by
  unfold clampInt nearest
  (repeat' split) <;> omega

theorem clampTemp_eq_nearest (t : Int) : clampTemp t = nearest (-500) 2000 t := clampInt_eq_nearest (by decide) t

/-- The limits stand in order after relation 1 of R7. -/
theorem relateLimits_ordered (img : Image) : (relateLimits img).tLow ≤ (relateLimits img).tHigh := by
  simp only [relateLimits]
  split <;> omega

theorem clampImage_clamped (raw : Image) : ClampedFrom raw (clampImage raw) where
  weight := clampNat_eq_nearest (by decide) _
  cf := clampNat_eq_nearest (by decide) _
  margin := clampNat_eq_nearest (lo := 0) (by decide) _
  rInt := clampNat_eq_nearest (by decide) _
  listen := clampNat_eq_nearest (by decide) _
  holdMax := clampNat_eq_nearest (by decide) _
  leakCode := clampNat_eq_nearest (lo := 0) (by decide) _
  windows c := by
    simp only [clampImage, relateSetpoints, relateLimits, clampFields, Four.get_map]
    exact ⟨clampNat_eq_nearest (by decide) _, clampNat_eq_nearest (by decide) _⟩
  tLow := clampTemp_eq_nearest _
  tHigh := by
    simp only [clampImage, relateSetpoints, relateLimits, clampFields, clampTemp_eq_nearest]
    split <;> omega
  tMax := clampTemp_eq_nearest _
  tAlarm := clampTemp_eq_nearest _
  tAmbSwitch := clampTemp_eq_nearest _
  coldBand := clampNat_eq_nearest (lo := 0) (by decide) _
  rampStep := clampNat_eq_nearest (by decide) _
  subMargin := clampNat_eq_nearest (lo := 0) (by decide) _
  dCold := clampNat_eq_nearest (lo := 0) (by decide) _
  dMild := clampNat_eq_nearest (lo := 0) (by decide) _
  iNom c := by
    simp only [clampImage, relateSetpoints, relateLimits, clampFields, Four.get_map]
    exact clampNat_eq_nearest (by decide) _
  setpoints c := by
    simp only [clampImage, relateSetpoints, Four.get_map]
    rw [clampInt_eq_nearest (relateLimits_ordered (clampFields raw))]
    simp only [relateLimits, clampFields, Four.get_map, clampTemp_eq_nearest]
  trims := by
    refine ⟨fun c => ?_, clampInt_eq_nearest (by decide) _⟩
    simp only [clampImage, relateSetpoints, relateLimits, clampFields, Four.get_map]
    exact clampInt_eq_nearest (by decide) _
  identity := ⟨rfl, rfl, rfl, rfl, rfl⟩
  asRead := ⟨rfl, rfl, rfl, rfl, rfl, rfl, rfl, rfl⟩

/-! ### The first REPORT and the first round (R9) -/

/-- A report instant with room in the queue, no REPORT in it and no mute flag: its REPORT is appended (R34, R38). -/
theorem reportInstant_appends {s : State} (hm : s.station.mute = false) (hr : s.line.queue.any OutFrame.isReport = false)
    (hl : s.line.queue.length < 4) : (reportInstant s).line = { s.line with
      reportTimer := some (s.now + seconds s.loader.image.rInt), queue := s.line.queue ++ [.report s.reportContent],
      lastQ := s.reportContent.q } := by
  simp only [reportInstant, hm, Line.offerReport, hr, hl, Bool.false_eq_true, if_false, if_true]

/-- A report instant that finds the queue empty. -/
theorem reportInstant_alone {s : State} (hm : s.station.mute = false) (hq : s.line.queue = []) :
    (reportInstant s).line = { s.line with
      reportTimer := some (s.now + seconds s.loader.image.rInt), queue := [.report s.reportContent], lastQ := s.reportContent.q } := by
  rw [reportInstant_appends hm (by simp [hq]) (by simp [hq]), hq]
  rfl

/-- Outside RUNNING and ISOLATED a REPORT carries 0 (R39). -/
theorem reported_idle {s : State} (h : s.station.state.fires = false) (v : Nat) : s.reported v = 0 := by simp [State.reported, h]

/-- The blocks as a round that begins at once leaves them, before the first report instant (R9). -/
def listening (s : State) : State := beginRound (startTimers (setContactor (!s.earthLock) s))

theorem enterListening_eq (s : State) : enterListening s = reportInstant (listening s) := rfl

/-- At the entry to LISTENING the REPORT shows LISTENING, no demand and the slot in force (R9, R39). -/
theorem listening_content (s : State) : (listening s).reportContent.state = .listening ∧ (listening s).reportContent.q = 0 ∧
    (listening s).reportContent.a = 0 ∧ (listening s).reportContent.slot = s.burst.slot := by
  have hs : (listening s).station.state = .listening := by simp [listening, startTimers]
  have hf : (listening s).station.state.fires = false := by rw [hs]; rfl
  exact ⟨hs, reported_idle hf _, reported_idle hf _, by simp [State.reportContent, listening, startTimers, setContactor]⟩

theorem listening_line (s : State) : (listening s).line = s.line.listen := by simp [listening, startTimers, setContactor]

/-- The entry to LISTENING of a station that is not mute, with no REPORT queued and room: its REPORT is appended (R9). -/
theorem enterListening_line {s : State} (hm : s.station.mute = false) (hr : s.line.queue.any OutFrame.isReport = false)
    (hl : s.line.queue.length < 4) : (enterListening s).line = { s.line.listen with
      reportTimer := some (s.now + seconds s.loader.image.rInt), queue := s.line.queue ++ [.report (listening s).reportContent],
      lastQ := 0 } := by
  have line := listening_line s
  rw [enterListening_eq, reportInstant_appends (by simpa [listening, startTimers, setContactor] using hm)
    (by simpa [line, Line.listen] using hr) (by simpa [line, Line.listen] using hl), (listening_content s).2.1, line]
  simp [listening, startTimers, setContactor, Line.listen]

/-- A sequencer in which nothing is requested and no round is in progress (R86). -/
structure Unasked (m : Meas) : Prop where
  round : m.roundOn = false
  measure : m.measure = .none
  requests : ∀ c, NoRequest (m.chans.get c)

/-- The first round begins: an idle converter takes its first reading, and a conversion in progress goes on (R88, R89). -/
theorem beginRound_meas {s : State} (h : Unasked s.meas) : (beginRound s).meas = { s.meas with
    roundOn := true, remaining := roundReadings s
    conv := some (s.meas.conv.getD ⟨.reading .refLo, false, .live, none, s.now + 250⟩) } := by
  obtain ⟨hr, hm, hn⟩ := h
  have begun : beginRound s = startNext { s with meas := { s.meas with roundOn := true, remaining := roundReadings s } } := by
    simp [beginRound, hr, hm]
  rw [begun]
  cases hc : s.meas.conv with
  | some cv => simp [startNext, hc]
  | none =>
    have taken := (startNext_takes { s with meas := { s.meas with roundOn := true, remaining := roundReadings s } } hc).reading .refLo
      (.refHi :: s.enabledList.map .wall ++ [.ambient]) hn rfl rfl
    rw [taken]
    rfl

theorem enterListening_meas {s : State} (h : Unasked s.meas) : (enterListening s).meas = { s.meas with
    roundTimer := some (s.now + 500000), roundOn := true, remaining := roundReadings s
    conv := some (s.meas.conv.getD ⟨.reading .refLo, false, .live, none, s.now + 250⟩) } := by
  have e : (enterListening s).meas = (beginRound (startTimers (setContactor (!s.earthLock) s))).meas := by simp [enterListening]
  rw [e, beginRound_meas (s := startTimers (setContactor (!s.earthLock) s)) ⟨h.round, h.measure, h.requests⟩]
  rfl

theorem powerOn_unasked (iNom : Four Nat) : Unasked (.powerOn iNom) := by
  refine ⟨rfl, rfl, fun c => ?_⟩
  cases c <;> exact ⟨rfl, rfl, rfl⟩

/-- What an entry to LISTENING makes of the peer table: the debounce starts where the flow input is enabled (R9, R80). -/
theorem enterListening_peers (s : State) : (enterListening s).peers =
    { s.peers with flowTimer := if s.loader.image.flowEnabled then some (s.now + seconds 2) else none } := by
  simp [enterListening, startTimers]

/-- Settles O4. -/
theorem passedLoadEntersListening : Obligations.PassedLoadEntersListening := by
  unfold Obligations.PassedLoadEntersListening
  refine ⟨fun dt bytes s hl hm hline hb hp => ?_, fun dt bytes s hl hb hp => ?_⟩
  · dsimp only
    have queue : (loaded bytes (s.advance dt)).line.queue = [] := by simp [loaded, hline, Line.powerOn]
    have line := enterListening_line (s := loaded bytes (s.advance dt)) hm (by simp [queue]) (by simp [queue])
    have meas := enterListening_meas (s := loaded bytes (s.advance dt)) (powerOn_unasked _)
    obtain ⟨hstate, hq, ha, hslot⟩ := listening_content (loaded bytes (s.advance dt))
    refine ⟨_, exec_load hl hb, ?_⟩
    rw [loadImage_passes hp]
    refine ⟨by simp [loaded], by rw [← loadImage_passes hp, loadImage_loader hp], by simp [loaded, takeImage], fun c => ?_, fun c => ?_,
      ?_, ?_, ?_, ?_, ?_, ⟨_, by simp only [line, queue, List.nil_append], hstate, hq, ha, hslot⟩, ?_,
      by simp [loaded], by simp [loaded], by simp [loaded], by simp [loaded], by simp [loaded], by simp [loaded]⟩
    · simp [loaded, takeImage]
    · rw [meas]
      simp [loaded, takeImage, Meas.powerOn, ChanMeas.powerOn]
    · simp [loaded, takeImage, State.earthLock]
    · rw [meas]
      rfl
    · rw [meas]
    · rw [line]
      simp [loaded, takeImage, hline, Line.listen, Line.powerOn, Line.busy]
    · rw [line]
      rfl
    · rw [enterListening_peers]
      rfl
  · refine ⟨_, exec_load hl hb, ?_, ?_⟩
    · rw [loadImage_loader hp]
      exact clampImage_clamped _
    · rw [loadImage_loader hp]
      simp

/-! ## The identity fields -/

/-- An identity field is out of range, in the bytes of the image (R6). -/
theorem identityRefused_iff (bs : List Byte) : identityRefused (readImage bs) = true ↔
    (charAt bs 0 < 1 ∨ 239 < charAt bs 0) ∨ 7 < charAt bs 1 ∨ (charAt bs 4 < 1 ∨ 15 < charAt bs 4) ∨
      (charAt bs 6 = 0 ∨ 3 < charAt bs 6) ∨ charAt bs 7 % 16 = 0 := by
  have enables : (readImage bs).enables.toList.all (!·) = true ↔ charAt bs 7 % 16 = 0 := by
    simp only [readImage, bitOf, Four.toList, List.all_cons, List.all_nil, Bool.and_true, Bool.and_eq_true, Bool.not_eq_true',
      decide_eq_false_iff_not]
    omega
  simp only [identityRefused, Bool.or_eq_true, decide_eq_true_eq, enables]
  simp only [readImage]
  omega

/-- Settles O6. -/
theorem identityFieldsDecideRefusal : Obligations.IdentityFieldsDecideRefusal := by
  unfold Obligations.IdentityFieldsDecideRefusal
  intro dt bytes s hl hb hcrc
  refine ⟨_, exec_load hl hb, fun hr => ?_, fun hr => ?_⟩
  · have hp : imagePasses bytes = false := by simp [imagePasses, hcrc, (identityRefused_iff bytes).mpr hr]
    rw [loadImage_fails hp]
    rfl
  · have hp : imagePasses bytes = true := by
      have : ¬identityRefused (readImage bytes) = true := fun h => hr ((identityRefused_iff bytes).mp h)
      simpa [imagePasses, hcrc] using this
    rw [loadImage_loader hp]
    refine ⟨rfl, rfl, rfl, rfl, rfl, fun c => ?_, ?_, ?_⟩
    · cases c <;> rfl
    · show (_ * 256 + _) % 4096 = _
      rw [Nat.mul_comm]
      rfl
    · show decide (_ / 2 ^ 0 % 2 = 1) = _
      rw [pow_zero, Nat.div_one]
      rfl

end Sys2Proof.Machine
end

section
/-! The station timers (O8), the slot choice (O50) and the start of a transmission (O16). -/

namespace Sys2Proof.Machine

/-! ## The slot choice (R122) -/

/-- The least load of the eight slots. -/
def leastLoad (s : State) : Nat := ((List.range 8).map (slotLoad s)).foldl min (slotLoad s 0)

theorem leastLoad_spec (s : State) : (∃ n, n < 8 ∧ slotLoad s n = leastLoad s) ∧ ∀ m, m < 8 → leastLoad s ≤ slotLoad s m := by
  have h : (slotLoad s 0 :: (List.range 8).map (slotLoad s)).min? = some (leastLoad s) := List.min?_cons'
  obtain ⟨hmem, hle⟩ := List.min?_eq_some_iff.mp h
  refine ⟨?_, fun m hm => hle _ (List.mem_cons_of_mem _ (List.mem_map_of_mem (List.mem_range.mpr hm)))⟩
  rcases List.mem_cons.mp hmem with e | e
  · exact ⟨0, by decide, e.symm⟩
  · obtain ⟨n, hn, e⟩ := List.mem_map.mp e
    exact ⟨n, List.mem_range.mp hn, e⟩

theorem chooseSlot_eq (s : State) : chooseSlot s =
    if slotLoad s (s.loader.image.id % 8) = leastLoad s then s.loader.image.id % 8
    else ((List.range 8).find? fun n => decide (slotLoad s n = leastLoad s)).getD (s.loader.image.id % 8) := rfl

/-- The chosen slot has the least load; it is the own one where that is least, else the lowest of the least loaded (R122). -/
theorem chooseSlot_spec (s : State) :
    chooseSlot s < 8 ∧ slotLoad s (chooseSlot s) = leastLoad s ∧
    (slotLoad s (s.loader.image.id % 8) = leastLoad s → chooseSlot s = s.loader.image.id % 8) ∧
    (slotLoad s (s.loader.image.id % 8) ≠ leastLoad s → ∀ m, m < chooseSlot s → slotLoad s m ≠ leastLoad s) := by
  rw [chooseSlot_eq]
  split
  · rename_i h
    exact ⟨Nat.mod_lt _ (by decide), h, fun _ => rfl, fun hn => absurd h hn⟩
  · rename_i h
    cases hf : (List.range 8).find? fun n => decide (slotLoad s n = leastLoad s) with
    | none =>
      obtain ⟨n, hn, e⟩ := (leastLoad_spec s).1
      exact absurd e (by simpa using List.find?_eq_none.mp hf n (List.mem_range.mpr hn))
    | some n =>
      obtain ⟨hl, hn, hlow⟩ := List.find?_range_eq_some.mp hf
      exact ⟨List.mem_range.mp hn, of_decide_eq_true hl, fun e => absurd e h, fun _ m hm => by simpa using hlow m hm⟩

/-- The load of a slot, in the statement's words (R122). -/
theorem slotLoad_eq (s : State) (n : Nat) : slotLoad s n = ((s.peers.entries.filter fun p =>
    decide (p.feeder = s.loader.image.feeder ∧ p.age ≠ .lost ∧ p.slot = n)).map (·.q)).sum := by
  simp [slotLoad, onFeeder, Bool.decide_and]

/-! ## The entry to RUNNING (R10) -/

/-- The start choice's record, by R146's cases. -/
theorem startRecord_started (s : State) (c : Chan) (ch : Channel) :
    Started s s.station.state.fires c ch (startRecord s c ch) := by
  cases hf : s.station.state.fires with
  | false =>
    have e : startRecord s c ch = { ch with
        state := .off, d := 0, ds := 0, ramp := none, ctlTemp := none, ctlSrc := .none, holdExpiry := none, clean := none } := by
      simp [startRecord, hf]
    rw [e]
    exact ⟨⟨rfl, rfl, rfl, rfl, rfl⟩, rfl, fun _ => ⟨rfl, rfl, rfl, rfl, rfl, rfl, rfl⟩, fun h => (by cases h), fun h => (by cases h),
      fun _ h => (by cases h), fun h => (by cases h)⟩
  | true =>
    have started : ∃ st ramp temp src, startRecord s c ch = ch.started s.now st ramp temp src := by
      simp only [startRecord, hf, Bool.not_true, Bool.false_eq_true, if_false]
      (repeat' split) <;> exact ⟨_, _, _, _, rfl⟩
    obtain ⟨st, ramp, temp, src, e⟩ := started
    refine ⟨?_, ?_, fun h => (by cases h), fun _ => ?_, fun _ => ?_, fun t _ ht => ?_, fun _ ht => ?_⟩
    · rw [e]; exact ⟨rfl, rfl, rfl, rfl, rfl⟩
    · rw [e]; rfl
    · rw [e]; exact ⟨rfl, rfl⟩
    · rw [e]; rfl
    · simp only [startRecord, hf, ht, Bool.not_true, Bool.false_eq_true, if_false]
      split
      · rename_i h
        exact ⟨fun _ => ⟨rfl, rfl⟩, fun h' => absurd h (by omega), rfl, rfl⟩
      · rename_i h
        exact ⟨fun h' => absurd h' h, fun _ => ⟨rfl, rfl⟩, rfl, rfl⟩
    · cases hs : substitute s c with
      | none => simp [startRecord, hf, ht, hs, Channel.started]
      | some x =>
        obtain ⟨v, vsrc⟩ := x
        simp only [startRecord, hf, ht, hs, Bool.not_true, Bool.false_eq_true, if_false]
        exact ⟨rfl, fun _ _ h => (by cases h; exact ⟨rfl, rfl, rfl⟩), fun h => (by cases h)⟩

/-- A channel at the entry to RUNNING: an enabled one in OFF makes its start choice (R10, R146). -/
def offStarted (s : State) (c : Chan) : Channel :=
  if s.enabled c && decide ((s.chans.get c).state = .off) then startRecord s c (s.chans.get c) else s.chans.get c

theorem offStarted_of_off {s : State} {c : Chan} (he : s.enabled c = true) (ho : (s.chans.get c).state = .off) :
    offStarted s c = startRecord s c (s.chans.get c) := by simp [offStarted, he, ho]

theorem offStarted_of_else {s : State} {c : Chan} (h : ¬(s.enabled c = true ∧ (s.chans.get c).state = .off)) :
    offStarted s c = s.chans.get c := if_neg (by simpa using h)

theorem four_set_get_self {α : Type} (f : Four α) (c : Chan) : f.set c (f.get c) = f := by cases c <;> rfl

theorem startOffChannels_eq (s : State) : startOffChannels s = { s with chans := .of (offStarted s) } := by
  have one : ∀ (c : Chan) (s : State), (if s.enabled c && decide ((s.chans.get c).state = .off) then startChoice c s else s) =
      { s with chans := s.chans.set c (offStarted s c) } := by
    intro c s
    unfold offStarted
    split
    · rfl
    · rw [four_set_get_self]
  simp only [startOffChannels, State.each, Chan.list, List.foldl_cons, List.foldl_nil, one]
  rfl

/-- Whether it offers, drops or holds, a report instant restarts the report timer (R38). -/
theorem reportInstant_timer (s : State) :
    (reportInstant s).line.reportTimer = some (s.now + seconds s.loader.image.rInt) := by
  unfold reportInstant Line.offerReport
  dsimp only
  (repeat' split) <;> rfl

/-- The station that makes its start choices at the entry to RUNNING (R10). -/
def entering (s : State) : State := { s with station := { s.station with state := .running, listenTimer := none } }

/-- The blocks at the entry to RUNNING, before the isolation timer is settled (R10). -/
def running (s : State) : State :=
  { entering s with burst := { s.burst with pendingSlot := some (chooseSlot s) }, chans := .of (offStarted (entering s)) }

theorem enterRunning_eq (s : State) : enterRunning s = reportInstant (setIsolation (running s)) := by
  unfold enterRunning
  dsimp only
  rw [startOffChannels_eq]
  rfl

/-- The isolation timer at the entry to RUNNING (R11). -/
theorem setIsolation_running (s : State) : (setIsolation (running s)).station =
    { s.station with
      state := .running, listenTimer := none
      isolationTimer := if liveSame s.loader.image s.peers.entries = true then none
        else if 1 < s.loader.image.nf then some (s.now + seconds (10 * s.loader.image.rInt)) else s.station.isolationTimer } := by
  unfold setIsolation startIsolation
  simp only [running, entering, stopIsolation, true_and]
  (repeat' split) <;> rfl

theorem exec_listenInterval {s : State} {e : Nat} (hs : s.station.state = .listening) (he : s.station.listenTimer = some e) :
    exec .listenIntervalExpiry s = .next (enterRunning (s.reach e)) := by
  show Host.Outcome.next (listenEnds s) = _
  simp [listenEnds, he, hs]

/-- Settles O50. -/
theorem slotChoiceTakesTheLeastLoad : Obligations.SlotChoiceTakesTheLeastLoad := by
  unfold Obligations.SlotChoiceTakesTheLeastLoad
  intro s
  simp only [← slotLoad_eq]
  obtain ⟨hlt, hleast, hown, hlow⟩ := chooseSlot_spec s
  have le := (leastLoad_spec s).2
  have own : (∀ m, m < 8 → slotLoad s (s.loader.image.id % 8) ≤ slotLoad s m) ↔
      slotLoad s (s.loader.image.id % 8) = leastLoad s := by
    constructor
    · intro h
      exact Nat.le_antisymm (hleast ▸ h _ hlt) (le _ (Nat.mod_lt _ (by decide)))
    · intro h
      rwa [h]
  refine ⟨chooseSlot s, hlt, by rwa [hleast], fun h => hown (own.mp h), fun h m hm => ?_, fun e he => ?_, fun e hs he => ?_⟩
  · have := hlow (fun x => h (own.mpr x)) m hm
    have := le m (hm.trans hlt)
    omega
  · show Host.Outcome.next (slotChoiceEnds s) = _
    simp only [slotChoiceEnds, he]
    rfl
  · refine ⟨_, exec_listenInterval hs he, ?_⟩
    rw [enterRunning_eq]
    simp [running, entering]
    rfl

/-- Settles O8. -/
theorem stationTimersEnd : Obligations.StationTimersEnd := by
  unfold Obligations.StationTimersEnd
  refine ⟨⟨fun e s hs he => ?_, fun s hs => ?_⟩, fun e s hs he => ?_⟩
  · dsimp only
    refine ⟨_, exec_listenInterval hs he, ?_⟩
    rw [enterRunning_eq]
    have station := setIsolation_running (s.reach e)
    have chans : ∀ c, (reportInstant (setIsolation (running (s.reach e)))).chans.get c = offStarted (entering (s.reach e)) c :=
      fun c => by simp [running]
    have content : (setIsolation (running (s.reach e))).reportContent.slot = s.burst.slot := by simp [State.reportContent, running]
    refine ⟨by simp [running, entering], by simp [station], by simp [station], by simp [station], ?_, ?_, fun c hen hoff => ?_,
      fun c hno => ?_, ?_, fun hm hq => ?_, by simp [running, entering], by simp [running, entering], by simp [running, entering], by simp [running, entering],
      by simp [running, entering], by simp [running, entering], by simp [running, entering], by simp [running, entering], by simp [running, entering]⟩
    · simp [station]
      rfl
    · simp [running, entering]
      rfl
    · have began := startRecord_started (entering (s.reach e)) c (s.chans.get c)
      rw [chans, offStarted_of_off (s := entering (s.reach e)) hen hoff]
      exact ⟨began.kept, began.hold, fun h => (by cases h), began.demand, began.clean, began.own, began.borrowed⟩
    · rw [chans, offStarted_of_else (s := entering (s.reach e)) hno]
      rfl
    · rw [reportInstant_timer]
      simp [running, entering]
    · have line := reportInstant_alone (s := setIsolation (running (s.reach e))) (by simpa [station] using hm)
        (by simpa [running, entering] using hq)
      refine ⟨_, by rw [line], ?_, content, by rw [line]⟩
      simp [State.reportContent, station]
  · show Host.Outcome.next (listenEnds s) = _
    unfold listenEnds
    (repeat' split) <;> simp_all
  · refine ⟨enterIsolated (s.reach e), ?_, by simp [enterIsolated], ?_, fun hm hq => ?_, ?_⟩
    · show Host.Outcome.next (isolationEnds s) = _
      simp [isolationEnds, he, hs]
    · exact reportInstant_timer _
    · have line := reportInstant_alone
        (s := { s.reach e with station := { s.station with state := .isolated, isolationTimer := none } }) hm hq
      exact ⟨_, by rw [enterIsolated]; exact congrArg Line.queue line, rfl, rfl⟩
    · rfl

/-! ## The start of a transmission (R29) -/

/-- The own start bit finds the receiver READY: its first sample opens the own frame (R18, R26; log 9). -/
theorem hearOwnStart_ready {l : Line} (h : l.rx = .ready) (phase : Option Nat) : l.hearOwnStart phase =
    { l with sampler := l.sampler.take true, rx := .assemble, asm := [], left := 1, stamp := phase } := by
  have heard : l.sample true = { l with sampler := (l.hear [true]).sampler } := Line.hear_unassembled (.inr h) [true]
  rw [l.hear_sampler] at heard
  simp [Line.hearOwnStart, h, heard, Line.openFrame]

theorem mayStart_iff (s : State) : mayStart s = true ↔
    s.active = true ∧ s.line.tx = .idle ∧ s.station.mute = false ∧ s.line.sampler.idle = 192 := by
  simp only [mayStart, Line.busy, Bool.and_eq_true, Bool.not_eq_true', decide_eq_false_iff_not, decide_eq_true_eq, ne_eq, not_not,
    and_assoc]
  rfl

/-- The transmit state so many microseconds after the start: C0 and C1 last 20 bit times (R17, R19). -/
theorem transmitState_after {t : State} {since : Nat} (h : t.line.tx = .driving since) (hn : t.now = since) (us : Nat) :
    ({ t with now := t.now + us } : State).transmitState =
      if us * bitRate t.loader.image.bitRate < 20 * 1000000 then .arbitrating else .sending := by
  simp only [State.transmitState, h, hn, Nat.add_sub_cancel_left, bitsIn, transmitPhase,
    Nat.div_lt_iff_lt_mul (show 0 < 1000000 by decide)]

theorem bitRate_eq (code : Nat) : bitRate code = if code = 1 then 9600 else if code = 2 then 19200 else 38400 := by
  unfold bitRate
  split <;> simp_all

/-- Settles O16. -/
theorem transmissionStartsOnIdleLine : Obligations.TransmissionStartsOnIdleLine := by
  unfold Obligations.TransmissionStartsOnIdleLine
  intro dt s hact hrx
  refine ⟨fun head rest hq htx hm hi => ?_, fun h => ?_⟩
  · have start : transmitHead (s.advance dt) = startHead head (s.advance dt) := by
      have hmay : mayStart (s.advance dt) = true := (mayStart_iff _).mpr ⟨hact, htx, hm, hi⟩
      simp [transmitHead, hq, hmay]
    have own : (s.advance dt).line.hearOwnStart (s.advance dt).phase? = _ := hearOwnStart_ready hrx _
    have driven : (startHead head (s.advance dt)).line.tx = .driving (s.now + dt) := by simp [startHead, Line.beginFrame]
    dsimp only
    refine ⟨startHead head (s.advance dt), congrArg Host.Outcome.next start, driven, fun us => ?_, ?_⟩
    · rw [← bitRate_eq, transmitState_after driven (by simp)]
      simp
    · have idle : (s.line.sampler.take true).idle = 0 := s.line.sampler.take_idle true
      simp only [startHead, own]
      cases head with
      | report c =>
        exact ⟨rfl, rfl, rfl, idle, rfl, hq, fun _ h => (by cases h; exact ⟨rfl, rfl, rfl, rfl⟩), fun _ h => (by cases h),
          fun _ h => (by cases h), rfl, rfl, rfl, rfl, rfl⟩
      | notice n =>
        exact ⟨rfl, rfl, rfl, idle, rfl, hq, fun _ h => (by cases h), fun _ h => (by cases h; exact ⟨rfl, rfl⟩),
          fun _ h => (by cases h), rfl, rfl, rfl, rfl, rfl⟩
      | answer a =>
        exact ⟨rfl, rfl, rfl, idle, rfl, hq, fun _ h => (by cases h), fun _ h => (by cases h),
          fun _ h => (by cases h; exact ⟨rfl, rfl⟩), rfl, rfl, rfl, rfl, rfl⟩
  · show Host.Outcome.next (transmitHead (s.advance dt)) = _
    have still : transmitHead (s.advance dt) = s.advance dt := by
      unfold transmitHead
      split
      · rename_i hq
        have hmay : ¬mayStart (s.advance dt) = true := by
          rw [mayStart_iff]
          rintro ⟨-, htx, hm, hi⟩
          rcases h with h | h | h | h
          · simp [h] at hq
          · exact h htx
          · rw [show s.station.mute = false from hm] at h; cases h
          · exact h hi
        rw [if_neg hmay]
      · rfl
    rw [still]
    rfl

end Sys2Proof.Machine
end

section
/-! Frames that end the present run: a RESTART (O30), and a frame that bears the own id (O37). -/

namespace Sys2Proof.Machine

/-! ## The end of a frame -/

/-- The event of a frame that arrives is its work on the state at its end. -/
theorem frameEvent_of_arrives {dt : Nat} {wave : List Bool} {want : FrameEnd} {f : RxFrame} {s : State} (h : Arrives dt wave want f s)
    (act : RxFrame → State → State) : frameEvent dt wave want act s = act f (frameEnded dt wave s) := by
  obtain ⟨crc, hf, he⟩ := h
  simp only [frameEvent, hf, he, if_true]
  rfl

/-- A frame arrives at a configured station alone (R8). -/
theorem active_of_arrives {dt : Nat} {wave : List Bool} {want : FrameEnd} {f : RxFrame} {s : State} (h : Arrives dt wave want f s) :
    s.active = true := by
  obtain ⟨crc, hf, -⟩ := h
  unfold frameEnding at hf
  split at hf
  · rename_i ha
    exact (Bool.and_eq_true_iff.mp ha).1
  · cases hf

/-- A frame that is dispatched finds the transmitter IDLE and the slot empty (R27, R28; log 9). -/
theorem dispatched_of_arrives {dt : Nat} {wave : List Bool} {want : FrameEnd} {f : RxFrame} {s : State} (h : Arrives dt wave want f s)
    (hw : want ≠ .badCrc ∧ want ≠ .own ∧ want ≠ .lost) : s.line.tx = .idle ∧ s.line.slot = none ∧ dispatchEnd f = want := by
  have ha := active_of_arrives h
  obtain ⟨crc, -, he⟩ := h
  obtain ⟨hb, ho, hl⟩ := hw
  unfold endOf at he
  split at he
  · exact absurd he.symm hb
  · split at he
    · exact absurd he.symm ho
    · rename_i hbusy
      split at he
      · exact absurd he.symm hl
      · rename_i hslot
        exact ⟨by simpa [ha, Line.busy] using hbusy, by simpa [ha] using hslot, he⟩

/-- At the end of a frame the line has taken the samples and dropped what it assembled. -/
theorem frameEnded_line {dt : Nat} {wave : List Bool} {s : State} (ha : s.active = true) :
    (frameEnded dt wave s).line = (s.line.hear wave).dropFrame := by simp [frameEnded, ha]

/-- A frame that turns out to be a request names it, with the request's kind and length (R46). -/
theorem requestOf_of_dispatch {f : RxFrame} {r : Request} (h : dispatchEnd f = .request r) :
    requestOf f = some r ∧ 2 ≤ f.payload.length := by
  unfold dispatchEnd at h
  split at h
  · cases h
  · split at h
    · cases h
    · split at h
      · cases h
      · unfold requestEnd at h
        split at h
        · cases h
        · rename_i hlen
          split at h
          · rename_i r' hr
            cases h
            exact ⟨hr, by omega⟩
          · cases h

/-- What a request's frame must show (R46 step 3). -/
theorem code_of_requestOf {f : RxFrame} {r : Request} (h : requestOf f = some r) :
    requestOfCode (charAt f.payload 0) = some r ∧ r.kind = kindOf f.c0 ∧ r.length = f.payload.length := by
  unfold requestOf at h
  split at h
  · rename_i r' hc
    split at h
    · rename_i hk
      obtain rfl := Option.some.inj h
      exact ⟨hc, hk⟩
    · cases h
  · cases h

/-! ## RESTART (R16) -/

/-- The one code of RESTART (R212). -/
theorem code_restart {n : Nat} (h : requestOfCode n = some .restart) : n = 0x19 := by
  unfold requestOfCode at h
  split at h <;> simp_all

/-- A RESTART that is permitted and allowed is carried out, whatever the command unit holds (R45, R46, R51). -/
theorem dispatch_restart {f : RxFrame} {s : State} (hd : dispatchEnd f = .request .restart) (hp : permitted s.loader.image f = true)
    (ha : allowed .restart s.station.state = true) : dispatchRequest f s = takeRestart f s := by
  obtain ⟨hr, hlen⟩ := requestOf_of_dispatch hd
  obtain ⟨hc, hk, -⟩ := code_of_requestOf hr
  have cmd : isCommand f = true := by simp [isCommand, ← hk, Request.kind]
  have restart : isRestart f = true := by simp [isRestart, cmd, hlen, code_restart hc]
  have short : ¬f.payload.length < 2 := by omega
  simp [dispatchRequest, restart, takeRequest, short, cmd, hp, hr, ha, carryOut]

/-- The answer to a RESTART, where one is due (R16, R42). -/
def restartAnswer (img : Image) (f : RxFrame) : List OutFrame := if answerDue img f then [.answer (answerTo f .ok [])] else []

theorem restartAnswer_eq (img : Image) (f : RxFrame) : restartAnswer img f =
    if f.c2.toNat = img.id ∧ 1 ≤ f.c2.toNat ∧ f.c2.toNat ≤ 239 then [.answer ⟨f.c1, f.payload.getD 1 0, .ok, []⟩] else [] := by
  simp only [restartAnswer, answerDue, decide_eq_true_eq]
  split <;> split
  · rfl
  · omega
  · omega
  · rfl

theorem restartAnswer_noReport (img : Image) (f : RxFrame) : (restartAnswer img f).any OutFrame.isReport = false := by
  unfold restartAnswer
  split <;> rfl

theorem restartAnswer_length (img : Image) (f : RxFrame) : (restartAnswer img f).length ≤ 1 := by
  unfold restartAnswer
  split <;> simp

/-- The line at a RESTART: the restart values with the answer behind what stays in the queue (R16, R17). -/
theorem restarted_line (f : RxFrame) (s : State) : (restarted f s).line =
    { s.line.restart with queue := s.line.restart.queue ++ restartAnswer s.loader.image f } := by
  unfold restarted restartAnswer
  split
  · rfl
  · simp [restartBlocks]

theorem restarted_unasked (f : RxFrame) (s : State) : Unasked (restarted f s).meas := by
  rw [restarted_blocks]
  exact ⟨rfl, rfl, (powerOn_unasked s.loader.image.iNom).requests⟩

/-- The sequencer after a RESTART (R86, R89). -/
theorem takeRestart_meas (f : RxFrame) (s : State) : (takeRestart f s).meas = { Meas.powerOn s.loader.image.iNom with
    roundTimer := some (s.now + 500000), roundOn := true, remaining := roundReadings s
    conv := match s.meas.conv with
      | some cv => some { cv with fate := .abandoned }
      | none => some ⟨.reading .refLo, false, .live, none, s.now + 250⟩ } := by
  have meas := enterListening_meas (restarted_unasked f s)
  rw [takeRestart_eq, meas, restarted_blocks]
  cases hc : s.meas.conv <;> simp [restartBlocks, Meas.restart, hc, roundReadings, State.enabledList] <;> rfl

/-- Everything of R16's table but the line and the sequencer. -/
theorem takeRestart_blocks (f : RxFrame) (s : State) : { takeRestart f s with line := s.line, meas := s.meas } = { s with
    station := ⟨.listening, false, some (s.now + seconds s.loader.image.listen), none, s.now⟩
    cmd := .empty
    peers := ⟨s.peers.entries.map fun p => { p with delta := none },
      if s.loader.image.flowEnabled then some (s.now + seconds 2) else none, .unknown, .unknown, s.loader.image.flowEnabled⟩
    burst := { Burst.powerOn with slot := s.burst.slot, lastEdge := s.burst.lastEdge, contactor := !s.earthLock,
                                  mainsTimer := some (s.now + mainsLostTime s.loader.image) }
    budget := ⟨0, 0, 0, 0, 0⟩
    chans := s.chans.map .restart
    fault := s.fault.restart
    halt := s.halt.restart } := by
  have lock : (restarted f s).earthLock = s.earthLock := by rw [restarted_blocks]; rfl
  rw [takeRestart_eq, State.mk.injEq]
  simp only [enterListening_frame, enterListening_station, enterListening_burst, enterListening_peers, lock]
  rw [restarted_blocks]
  exact ⟨rfl, rfl, rfl, rfl, rfl, trivial, rfl, rfl, trivial, rfl, rfl, rfl, rfl, rfl, rfl⟩

/-- With a REPORT in transmission a report instant holds its content (R34). -/
theorem reportInstant_holds {s : State} {head : OutFrame} {rest : List OutFrame} (hm : s.station.mute = false)
    (hb : s.line.busy = true) (hq : s.line.queue = head :: rest) (hr : head.isReport = true) : (reportInstant s).line = { s.line with
      reportTimer := some (s.now + seconds s.loader.image.rInt), hold := some s.reportContent, lastQ := s.reportContent.q } := by
  have started : s.line.reportStarted = true := by simp [Line.reportStarted, Line.started, hb, hq, hr]
  have queued : s.line.queue.any OutFrame.isReport = true := by simp [hq, hr]
  have started' : ({ s.line with reportTimer := some (s.now + seconds s.loader.image.rInt) } : Line).reportStarted = true := started
  simp only [reportInstant, hm, Line.offerReport, queued, started', Bool.false_eq_true, if_false, if_true]

theorem exec_restart {dt : Nat} {wave : List Bool} {f : RxFrame} {s : State} (h : Arrives dt wave (.request .restart) f s)
    (hp : permitted s.loader.image f = true) (ha : allowed .restart s.station.state = true) :
    exec (.restart dt wave) s = .next (takeRestart f (frameEnded dt wave s)) := by
  have hd := (dispatched_of_arrives h (by simp)).2.2
  show Host.Outcome.next (requestEvent dt wave (.request .restart) s) = _
  rw [requestEvent, frameEvent_of_arrives h, dispatch_restart (s := frameEnded dt wave s) hd hp ha]

/-- The line at a RESTART that finds nothing in transmission: the answer, then the REPORT (R16). -/
theorem takeRestart_line_idle (f : RxFrame) {s : State} (ht : s.line.tx = .idle) : (takeRestart f s).line =
    { s.line.restart.listen with
      reportTimer := some (s.now + seconds s.loader.image.rInt), lastQ := 0
      queue := restartAnswer s.loader.image f ++ [.report (listening (restarted f s)).reportContent] } := by
  have hb : s.line.busy = false := by simp [Line.busy, ht]
  have emptied : s.line.restart.queue = [] := by simp [Line.restart, hb]
  have queue : (restarted f s).line.queue = restartAnswer s.loader.image f := by rw [restarted_line, emptied]; rfl
  have length := restartAnswer_length s.loader.image f
  rw [takeRestart_eq, enterListening_line (by rw [restarted_blocks]; rfl) (by rw [queue, restartAnswer_noReport])
    (by rw [queue]; omega), queue, restarted_line, restarted_blocks]
  rfl

/-- Settles O30. -/
theorem restartEndsThePresentRun : Obligations.RestartEndsThePresentRun := by
  unfold Obligations.RestartEndsThePresentRun
  refine ⟨fun dt wave f s h hp ha => ?_, fun f head rest s ht hq => ?_⟩
  · have hact := active_of_arrives h
    have idle := (dispatched_of_arrives h (by simp)).1
    have blocks := takeRestart_blocks f (frameEnded dt wave s)
    have line := takeRestart_line_idle f (s := frameEnded dt wave s) (by simp [frameEnded_line hact, Line.dropFrame, idle])
    have meas := takeRestart_meas f (frameEnded dt wave s)
    refine ⟨_, exec_restart h hp ha, ?_⟩
    rw [State.mk.injEq] at blocks
    obtain ⟨powered, now, pins, loader, station, -, cmd, peers, -, burst, budget, chans, fault, halt, -⟩ := blocks
    have channel : ∀ c, (takeRestart f (frameEnded dt wave s)).meas.chans.get c = .powerOn (s.loader.image.iNom.get c) := fun c => by
      rw [meas]
      cases c <;> rfl
    have wall : ∀ c, (takeRestart f (frameEnded dt wave s)).meas.wall.get c = .powerOn := fun c => by
      rw [meas]
      cases c <;> rfl
    have amb : (takeRestart f (frameEnded dt wave s)).meas.amb = .powerOn := by rw [meas]; rfl
    have untaken : SensorState.powerOn.temp = none := rfl
    obtain ⟨hstate, hq, hallow, hslot⟩ := listening_content (restarted f (frameEnded dt wave s))
    have answer := restartAnswer_eq s.loader.image f
    refine ⟨now, loader, pins, powered, station, by simp [State.uptime, station], cmd, ?_, ?_, ?_,
      ⟨restartAnswer s.loader.image f, _, congrArg Line.queue line, hstate, hq, hallow, ?_, fun hid h1 h2 => ?_, fun hid => ?_⟩,
      congrArg PeerTable.entries peers, congrArg PeerTable.flow peers, congrArg PeerTable.debounced peers,
      congrArg PeerTable.flowTimer peers, congrArg PeerTable.ownInput peers, fun c => ?_, by simp [State.ambTemp, amb, untaken],
      wall, amb, fun c => congrArg SensorState.reject (wall c), congrArg SensorState.reject amb, channel, fun c => ?_,
      congrArg Meas.conv meas, congrArg Meas.measure meas, congrArg Meas.refFault meas, congrArg Meas.midpoint meas,
      congrArg Meas.leakCount meas, congrArg Meas.leakPresent meas, congrArg Meas.leakTest meas, ?_,
      congrArg Meas.roundOn meas, congrArg Meas.roundTimer meas, congrArg Meas.remaining meas, burst, budget, fun c => ?_, fault,
      congrArg FaultUnit.tripCause fault, congrArg FaultUnit.placed fault, congrArg FaultUnit.pendingNotice fault,
      congrArg FaultUnit.awaiting fault, congrArg FaultUnit.watch fault, halt⟩
    · simp [line, Line.restart, Line.listen, frameEnded_line hact, Line.dropFrame]
    · simp [line, Line.restart, Line.listen, frameEnded_line hact, Line.dropFrame]
    · simp [line, Line.restart, Line.listen, frameEnded_line hact, Line.dropFrame, Line.busy, idle]
      rfl
    · rw [hslot, restarted_blocks]
      rfl
    · rw [answer, if_pos ⟨hid, h1, h2⟩]
    · rw [answer, if_neg (fun h => hid h.1)]
    · simp [State.ownTemp, wall, untaken]
    · rw [channel]
      exact ⟨⟨rfl, rfl, rfl⟩, rfl, rfl, rfl, rfl, rfl, rfl, rfl, rfl, rfl, rfl, rfl⟩
    · simp only [State.leakDrivePin, meas]
      rfl
    · rw [chans, Four.get_map]
      rfl
  · have mute : (listening (restarted f s)).station.mute = false := by
      rw [restarted_blocks]
      simp [listening, startTimers, restartBlocks, setContactor]
    have line : (listening (restarted f s)).line =
        { s.line.restart with queue := head :: restartAnswer s.loader.image f } := by
      rw [listening_line, restarted_line]
      simp [Line.listen, Line.restart, hq, Line.busy, ht]
    have busy : (listening (restarted f s)).line.busy = true := by simp [line, Line.restart, Line.busy, ht]
    have queue : (listening (restarted f s)).line.queue = head :: restartAnswer s.loader.image f := congrArg Line.queue line
    have content := (listening_content (restarted f s)).1
    have station := takeRestart_state f s
    have cmd : (takeRestart f s).cmd = .empty := congrArg State.cmd (takeRestart_blocks f s)
    have length := restartAnswer_length s.loader.image f
    simp only [← restartAnswer_eq]
    cases hr : head.isReport with
    | false =>
      have sent : (takeRestart f s).line = _ :=
        reportInstant_appends (s := listening (restarted f s)) mute (by simp [queue, hr, restartAnswer_noReport]) (by rw [queue, List.length_cons]; omega)
      rw [sent, line]
      exact ⟨rfl, rfl, by simp [Line.restart, Line.busy, ht], rfl, station, cmd, fun _ => ⟨rfl, _, rfl, content⟩, fun h => (by cases h)⟩
    | true =>
      have held : (takeRestart f s).line = _ := reportInstant_holds (s := listening (restarted f s)) mute busy queue hr
      rw [held, line]
      exact ⟨rfl, rfl, by simp [Line.restart, Line.busy, ht], rfl, station, cmd, fun h => (by cases h), fun _ => ⟨rfl, _, rfl, content⟩⟩

/-! ## The own id heard (R13, R84) -/

/-- A frame of the own id, whichever of the two kinds it has (R70, R84). -/
theorem peerReport_own {f : RxFrame} {s : State} (h : f.c1.toNat = s.loader.image.id) : peerReport f s = duplicateId s := if_pos h

theorem peerNotice_own {f : RxFrame} {s : State} (h : f.c1.toNat = s.loader.image.id) : peerNotice f s = duplicateId s := if_pos h

/-- The mute flag set with no frame waiting: nothing but the silence it brings (R14). -/
theorem setMute_unwaiting {s : State} (hm : s.station.mute = false) (hs : s.line.slot = none) : setMute s = muted s := by
  have slot : (muted s).line.slot = none := by
    simp only [muted, Line.silence]
    split <;> exact hs
  simp [setMute_eq, hm, takeSlot, slot]

/-- A duplicate-id detection of a station that still speaks: it is mute, and the occurrence is written with no notice (R84, R189). -/
theorem duplicateId_eq {s : State} (hm : s.station.mute = false) (hs : s.line.slot = none) (hc : s.hasCond .duplicateId none = false) :
    duplicateId s = writeQueue ⟨.duplicateId, none, none⟩ .note false ((muted s).addCond ⟨.duplicateId, none, .note⟩) := by
  have fresh : (muted s).hasCond .duplicateId none = false := hc
  have note : duplicateId s = occurNote ⟨.duplicateId, none, none⟩ (muted s) := by rw [duplicateId, setMute_unwaiting hm hs]; rfl
  rw [note, occurNote, if_neg (by simp [fresh])]
  exact recordOccurrence_mute _ _ _ _ _ rfl

/-- The line controller of a station that falls mute with nothing in transmission (R14). -/
theorem silence_idle {l : Line} (h : l.tx = .idle) :
    l.silence = { l with tx := .idle, txChars := [], discardOnLoss := false, queue := [], hold := none } := by
  simp [Line.silence, Line.busy, h]

theorem silenced_eq (c : CmdState) : c.silenced = if c.occupied = true then .empty else c := by cases c <;> rfl

/-- Settles O37. -/
theorem ownIdHeardMutesTheStation : Obligations.OwnIdHeardMutesTheStation := by
  unfold Obligations.OwnIdHeardMutesTheStation
  intro dt wave f s hid hm hc harr
  have hact : s.active = true := by rcases harr with h | h <;> exact active_of_arrives h
  obtain ⟨idle, slot⟩ : s.line.tx = .idle ∧ s.line.slot = none := by
    rcases harr with h | h <;> exact ⟨(dispatched_of_arrives h (by simp)).1, (dispatched_of_arrives h (by simp)).2.1⟩
  have line := frameEnded_line (dt := dt) (wave := wave) hact
  have heard := duplicateId_eq (s := frameEnded dt wave s) hm (by simp [line, Line.dropFrame, slot]) hc
  refine ⟨duplicateId (frameEnded dt wave s), fun h => ?_, fun h => ?_, ?_⟩
  · show Host.Outcome.next (frameEvent dt wave .report peerReport s) = _
    rw [frameEvent_of_arrives h, peerReport_own (s := frameEnded dt wave s) hid]
  · show Host.Outcome.next (frameEvent dt wave .notice peerNotice s) = _
    rw [frameEvent_of_arrives h, peerNotice_own (s := frameEnded dt wave s) hid]
  · rw [heard]
    exact ⟨rfl, rfl, silence_idle (by simp [line, Line.dropFrame, idle]), silenced_eq _, rfl, rfl, rfl, rfl, rfl, rfl, rfl⟩

end Sys2Proof.Machine
end

section
/-! The peer table: what a REPORT writes (O34), and how entries age and the flow input is debounced (O38). -/

namespace Sys2Proof.Machine

/-! ## The entry of a station -/

/-- No two entries bear one id (R69). -/
theorem peer_eq_of_id {l : List Peer} (hl : l.Pairwise fun a b => a.id ≠ b.id) {p q : Peer} (hp : p ∈ l) (hq : q ∈ l)
    (h : q.id = p.id) : q = p := by
  by_contra hne
  have : Std.Symm fun a b : Peer => a.id ≠ b.id := ⟨fun _ _ h => h.symm⟩
  exact hl.forall hq hp hne h

theorem findPeer_some {id : Nat} {l : List Peer} {p : Peer} (h : findPeer id l = some p) : p ∈ l ∧ p.id = id :=
  ⟨List.mem_of_find?_eq_some h, by simpa using List.find?_some h⟩

theorem findPeer_none {id : Nat} {l : List Peer} (h : findPeer id l = none) : ∀ p ∈ l, p.id ≠ id := by
  simpa [findPeer] using h

theorem findPeer_of_mem {l : List Peer} (hl : l.Pairwise fun a b => a.id ≠ b.id) {p : Peer} (hp : p ∈ l) :
    findPeer p.id l = some p := by
  cases h : findPeer p.id l with
  | none => exact absurd rfl (findPeer_none h p hp)
  | some q =>
    obtain ⟨hq, hid⟩ := findPeer_some h
    rw [peer_eq_of_id hl hp hq hid]

/-- A change in place changes the one entry. -/
theorem modPeer_eq {l : List Peer} (hl : l.Pairwise fun a b => a.id ≠ b.id) {p : Peer} (hp : p ∈ l) (f : Peer → Peer) :
    modPeer p.id f l = l.map fun q => if q = p then f p else q := by
  refine List.map_congr_left fun q hq => ?_
  by_cases h : q = p
  · simp [h]
  · rw [if_neg h, if_neg fun e => h (peer_eq_of_id hl hp hq e)]

/-- A removal takes out the one entry. -/
theorem removePeer_eq {l : List Peer} (hl : l.Pairwise fun a b => a.id ≠ b.id) {p : Peer} (hp : p ∈ l) :
    removePeer p.id l = l.filter fun q => decide (q ≠ p) := by
  refine List.filter_congr fun q hq => ?_
  have : q.id = p.id ↔ q = p := ⟨peer_eq_of_id hl hp hq, fun h => h ▸ rfl⟩
  simp [this]

theorem length_removePeer {l : List Peer} (hl : l.Pairwise fun a b => a.id ≠ b.id) {p : Peer} (hp : p ∈ l) :
    (removePeer p.id l).length + 1 = l.length := by
  have nodup : l.Nodup := hl.imp fun h e => h (congrArg Peer.id e)
  have erased : l.erase p = removePeer p.id l := by
    rw [removePeer_eq hl hp, nodup.erase_eq_filter]
    exact List.filter_congr fun q _ => by rw [Bool.eq_iff_iff]; simp
  rw [← erased, List.length_erase_of_mem hp]
  have := List.length_pos_of_mem hp
  omega

/-! ## A new table, and the isolation timer (R11, R79) -/

/-- A new table: with the last live entry of the feeder gone from it the isolation timer starts in RUNNING, N_f above 1 (R11, R79). -/
theorem putEntries_eq (l : List Peer) (s : State) : putEntries l s = { s with
    peers := { s.peers with entries := l }
    station := if s.station.state = .running ∧ 1 < s.loader.image.nf ∧ liveSame s.loader.image s.peers.entries = true ∧
        liveSame s.loader.image l = false
      then { s.station with isolationTimer := some (s.now + seconds (10 * s.loader.image.rInt)) } else s.station } := by
  unfold putEntries startIsolation
  cases liveSame s.loader.image s.peers.entries with
  | false => simp
  | true =>
    cases liveSame s.loader.image l with
    | true => simp
    | false => by_cases hr : s.station.state = .running ∧ 1 < s.loader.image.nf <;> simp [hr]

/-- A new table changes of the station at most the isolation timer. -/
theorem putEntries_station (l : List Peer) (s : State) :
    ∃ timer, (putEntries l s).station = { s.station with isolationTimer := timer } := by
  rw [putEntries_eq]
  dsimp only
  split <;> exact ⟨_, rfl⟩

/-! ## Ages and the flow input (R76, R77, R80) -/

/-- Settles O38. -/
theorem entriesAgeAndFlowIsDebounced : Obligations.EntriesAgeAndFlowIsDebounced := by
  unfold Obligations.EntriesAgeAndFlowIsDebounced
  refine ⟨fun p s ho hp => ?_, fun dt low s hl => ?_, fun e s he => ?_⟩
  · have found := findPeer_of_mem ho.ids hp
    refine ⟨fun ha => ?_, fun ha => ?_, ?_⟩
    · show Host.Outcome.next (staleEnds p.id s) = _
      simp only [staleEnds, found, ha, if_true, putEntries_eq, modPeer_eq ho.ids hp]
      rfl
    · show Host.Outcome.next (lostEnds p.id s) = _
      simp only [lostEnds, found, ha, if_true, putEntries_eq, modPeer_eq ho.ids hp]
      rfl
    · show Host.Outcome.next (removalEnds p.id s) = _
      simp only [removalEnds, found, putEntries_eq, removePeer_eq ho.ids hp]
      rfl
  · have change : exec (.flowInputChange dt low) s =
        .next (restartDebounce { s.advance dt with pins := { s.pins with fs := low } }) := by
      show Host.Outcome.next (flowInput low (s.advance dt)) = _
      rw [flowInput, if_neg (show ¬(s.advance dt).pins.fs = low from hl)]
      rfl
    refine ⟨fun ha hf => ?_, fun hf => ?_⟩
    · exact change.trans (congrArg Host.Outcome.next (if_pos (Bool.and_eq_true_iff.mpr ⟨ha, hf⟩)))
    · exact change.trans (congrArg Host.Outcome.next (if_neg (by simp [hf])))
  · show Host.Outcome.next (flowSettles s) = _
    simp only [flowSettles, he]
    rfl

/-! ## What a REPORT writes (R71, R72, R74, R82) -/

theorem phaseDiff_eq (peer own : Nat) : phaseDiff peer own = (((peer : Int) - own) % 64).toNat := by
  unfold phaseDiff
  omega

/-- The entry a REPORT writes where the difference recorded before was `d` (R72, R74, R82). -/
def writtenPeer (img : Image) (now : Nat) (stamp : Option Nat) (id : Nat) (r : ReportFields) (d : Option Nat) : Peer :=
  recordPhase img stamp r.phase { newPeer id now r with delta := d }

theorem writtenPeer_eq (img : Image) (now : Nat) (stamp : Option Nat) (id : Nat) (r : ReportFields) (d : Option Nat) :
    writtenPeer img now stamp id r d = { newPeer id now r with
      delta := if r.feeder = img.feeder then (stamp.map fun own => (((r.phase : Int) - own) % 64).toNat).or d else d } := by
  cases stamp with
  | none => simp [writtenPeer, recordPhase]
  | some own =>
    by_cases h : r.feeder = img.feeder <;> simp [writtenPeer, recordPhase, onFeeder, newPeer, h, phaseDiff_eq]

/-- The three ways into the table of a REPORT that finds an entry or room: in place, to a new place, and as a newcomer. -/
structure Tabled (img : Image) (now : Nat) (stamp : Option Nat) (id : Nat) (r : ReportFields) (old new : List Peer) : Prop where
  inPlace : ∀ p, findPeer id old = some p → p.feeder = r.feeder → p.position = r.position →
    new = old.map fun q => if q.id = id then writtenPeer img now stamp id r p.delta else q
  moved : ∀ p, findPeer id old = some p → (p.feeder ≠ r.feeder ∨ p.position ≠ r.position) →
    new.length = old.length ∧ ∀ q, q ∈ new ↔ q = writtenPeer img now stamp id r none ∨ (q ∈ old ∧ q.id ≠ id)
  newcomer : findPeer id old = none →
    new.length = old.length + 1 ∧ ∀ q, q ∈ new ↔ q = writtenPeer img now stamp id r none ∨ q ∈ old

theorem takeReport_tabled (img : Image) (now : Nat) (stamp : Option Nat) {id : Nat} (r : ReportFields) {old : List Peer}
    (ids : old.Pairwise fun a b => a.id ≠ b.id) (room : findPeer id old = none → old.length < 16) :
    ∃ new, takeReport img now stamp id r old = some new ∧ Tabled img now stamp id r old new := by
  unfold takeReport
  dsimp only
  cases hf : findPeer id old with
  | none =>
    refine ⟨_, if_pos (room hf), fun p h => ?_, fun p h => ?_, fun _ => ⟨length_insertPeer _ _, fun q => mem_insertPeer _ _ _⟩⟩
    · rw [hf] at h; cases h
    · rw [hf] at h; cases h
  | some p =>
    obtain ⟨hp, rfl⟩ := findPeer_some hf
    dsimp only
    by_cases hs : p.feeder = r.feeder ∧ p.position = r.position
    · refine ⟨_, if_pos hs, fun p' h _ _ => ?_, fun p' h hm => ?_, fun h => ?_⟩
      · obtain rfl := Option.some.inj (hf.symm.trans h)
        refine List.map_congr_left fun q hq => ?_
        split
        · rename_i e
          rw [peer_eq_of_id ids hp hq e]
          rfl
        · rfl
      · obtain rfl := Option.some.inj (hf.symm.trans h)
        omega
      · rw [hf] at h; cases h
    · refine ⟨_, if_neg hs, fun p' h hfe hpo => ?_, fun p' h _ => ?_, fun h => ?_⟩
      · obtain rfl := Option.some.inj (hf.symm.trans h)
        exact absurd ⟨hfe, hpo⟩ hs
      · rw [length_insertPeer, length_removePeer ids hp]
        exact ⟨rfl, fun q => by rw [mem_insertPeer, mem_removePeer]; rfl⟩
      · rw [hf] at h; cases h

/-! ## What a REPORT tells the station (R11, R12, R74) -/

/-- A same-feeder admission: the station had no entry on the own feeder (R72, R74). -/
theorem admits_iff (img : Image) (id : Nat) (old : List Peer) :
    admits img id old = true ↔ ∀ p, findPeer id old = some p → p.feeder ≠ img.feeder := by
  unfold admits
  split
  · rename_i p h
    simp [h, onFeeder]
  · rename_i h
    simp [h]

theorem heardFeeder_isolated {s : State} (h : s.station.state = .isolated) :
    (heardFeeder s).station = { s.station with state := .running, isolationTimer := none } ∧
    (heardFeeder s).line.reportTimer = some (s.now + seconds s.loader.image.rInt) := by
  have ended : heardFeeder s = reportInstant { stopIsolation s with station := { (stopIsolation s).station with state := .running } } := by
    simp only [heardFeeder, h, if_true]
  rw [ended, reportInstant_timer]
  exact ⟨by simp [stopIsolation], rfl⟩

theorem heardFeeder_serving {s : State} (h : s.station.state ≠ .isolated) : heardFeeder s = stopIsolation s := if_neg h

/-- The conditions after a REPORT: a same-feeder admission ends FEEDER_CROWDED (R74). -/
theorem reportTaken_conds (id : Nat) (r : ReportFields) (l : List Peer) (s : State) :
    (∀ x, x ∈ (reportTaken id r l s).fault.conds ↔ x ∈ s.fault.conds ∧ ¬((r.feeder = s.loader.image.feeder ∧
      admits s.loader.image id s.peers.entries = true) ∧ x.kind = .feederCrowded ∧ x.chan = none)) ∧
    { (reportTaken id r l s).fault with conds := s.fault.conds } = s.fault := by
  unfold reportTaken
  by_cases hf : r.feeder = s.loader.image.feeder
  · cases admits s.loader.image id s.peers.entries with
    | false => simp [hf]
    | true => simp [hf, State.clearCond, State.keepConds, imp_iff_not_or]
  · simp [hf]

/-- The blocks that a table taken from a REPORT leaves as they were (R71, R79). -/
theorem reportTaken_rest (id : Nat) (r : ReportFields) (l : List Peer) (s : State) :
    (reportTaken id r l s).peers = { s.peers with entries := l } ∧
    { reportTaken id r l s with peers := s.peers, station := s.station, line := s.line, fault := s.fault } = s := by
  have peers : (reportTaken id r l s).peers = { s.peers with entries := l } := by
    unfold reportTaken
    (repeat' split) <;> simp [putEntries_eq, State.clearCond, State.keepConds]
  refine ⟨peers, ?_⟩
  simp

/-- Station and line after a REPORT of the own feeder: the isolation timer stops, and ISOLATED ends with a report instant (R11, R12). -/
theorem reportTaken_own {r : ReportFields} {s : State} (hf : r.feeder = s.loader.image.feeder) (id : Nat) (l : List Peer) :
    (s.station.state = .isolated →
      (reportTaken id r l s).station = { s.station with state := .running, isolationTimer := none } ∧
      (reportTaken id r l s).line.reportTimer = some (s.now + seconds s.loader.image.rInt)) ∧
    (s.station.state ≠ .isolated →
      (reportTaken id r l s).station = { s.station with isolationTimer := none } ∧ (reportTaken id r l s).line = s.line) := by
  have taken : reportTaken id r l s =
      heardFeeder (putEntries l (if admits s.loader.image id s.peers.entries then s.clearCond .feederCrowded none else s)) := if_pos hf
  obtain ⟨fault, cleared⟩ : ∃ fault, (if admits s.loader.image id s.peers.entries then s.clearCond .feederCrowded none else s) =
      { s with fault := fault } := by
    split <;> exact ⟨_, rfl⟩
  obtain ⟨timer, put⟩ := putEntries_station l { s with fault := fault }
  rw [taken, cleared]
  refine ⟨fun hi => ?_, fun hi => ?_⟩
  · obtain ⟨station, report⟩ := heardFeeder_isolated (s := putEntries l { s with fault := fault }) (by rw [put]; exact hi)
    rw [station, report, put]
    exact ⟨rfl, by simp⟩
  · rw [heardFeeder_serving (by rw [put]; exact hi), stopIsolation, put]
    exact ⟨rfl, by simp⟩

/-- Station and line after a REPORT of another feeder, whose new place may leave the own feeder without a live entry (R11, R79). -/
theorem reportTaken_other {r : ReportFields} {s : State} (hf : r.feeder ≠ s.loader.image.feeder) (id : Nat) (l : List Peer) :
    (reportTaken id r l s).station = (if s.station.state = .running ∧ 1 < s.loader.image.nf ∧
        liveSame s.loader.image s.peers.entries = true ∧ liveSame s.loader.image l = false
      then { s.station with isolationTimer := some (s.now + seconds (10 * s.loader.image.rInt)) } else s.station) ∧
    (reportTaken id r l s).line = s.line := by
  have taken : reportTaken id r l s = putEntries l s := if_neg hf
  rw [taken]
  exact ⟨by rw [putEntries_eq], by simp⟩

/-- Settles O34. -/
theorem reportWritesThePeerEntry : Obligations.ReportWritesThePeerEntry := by
  unfold Obligations.ReportWritesThePeerEntry
  intro dt wave f r s ho h id img now h1 h2 hid hr known written crowdEnds room
  have hact := active_of_arrives h
  obtain ⟨l, taken, table⟩ := takeReport_tabled img now f.stamp r ho.ids room
  have tabled : exec (.report dt wave) s = .next (reportTaken id r l (frameEnded dt wave s)) := by
    have strange : strangeId f.c1.toNat = false := by simp [strangeId]; omega
    have found : takeReport (frameEnded dt wave s).loader.image (frameEnded dt wave s).now f.stamp f.c1.toNat r
      (frameEnded dt wave s).peers.entries = some l := taken
    have own : f.c1.toNat ≠ (frameEnded dt wave s).loader.image.id := hid
    show Host.Outcome.next (frameEvent dt wave .report peerReport s) = _
    simp only [frameEvent_of_arrives h, peerReport, own, strange, hr, found, if_false, Bool.false_eq_true]
    rfl
  obtain ⟨peers, rest⟩ := reportTaken_rest id r l (frameEnded dt wave s)
  obtain ⟨conds, fault⟩ := reportTaken_conds id r l (frameEnded dt wave s)
  have entries := congrArg PeerTable.entries peers
  have whole : ∀ d, written d = writtenPeer img now f.stamp id r d := fun d => (writtenPeer_eq ..).symm
  have crowd : crowdEnds ↔ r.feeder = img.feeder ∧ admits img id s.peers.entries = true := and_congr_right fun _ => (admits_iff ..).symm
  refine ⟨_, tabled, fun p hp hfe hpo => ?_, fun p hp hm => ?_, fun hn => ?_, fun hf => ?_, fun hf => ?_, fun hf => ?_, fun x => ?_,
    fault, by rw [entries]; exact peers, congrArg (fun x : State => { x with line := s.line }) rest⟩
  · rw [entries, whole]
    exact table.inPlace p hp hfe hpo
  · rw [entries, whole]
    exact table.moved p hp hm
  · rw [entries, whole]
    exact table.newcomer hn
  · exact (reportTaken_own (s := frameEnded dt wave s) hf id l).1
  · exact (reportTaken_own (s := frameEnded dt wave s) hf id l).2
  · rw [entries]
    exact reportTaken_other (s := frameEnded dt wave s) hf id l
  · rw [crowd]
    exact conds x

end Sys2Proof.Machine
end

section
/-! The bounds of the two queues (O20), the outgoing queue of R33 and the fault queue of R190 and R191, in one relation (`Bounds`)
that composes; what the outgoing queue's operations, the halt unit and the fault unit carry over of them. -/

namespace Sys2Proof.Machine

/-! ## The outgoing queue alone (R33) -/

theorem QueueBounded.of_sublist {l l' : Line} (b : QueueBounded l) (h : l'.queue.Sublist l.queue)
    (hs : l'.tx ≠ .idle → l'.queue ≠ []) : QueueBounded l' :=
  ⟨h.length_le.trans b.size, ((h.filter _).length_le).trans b.reports, ((h.filter _).length_le).trans b.notices, hs⟩

/-- Frames replaced in place by frames of their own kind. -/
theorem QueueBounded.of_map {l l' : Line} (b : QueueBounded l) (g : OutFrame → OutFrame) (hr : ∀ f, (g f).isReport = f.isReport)
    (hn : ∀ f, (g f).isNotice = f.isNotice) (hq : l'.queue = l.queue.map g) (ht : l'.tx = l.tx) : QueueBounded l' where
  size := by simpa [hq] using b.size
  reports := by simpa [hq, List.filter_map, Function.comp_def, hr] using b.reports
  notices := by simpa [hq, List.filter_map, Function.comp_def, hn] using b.notices
  started h := by simpa [hq] using b.started (ht ▸ h)

/-- A frame appended where there is room and no other frame of its kind, if it is a REPORT or a FAULT_NOTICE. -/
theorem QueueBounded.of_append {l l' : Line} (b : QueueBounded l) {f : OutFrame} (hq : l'.queue = l.queue ++ [f])
    (room : l.queue.length < 4) (hr : f.isReport = true → l.queue.any OutFrame.isReport = false)
    (hn : f.isNotice = true → l.queue.any OutFrame.isNotice = false) : QueueBounded l' where
  size := by simp [hq]; omega
  reports := by
    cases h : f.isReport
    · simpa [hq, List.filter_append, h] using b.reports
    · have none : l.queue.filter OutFrame.isReport = [] := by simpa using hr h
      simp [hq, List.filter_append, h, none]
  notices := by
    cases h : f.isNotice
    · simpa [hq, List.filter_append, h] using b.notices
    · have none : l.queue.filter OutFrame.isNotice = [] := by simpa using hn h
      simp [hq, List.filter_append, h, none]
  started _ := by simp [hq]

theorem replaceReport_bounded {l l' : Line} (b : QueueBounded l) (c : ReportContent) (hq : l'.queue = replaceReport c l.queue)
    (ht : l'.tx = l.tx) : QueueBounded l' := by
  refine b.of_map _ (fun f => ?_) (fun f => ?_) hq ht <;> cases f <;> rfl

theorem replaceNotice_bounded {l l' : Line} (b : QueueBounded l) (c : NoticeContent) (hq : l'.queue = replaceNotice c l.queue)
    (ht : l'.tx = l.tx) : QueueBounded l' := by
  refine b.of_map _ (fun f => ?_) (fun f => ?_) hq ht <;> cases f <;> rfl

/-- The first case of R34 that applies. -/
theorem offerReport_bounded {l : Line} (b : QueueBounded l) (c : ReportContent) : QueueBounded (l.offerReport c) := by
  unfold Line.offerReport
  split
  · split
    · exact ⟨b.size, b.reports, b.notices, b.started⟩
    · exact replaceReport_bounded b c rfl rfl
  · rename_i none
    split
    · exact b.of_append rfl ‹_› (fun _ => by simpa using none) nofun
    · exact b

/-- Where a REPORT is dropped to make room there is room (R35). -/
theorem dropReport_length {q : List OutFrame} (h : q.any OutFrame.isReport = true) : (dropReport q).length < q.length := by
  obtain ⟨f, hf, hr⟩ := List.any_eq_true.mp h
  refine List.length_filter_lt_length_iff_exists.mpr ⟨f, hf, by simp [hr]⟩

/-! ## The fault queue alone (R190 to R192) -/

theorem FaultQueueBounded.of_sublist {q q' : List FaultRecord} (b : FaultQueueBounded q) (h : q'.Sublist q) : FaultQueueBounded q' :=
  ⟨h.length_le.trans b.size, b.distinct.sublist h, fun r hr => b.counts r (h.subset hr)⟩

/-- A record appended where there is room and none of its kind and channel. -/
theorem FaultQueueBounded.append {q : List FaultRecord} (b : FaultQueueBounded q) {r : FaultRecord} (room : q.length < 8)
    (new : ∀ x ∈ q, ¬(x.kind = r.kind ∧ x.chan = r.chan)) (count : r.count = 1) : FaultQueueBounded (q ++ [r]) where
  size := by simp; omega
  distinct := by
    refine List.pairwise_append.mpr ⟨b.distinct, List.pairwise_singleton _ _, fun x hx y hy => ?_⟩
    rw [List.mem_singleton.mp hy]
    exact new x hx
  counts x hx := by
    rcases List.mem_append.mp hx with h | h
    · exact b.counts x h
    · simp [List.mem_singleton.mp h, count]

/-- The candidate for displacement is a record of the queue. -/
theorem displaceCandidate_mem {q : List FaultRecord} {x : FaultRecord} (h : displaceCandidate q = some x) : x ∈ q := by
  induction q generalizing x with
  | nil => cases h
  | cons r rs ih =>
    unfold displaceCandidate at h
    split at h
    · cases h; exact List.mem_cons_self ..
    · rename_i y hy
      split at h <;> cases h
      · exact List.mem_cons_of_mem _ (ih hy)
      · exact List.mem_cons_self ..

theorem queueAfter_bounded {q : List FaultRecord} (b : FaultQueueBounded q) (now : Nat) (d : Detection) (cls : FaultClass)
    (trial : Bool) : FaultQueueBounded (queueAfter q now d cls trial) := by
  unfold queueAfter
  dsimp only
  split
  · refine ⟨by simpa using b.size, ?_, fun r hr => ?_⟩
    · refine List.pairwise_map.mpr (b.distinct.imp fun {x y} h => ?_)
      split <;> split <;> simpa [FaultRecord.again] using h
    · obtain ⟨x, hx, rfl⟩ := List.mem_map.mp hr
      have := b.counts x hx
      split
      · simp only [FaultRecord.again]; omega
      · exact this
  · rename_i new
    have new : ∀ x ∈ q, ¬(x.kind = d.kind ∧ x.chan = d.chan) := by simpa [FaultRecord.isOf] using new
    split
    · exact b.append ‹_› new rfl
    · split
      · rename_i x hx
        split
        · have shorter : (q.filter fun y => !y.isOf x.kind x.chan).length < q.length :=
            List.length_filter_lt_length_iff_exists.mpr ⟨x, displaceCandidate_mem hx, by simp [FaultRecord.isOf]⟩
          exact (b.of_sublist List.filter_sublist).append (shorter.trans_le b.size)
            (fun y hy => new y (List.mem_of_mem_filter hy)) rfl
        · exact b
      · exact b

/-! ## The relation -/

/-- Both bounds are carried over, each on its own. -/
structure Bounds (s t : State) : Prop where
  line : QueueBounded s.line → QueueBounded t.line
  faults : FaultQueueBounded s.fault.queue → FaultQueueBounded t.fault.queue

/-- All that the bounds read. -/
def boundView (s : State) : TxState × List OutFrame × List FaultRecord := (s.line.tx, s.line.queue, s.fault.queue)

theorem Bounds.refl (s : State) : Bounds s s := ⟨id, id⟩

theorem Bounds.trans {s t u : State} (h : Bounds s t) (g : Bounds t u) : Bounds s u := ⟨g.line ∘ h.line, g.faults ∘ h.faults⟩

theorem Bounds.of_view {s t : State} (e : boundView t = boundView s) : Bounds s t := by
  simp only [boundView, Prod.mk.injEq] at e
  obtain ⟨ht, hq, hf⟩ := e
  exact ⟨fun b => b.of_sublist (hq ▸ .refl _) (by rw [ht, hq]; exact b.started), fun b => by rwa [hf]⟩

/-- A change of what the bounds do not read, after an operation or before it. -/
theorem Bounds.to_view {s t u : State} (h : Bounds s t) (e : boundView u = boundView t) : Bounds s u := h.trans (.of_view e)

theorem Bounds.from_view {s t u : State} (h : Bounds t u) (e : boundView t = boundView s) : Bounds s u := (Bounds.of_view e).trans h

/-- What changes the line alone. -/
theorem Bounds.of_line {s t : State} (hl : QueueBounded s.line → QueueBounded t.line) (hf : t.fault.queue = s.fault.queue) : Bounds s t :=
  ⟨hl, fun b => by rwa [hf]⟩

/-- What each application carries over, the operation on a list of channels carries over. -/
theorem Bounds.each {f : Chan → State → State} (hf : ∀ c s, Bounds s (f c s)) (cs : List Chan) (s : State) : Bounds s (s.each cs f) :=
  State.each_inv (fun t => Bounds s t) (fun c _ _ k => k.trans (hf c _)) (.refl s)

theorem hear_bounds (s : State) (dt : Nat) (wave : List Bool) : Bounds s (s.hear dt wave) := by
  refine .of_view ?_
  simp only [boundView, State.hear_line, State.hear_fault]
  split <;> simp

/-! ## The outgoing queue -/

theorem reportInstant_bounds (s : State) : Bounds s (reportInstant s) := by
  refine .of_line (fun b => ?_) rfl
  have timed : QueueBounded { s.line with reportTimer := some (s.now + seconds s.loader.image.rInt) } :=
    ⟨b.size, b.reports, b.notices, b.started⟩
  unfold reportInstant
  dsimp only
  split
  · exact ⟨b.size, b.reports, b.notices, b.started⟩
  · exact offerReport_bounded timed _

/-- A notice leaves the fault queue. -/
@[simp] theorem offerNotice_queue (n : NoticeContent) (s : State) : (offerNotice n s).fault.queue = s.fault.queue := by
  unfold offerNotice
  (repeat' split) <;> rfl

theorem offerNotice_bounds (n : NoticeContent) (s : State) : Bounds s (offerNotice n s) := by
  refine .of_line (fun b => ?_) (offerNotice_queue n s)
  unfold offerNotice
  split
  · exact b
  · split
    · split
      · exact b
      · exact replaceNotice_bounded b n rfl rfl
    · rename_i none
      have none : s.line.queue.any OutFrame.isNotice = false := by simpa using none
      split
      · rename_i room
        exact b.of_append rfl (by simpa [Line.hasRoom] using room) nofun fun _ => none
      · split
        · rename_i drops
          have shorter := dropReport_length (Bool.and_eq_true_iff.mp drops).1
          have dropped : QueueBounded { s.line with queue := dropReport s.line.queue, tx := .idle } :=
            b.of_sublist List.filter_sublist (absurd rfl)
          refine dropped.of_append rfl (shorter.trans_le b.size) nofun fun _ => ?_
          simp only [dropReport, List.any_filter]
          simp only [List.any_eq_false] at none ⊢
          intro f hf
          simp [none f hf]
        · exact b

theorem nextNotice_bounds (s : State) : Bounds s (nextNotice s) := by
  unfold nextNotice
  dsimp only
  split
  · exact (offerNotice_bounds _ _).from_view rfl
  · split
    · exact (offerNotice_bounds _ _).from_view rfl
    · exact .of_view rfl

theorem offerPending_bounds (s : State) : Bounds s (offerPending s) := by
  unfold offerPending
  split
  · exact offerNotice_bounds _ s
  · exact .refl s

theorem offerHold_bounds (s : State) : Bounds s (offerHold s) := by
  unfold offerHold
  split
  · refine .of_line (fun b => ?_) rfl
    have emptied : QueueBounded { s.line with hold := none } := ⟨b.size, b.reports, b.notices, b.started⟩
    exact offerReport_bounded emptied _
  · exact .refl s

/-- An ANSWER appended where there is room (R36). -/
theorem appendAnswer_bounded {l : Line} (b : QueueBounded l) (room : l.queue.length < 4) (a : AnswerContent) :
    QueueBounded (l.append (.answer a)) := b.of_append rfl room nofun nofun

theorem offerCompletion_bounds (s : State) : Bounds s (offerCompletion s) := by
  unfold offerCompletion
  (repeat' split)
  · rename_i room
    exact .of_line (fun b => appendAnswer_bounded b (by simpa [Line.hasRoom] using room) _) rfl
  · exact .refl s
  · exact .refl s

theorem placeFreed_bounds (s : State) : Bounds s (placeFreed s) :=
  ((offerPending_bounds s).trans (offerHold_bounds _)).trans (offerCompletion_bounds _)

theorem completeDeferred_bounds (name : Deferred) (st : Status) (result : List Byte) (s : State) :
    Bounds s (completeDeferred name st result s) := by
  rcases completeDeferred_cases name st result s with e | ⟨_, _, _, -, ⟨-, e⟩ | ⟨-, -, room, e⟩ | ⟨-, -, -, e⟩⟩ <;> rw [e]
  · exact .refl s
  · exact .of_view rfl
  · exact .of_line (fun b => appendAnswer_bounded b room _) rfl
  · exact .of_view rfl

theorem reply_bounds {f : RxFrame} {st : Status} {result : List Byte} {act : State → State} (hact : ∀ s, Bounds s (act s)) (s : State) :
    Bounds s (reply f st result act s) :=
  reply_inv (fun t => Bounds s t) (fun room _ => .of_line (fun b => appendAnswer_bounded b room _) rfl) (.of_view rfl)
    (fun t k => k.trans (hact t)) (.refl s)

/-! ## The halt unit and the fault unit -/

theorem abortLeakTest_bounds (s : State) : Bounds s (abortLeakTest s) := by
  unfold abortLeakTest
  split
  · exact .refl s
  · exact (completeDeferred_bounds ..).from_view rfl

theorem enterHalting_bounds (s : State) : Bounds s (enterHalting s) := by
  have blocks : Bounds s (haltingBlocks s) := .of_view (by simp [boundView, haltingBlocks])
  rw [enterHalting_eq]
  exact (blocks.trans (abortLeakTest_bounds _)).trans ((reportInstant_bounds _).from_view rfl)

theorem checkDecision_bounds (s : State) : Bounds s (checkDecision s) := by
  unfold checkDecision
  dsimp only
  refine (reportInstant_bounds _).from_view ?_
  simp only [boundView]
  split <;> rfl

theorem noticeRow_bounds (o : Occ) (s : State) : Bounds s (noticeRow o s) := by
  have raised : ∀ q : NoticeContent, Bounds s { s with line := { s.line with queue := replaceNotice q s.line.queue } } := fun q =>
    .of_line (fun b => replaceNotice_bounded b q rfl rfl) rfl
  unfold noticeRow
  (repeat' split)
  · exact .of_view rfl
  · exact raised _
  · exact .of_view rfl
  · exact .of_view rfl
  · exact .of_view rfl
  · exact .of_view rfl
  · exact .of_view rfl
  · exact raised _
  · exact (offerNotice_bounds _ s).to_view rfl
  · exact .of_view rfl
  · exact offerNotice_bounds _ s

theorem recordOccurrence_bounds (d : Detection) (cls : FaultClass) (trial due : Bool) (s : State) :
    Bounds s (recordOccurrence d cls trial due s) := by
  have written : Bounds s (writeQueue d cls trial s) := ⟨id, fun b => queueAfter_bounded b _ d cls trial⟩
  unfold recordOccurrence settleNotice
  dsimp only
  (repeat' split)
  · exact written
  · exact written.trans ((noticeRow_bounds _ _).from_view rfl)
  · exact written

@[simp] theorem lockChan_queue (k : FaultKind) (c : Chan) (s : State) : (lockChan k c s).fault.queue = s.fault.queue := by
  unfold lockChan
  dsimp only
  split <;> simp [endTripConds]

theorem lockAll_bounds (k : FaultKind) (s : State) : Bounds s (lockAll k s) :=
  .each (fun c t => .of_view (by simp [boundView])) _ s

theorem occurCounted_bounds (d : Detection) (c : Chan) (s : State) : Bounds s (occurCounted d c s) := by
  unfold occurCounted
  dsimp only
  (repeat' split)
  · exact .refl s
  · exact recordOccurrence_bounds ..
  all_goals
    refine (recordOccurrence_bounds ..).from_view ?_
    simp [boundView, tripChan]

theorem occurOvertemp_bounds (d : Detection) (c : Chan) (s : State) : Bounds s (occurOvertemp d c s) := by
  unfold occurOvertemp
  dsimp only
  (repeat' split)
  · exact recordOccurrence_bounds ..
  all_goals
    refine (recordOccurrence_bounds ..).from_view ?_
    simp [boundView, tripChan]

@[simp] theorem startWatch_queue (s : State) : (startWatch s).fault.queue = s.fault.queue := by
  unfold startWatch
  split <;> rfl

theorem occurEarth_bounds (d : Detection) (s : State) : Bounds s (occurEarth d s) := by
  unfold occurEarth
  dsimp only
  split
  · exact (recordOccurrence_bounds ..).from_view (by simp [boundView])
  · have locked : Bounds s (lockAll .earthLeakage (setContactor false (outputsOff s))) :=
      (lockAll_bounds ..).from_view (by simp [boundView])
    exact locked.trans (((recordOccurrence_bounds ..).from_view (by simp [boundView])))

theorem occurTestFail_bounds (d : Detection) (s : State) : Bounds s (occurTestFail d s) := by
  unfold occurTestFail
  split
  · exact recordOccurrence_bounds ..
  · exact (lockAll_bounds .leakTestFail s).trans ((recordOccurrence_bounds ..).from_view (by simp [boundView]))

theorem occurNote_bounds (d : Detection) (s : State) : Bounds s (occurNote d s) := by
  unfold occurNote
  split
  · exact recordOccurrence_bounds ..
  · exact (recordOccurrence_bounds ..).from_view (by simp [boundView])

theorem occurHalt_bounds (d : Detection) (cause : HaltCause) (s : State) : Bounds s (occurHalt d cause s) := by
  unfold occurHalt
  dsimp only
  (repeat' split)
  · exact recordOccurrence_bounds ..
  · exact ((recordOccurrence_bounds ..).from_view (by simp [boundView])).trans (enterHalting_bounds _)
  · exact (recordOccurrence_bounds ..).from_view (by simp [boundView])
  · exact (recordOccurrence_bounds ..).from_view (by simp [boundView])

theorem occur_bounds (d : Detection) (s : State) : Bounds s (occur d s) := by
  obtain ⟨kind, chan, value⟩ := d
  cases kind
  case earthLeakage => exact occurEarth_bounds _ s
  case leakTestFail => exact occurTestFail_bounds _ s
  case switchStuck | outputReadback | leakagePersists | operatorStop => exact occurHalt_bounds _ _ s
  case overcurrent | heaterOpen =>
    cases chan with
    | none => exact .refl s
    | some c => exact occurCounted_bounds _ c s
  case overtemp =>
    cases chan with
    | none => exact .refl s
    | some c => exact occurOvertemp_bounds _ c s
  all_goals exact occurNote_bounds _ s

theorem occurAll_bounds (ds : List Detection) (s : State) : Bounds s (occurAll ds s) :=
  occurAll_inv (fun t => Bounds s t) (fun d t k => k.trans (occur_bounds d t)) ds (.refl s)

end Sys2Proof.Machine
end

section
/-! What the sequencer, the burst timer, the command unit, the receiver and the transmitter carry over of the queues' bounds
(`Bounds`). -/

namespace Sys2Proof.Machine

/-! ## The measurement sequencer -/

@[simp] theorem endTrip_queue (trial : Bool) (c : Chan) (s : State) : (endTrip trial c s).fault.queue = s.fault.queue := by
  simp [endTrip, endTripConds]

@[simp] theorem unlockChan_queue (c : Chan) (s : State) : (unlockChan c s).fault.queue = s.fault.queue := by
  simp [unlockChan, endTripConds]

theorem wallFaults_bounds (c : Chan) (old new : SensorState) (raised : Option SensorCond) (s : State) :
    Bounds s (wallFaults c old new raised s) := by
  unfold wallFaults
  split
  · refine (occur_bounds ..).from_view ?_
    split <;> rfl
  · exact occur_bounds ..
  · split <;> exact .of_view rfl
  · exact .refl s

theorem ambientFaults_bounds (old new : SensorState) (raised : Option SensorCond) (s : State) :
    Bounds s (ambientFaults old new raised s) := by
  unfold ambientFaults
  split
  · exact occur_bounds ..
  · split <;> exact .of_view rfl
  · exact .refl s

theorem takeWall_bounds (c : Chan) (s : State) : Bounds s (takeWall c s) := (wallFaults_bounds ..).from_view rfl

theorem takeAmbient_bounds (raw : Nat) (s : State) : Bounds s (takeAmbient raw s) := (ambientFaults_bounds ..).from_view rfl

theorem goodRound_bounds (raw : Nat) (s : State) : Bounds s (goodRound raw s) :=
  ((Bounds.each takeWall_bounds _ _).trans (takeAmbient_bounds raw _)).from_view rfl

theorem badRound_bounds (s : State) : Bounds s (badRound s) := (occur_bounds ..).from_view rfl

theorem alarmCheck_bounds (c : Chan) (s : State) : Bounds s (alarmCheck c s) := by
  unfold alarmCheck
  dsimp only
  (repeat' split)
  · exact .refl s
  · exact (occur_bounds ..).from_view rfl
  · exact occur_bounds ..
  · exact .refl s
  · exact .of_view rfl
  · exact .refl s

theorem overtempCheck_bounds (c : Chan) (s : State) : Bounds s (overtempCheck c s) := by
  unfold overtempCheck
  dsimp only
  (repeat' split)
  · exact .refl s
  · exact .refl s
  · exact occur_bounds ..
  · exact .of_view (by simp [boundView])
  · exact .of_view rfl
  · exact .refl s

theorem finishMeasure_bounds (s : State) : Bounds s (finishMeasure s) := by
  unfold finishMeasure
  split
  · exact (completeDeferred_bounds ..).from_view rfl
  · exact .refl s

theorem finishRound_bounds (raw : Nat) (s : State) : Bounds s (finishRound raw s) := by
  have round : Bounds s (if spanGood s.meas.rawLo s.meas.rawHi then goodRound raw s else badRound s) := by
    split
    · exact goodRound_bounds raw s
    · exact badRound_bounds s
  exact ((round.trans (.each alarmCheck_bounds _ _)).trans (.each overtempCheck_bounds _ _)).trans (finishMeasure_bounds _)

theorem storeReading_bounds (r : Reading) (raw : Nat) (s : State) : Bounds s (storeReading r raw s) := by
  cases r with
  | refLo | refHi | wall c => exact .of_view (by simp [boundView, storeReading])
  | ambient => exact (finishRound_bounds raw _).from_view (by simp [boundView])

theorem countSample_bounds (c : Chan) (k : CurrentKind) (raw : Nat) (s : State) : Bounds s (countSample c k raw s) := by
  unfold countSample
  dsimp only
  split
  · split
    · exact (occur_bounds ..).from_view rfl
    · exact .of_view rfl
  · exact .of_view rfl
  · split
    · exact (checkDecision_bounds _).from_view rfl
    · exact .of_view rfl

theorem endConversion_bounds (cv : Conversion) (raw : Nat) (s : State) : Bounds s (endConversion cv raw s) := by
  have next : ∀ {t : State}, Bounds s t → Bounds s (startNext t) := fun h => h.to_view (by simp [boundView])
  unfold endConversion
  dsimp only
  (repeat' split)
  · exact next (.of_view rfl)
  · exact (storeReading_bounds ..).from_view rfl
  · exact next ((countSample_bounds ..).from_view rfl)
  · exact next (.of_view rfl)
  · exact next (.of_view rfl)
  · exact .of_view rfl
  · exact .of_view rfl

theorem sampleLeakage_bounds (s : State) : Bounds s (sampleLeakage s) := by
  have completed : ∀ name st result, Bounds s (completeDeferred name st result (endLeakTest s)) := fun name st result =>
    (completeDeferred_bounds name st result _).from_view rfl
  unfold sampleLeakage leakSample passLeakTest
  (repeat' split)
  · exact .refl s
  · exact .of_view rfl
  · exact (occur_bounds ..).from_view rfl
  · exact .refl s
  · exact .of_view rfl
  · exact .refl s
  · exact (completed .leakTest .ok [1#8]).to_view rfl
  · exact .refl s

theorem leakTestEdge_bounds (s : State) : Bounds s (leakTestEdge s) := by
  unfold leakTestEdge failLeakTest
  (repeat' split)
  · exact .refl s
  · exact .of_view rfl
  · exact .of_view rfl
  · exact ((completeDeferred_bounds ..).trans (occur_bounds ..)).from_view rfl

theorem closePeriod_bounds (s : State) : Bounds s (closePeriod s) := (occurAll_bounds ..).from_view rfl

/-! ## The burst timer's events -/

theorem decideWatch_bounds (s : State) : Bounds s (decideWatch s) := by
  unfold decideWatch
  split
  · exact (occur_bounds ..).from_view rfl
  · exact .of_view rfl

theorem startEdge_bounds (e : EdgeIn) (s : State) : Bounds s (startEdge e s) := by
  have counted : Bounds s (countWatch (countConfirm (endHalfCycle (noteEdge e.hr s)))) :=
    .of_view (by simp [boundView, countWatch])
  unfold startEdge watchAtEdge
  split
  · exact counted.trans (decideWatch_bounds _)
  · exact counted

theorem readbackChecks_bounds (s : State) : Bounds s (readbackChecks s) := (occurAll_bounds ..).from_view rfl

theorem beginPeriod_bounds (s : State) : Bounds s (beginPeriod s) := by
  refine .of_view ?_
  unfold beginPeriod
  split <;> simp [boundView, freshPeriod, clearPhases]

theorem endPeriod_bounds (closeFirst : Bool) (s : State) : Bounds s (endPeriod closeFirst s) := by
  have begun : Bounds s (applySlot (alignment s)) := .of_view (by simp [boundView])
  have stepped : ∀ t, Bounds t (closeAndStep closeFirst t) := fun t => by
    unfold closeAndStep
    split
    · exact (closePeriod_bounds _).to_view (by simp [boundView])
    · exact (closePeriod_bounds _).from_view (by simp [boundView])
  exact (begun.trans (stepped _)).to_view rfl

theorem periodWork_bounds (e : EdgeIn) (s : State) : Bounds s (periodWork e s) := by
  unfold periodWork
  split
  · exact (readbackChecks_bounds s).trans (endPeriod_bounds _ _)
  · exact (endPeriod_bounds _ s).trans (readbackChecks_bounds _)

theorem nextHalfCycle_bounds (s : State) : Bounds s (nextHalfCycle s) := by
  unfold nextHalfCycle
  split
  · exact (readbackChecks_bounds s).to_view rfl
  · exact (readbackChecks_bounds s).to_view rfl
  · exact (readbackChecks_bounds s).trans (beginPeriod_bounds _)

theorem takeEdge_bounds (e : EdgeIn) (s : State) : Bounds s (takeEdge e s) := by
  have settled : ∀ t, Bounds t (settleHalfCycle t) := fun t => (leakTestEdge_bounds t).to_view (by simp [boundView, settleHalfCycle])
  unfold takeEdge reportMoved
  (repeat' split)
  · exact (((startEdge_bounds e s).trans (periodWork_bounds e _)).trans (settled _)).trans (reportInstant_bounds _)
  · exact ((startEdge_bounds e s).trans (periodWork_bounds e _)).trans (settled _)
  · exact ((startEdge_bounds e s).trans (nextHalfCycle_bounds _)).trans (settled _)

theorem loseMains_bounds (s : State) : Bounds s (loseMains s) := by
  have test : Bounds s (abortLeakTest (abandonSamples (clearPhases (abandonPeriod (discardChecks (outputsOff s)))))) :=
    (abortLeakTest_bounds _).from_view rfl
  have blocks : Bounds s (lossBlocks s) := test.to_view rfl
  have lost : ∀ t : State, Bounds t (haltAtLoss t) := fun t => by
    unfold haltAtLoss
    split
    · exact .of_view rfl
    · exact .of_view (by simp [boundView])
    · exact .refl t
  have raised : Bounds (lossBlocks s) (occur ⟨.mainsLost, none, none⟩
      { lossBlocks s with burst := { (lossBlocks s).burst with period := .lost } }) := (occur_bounds ..).from_view rfl
  exact (blocks.trans raised).trans (lost _)

/-! ## The entry to LISTENING and the requests -/

theorem enterListening_bounds (s : State) : Bounds s (enterListening s) := by
  rw [enterListening_eq]
  refine (reportInstant_bounds _).from_view ?_
  simp [boundView, listening, startTimers, Line.listen]

theorem loadImage_bounds (bytes : List Byte) (s : State) : Bounds s (loadImage bytes s) := by
  unfold loadImage
  split
  · exact (enterListening_bounds _).from_view rfl
  · exact .of_view rfl

theorem answerOnly_bounds (f : RxFrame) (st : Status) (result : List Byte) (s : State) : Bounds s (answerOnly f st result s) :=
  reply_bounds .refl s

/-- What the commands that are carried out on channels do outside the line and the fault queue. -/
theorem each_bounds {f : Chan → State → State} (hf : ∀ c s, boundView (f c s) = boundView s) (cs : List Chan) (s : State) :
    Bounds s (s.each cs f) := .each (fun c t => .of_view (hf c t)) cs s

theorem takeSetPoint_bounds (f : RxFrame) (s : State) : Bounds s (takeSetPoint f s) := by
  unfold takeSetPoint
  dsimp only
  (repeat' split)
  · exact answerOnly_bounds ..
  · exact answerOnly_bounds ..
  all_goals exact reply_bounds (fun t => each_bounds (f := putSetpoint _) (fun _ _ => rfl) _ t) s

theorem takeHold_bounds (f : RxFrame) (s : State) : Bounds s (takeHold f s) := by
  unfold takeHold
  dsimp only
  (repeat' split)
  · exact answerOnly_bounds ..
  · exact answerOnly_bounds ..
  · exact answerOnly_bounds ..
  all_goals exact reply_bounds (fun t => each_bounds (fun _ _ => by simp [boundView]) _ t) s

theorem takeRelease_bounds (f : RxFrame) (s : State) : Bounds s (takeRelease f s) := by
  unfold takeRelease
  split
  · exact answerOnly_bounds ..
  · exact reply_bounds (fun t => each_bounds (f := startChoice) (fun _ _ => rfl) _ t) s

theorem clearChans_bounds (cs : List Chan) (s : State) : Bounds s (clearChans cs s) := by
  have cleared : Bounds s (s.each cs clearChan) := each_bounds (fun c t => by unfold clearChan; split <;> simp [boundView]) cs s
  unfold clearChans
  dsimp only
  split
  · exact cleared.to_view rfl
  · exact cleared

theorem takeResetTrip_bounds (f : RxFrame) (s : State) : Bounds s (takeResetTrip f s) := by
  unfold takeResetTrip
  split
  · exact answerOnly_bounds ..
  · exact reply_bounds (clearChans_bounds _) s

theorem takeLeakTest_bounds (f : RxFrame) (s : State) : Bounds s (takeLeakTest f s) := by
  unfold takeLeakTest
  split
  · exact answerOnly_bounds ..
  · refine reply_bounds (fun _ => .of_view ?_) s
    rfl

theorem takeMeasure_bounds (f : RxFrame) (s : State) : Bounds s (takeMeasure f s) := by
  refine reply_bounds (fun _ => .of_view ?_) s
  rfl

theorem takeReslot_bounds (f : RxFrame) (s : State) : Bounds s (takeReslot f s) :=
  reply_bounds (fun t => .of_view (by unfold startReslot; dsimp only; split <;> rfl)) s

theorem takeStopStation_bounds (f : RxFrame) (s : State) : Bounds s (takeStopStation f s) := reply_bounds (occur_bounds _) s

/-- A record taken from the head of the fault queue (R193). -/
theorem popFault_bounds (s : State) : Bounds s (popFault s) := ⟨id, fun b => b.of_sublist (List.tail_sublist _)⟩

theorem takeFaultPop_bounds (f : RxFrame) (s : State) : Bounds s (takeFaultPop f s) := by
  unfold takeFaultPop
  split
  · exact answerOnly_bounds ..
  · exact reply_bounds popFault_bounds s

theorem takeReadChannel_bounds (f : RxFrame) (s : State) : Bounds s (takeReadChannel f s) := by
  unfold takeReadChannel
  (repeat' split) <;> exact answerOnly_bounds ..

theorem takeReadHalt_bounds (f : RxFrame) (s : State) : Bounds s (takeReadHalt f s) := by
  unfold takeReadHalt
  split <;> exact answerOnly_bounds ..

theorem takeReadPeer_bounds (f : RxFrame) (s : State) : Bounds s (takeReadPeer f s) := by
  unfold takeReadPeer
  dsimp only
  (repeat' split) <;> exact answerOnly_bounds ..

theorem takeReadFaultHead_bounds (f : RxFrame) (s : State) : Bounds s (takeReadFaultHead f s) := by
  unfold takeReadFaultHead
  split <;> exact answerOnly_bounds ..

/-- A RESTART leaves of the queue the frame in transmission alone, where one is, and appends its answer (R16, R17). -/
theorem restartLine_bounded {l : Line} (b : QueueBounded l) : QueueBounded l.restart ∧ l.restart.queue.length ≤ 1 := by
  cases h : l.busy
  · have idle : l.tx = .idle := by simpa [Line.busy] using h
    exact ⟨b.of_sublist (by simp [Line.restart, h]) (absurd idle), by simp [Line.restart, h]⟩
  · have queue : l.restart.queue = l.queue.take 1 := by simp [Line.restart, h]
    refine ⟨b.of_sublist (queue ▸ List.take_sublist ..) fun ht => ?_, by simp [queue]⟩
    simpa [queue] using b.started ht

theorem takeRestart_bounds (f : RxFrame) (s : State) : Bounds s (takeRestart f s) := by
  rw [takeRestart_eq]
  refine Bounds.trans (.of_line (fun b => ?_) ?_) (enterListening_bounds _)
  · obtain ⟨cut, short⟩ := restartLine_bounded b
    unfold restarted
    split
    · exact appendAnswer_bounded cut (by show s.line.restart.queue.length < 4; omega) _
    · exact cut
  · rw [restarted_blocks]
    rfl

theorem carryOut_bounds (r : Request) (f : RxFrame) (s : State) : Bounds s (carryOut r f s) := by
  cases r
  case setPoint => exact takeSetPoint_bounds f s
  case hold => exact takeHold_bounds f s
  case release => exact takeRelease_bounds f s
  case resetTrip => exact takeResetTrip_bounds f s
  case leakTest => exact takeLeakTest_bounds f s
  case measure => exact takeMeasure_bounds f s
  case reslot => exact takeReslot_bounds f s
  case stopStation => exact takeStopStation_bounds f s
  case restart => exact takeRestart_bounds f s
  case faultPop => exact takeFaultPop_bounds f s
  case readChannel => exact takeReadChannel_bounds f s
  case readStation => exact answerOnly_bounds ..
  case readHalt => exact takeReadHalt_bounds f s
  case readPeer => exact takeReadPeer_bounds f s
  case readFaultHead => exact takeReadFaultHead_bounds f s
  case readIdent => exact answerOnly_bounds ..

theorem takeRequest_bounds (f : RxFrame) (s : State) : Bounds s (takeRequest f s) := by
  unfold takeRequest
  (repeat' split)
  · exact .refl s
  · exact answerOnly_bounds ..
  · exact answerOnly_bounds ..
  · exact answerOnly_bounds ..
  · exact answerOnly_bounds ..
  · exact carryOut_bounds ..

theorem dispatchRequest_bounds (f : RxFrame) (s : State) : Bounds s (dispatchRequest f s) := by
  unfold dispatchRequest
  split
  · exact .of_view rfl
  · exact takeRequest_bounds f s

theorem takeSlot_bounds (s : State) : Bounds s (takeSlot s) := by
  unfold takeSlot
  (repeat' split)
  · exact .refl s
  · exact (takeRequest_bounds ..).from_view rfl
  · exact .refl s

/-! ## Receiving -/

theorem frameEvent_bounds {act : RxFrame → State → State} (hact : ∀ f s, Bounds s (act f s)) (dt : Nat) (wave : List Bool)
    (want : FrameEnd) (s : State) : Bounds s (frameEvent dt wave want act s) := by
  rcases frameEvent_cases dt wave want act s with e | ⟨f, crc, -, -, e⟩ <;> rw [e]
  · exact hear_bounds s dt wave
  · exact (hear_bounds s dt wave).trans ((hact f _).from_view rfl)

theorem requestEvent_bounds (dt : Nat) (wave : List Bool) (want : FrameEnd) (s : State) : Bounds s (requestEvent dt wave want s) :=
  frameEvent_bounds dispatchRequest_bounds dt wave want s

/-- The mute flag empties the queue with the transmitter IDLE (R14). -/
theorem duplicateId_bounds (s : State) : Bounds s (duplicateId s) := by
  have silenced : Bounds s (muted s) := .of_line (fun b => b.of_sublist (List.nil_sublist _) (absurd rfl)) rfl
  refine Bounds.trans ?_ (occur_bounds _ _)
  rw [setMute_eq]
  (repeat' split)
  · exact .refl s
  · exact silenced.trans (takeSlot_bounds _)
  · exact silenced

theorem putEntries_bounds (l : List Peer) (s : State) : Bounds s (putEntries l s) := .of_view (by simp [boundView])

theorem heardFeeder_bounds (s : State) : Bounds s (heardFeeder s) := by
  unfold heardFeeder
  dsimp only
  split
  · exact (reportInstant_bounds _).from_view rfl
  · exact .of_view rfl

theorem peerReport_bounds (f : RxFrame) (s : State) : Bounds s (peerReport f s) := by
  unfold peerReport reportTaken
  dsimp only
  (repeat' split)
  · exact duplicateId_bounds s
  · exact .refl s
  · exact .refl s
  · exact (heardFeeder_bounds _).from_view (by simp [boundView])
  · exact (heardFeeder_bounds _).from_view (by simp [boundView])
  · exact putEntries_bounds _ s
  · exact occur_bounds _ s
  · exact .refl s

theorem peerNotice_bounds (f : RxFrame) (s : State) : Bounds s (peerNotice f s) := by
  unfold peerNotice
  dsimp only
  (repeat' split)
  · exact duplicateId_bounds s
  · exact .refl s
  · exact .of_view (by simp [boundView])
  · exact .refl s

/-! ## Transmitting -/

/-- The frame that starts is the head of a queue that holds it (R29, R33). -/
theorem transmitHead_bounds (s : State) : Bounds s (transmitHead s) := by
  unfold transmitHead
  (repeat' split)
  · rename_i head rest hq _
    have queue : (startHead head s).line.queue = s.line.queue := by
      obtain ⟨asm, left, e⟩ := s.line.sample_eq true
      simp only [startHead, Line.beginFrame, Line.hearOwnStart, e]
      (repeat' split) <;> rfl
    exact .of_line (fun b => b.of_sublist (queue ▸ .refl _) fun _ => by simp [queue, hq]) rfl
  · exact .refl s
  · exact .refl s

theorem requeueNotice_bounds (n : NoticeContent) (s : State) : Bounds s (requeueNotice n s) := by
  have offered : ∀ p, Bounds s (offerNotice p { s with fault := { s.fault with placed := s.fault.placed.map fun _ => .queued } }) :=
    fun p => (offerNotice_bounds p _).from_view rfl
  unfold requeueNotice
  dsimp only
  split
  · exact (offered _).to_view rfl
  · exact .of_view rfl

theorem unstartHead_bounds (s : State) : Bounds s (unstartHead s) := by
  unfold unstartHead Line.rehold
  (repeat' split)
  · exact .of_line (fun b => replaceReport_bounded b _ rfl rfl) rfl
  · exact .refl s
  · exact requeueNotice_bounds _ s
  · exact .refl s

/-- A frame lost: the transmitter is IDLE, and the head stays or leaves (R30, R31). -/
theorem loseFrame_bounds (s : State) : Bounds s (loseFrame s) := by
  have stopped : Bounds s { s with line := s.line.stopDriving } := .of_line (fun b => b.of_sublist (.refl _) (absurd rfl)) rfl
  unfold loseFrame
  dsimp only
  split
  · refine stopped.trans (Bounds.trans (.of_line (fun b => ?_) ?_) (placeFreed_bounds _))
    · exact b.of_sublist (List.tail_sublist _) (absurd rfl)
    · rfl
  · exact stopped.trans (unstartHead_bounds _)

theorem completeHead_bounds (residual : Nat) (s : State) : Bounds s (completeHead residual s) := by
  have kind : ∀ (head : OutFrame) (t : State), Bounds t (completedKind head t) := fun head t => by
    unfold completedKind
    (repeat' split)
    · exact .of_view rfl
    · exact nextNotice_bounds t
    · exact .refl t
    · exact .refl t
  have popped : Bounds s (({ s with line := s.line.popHead } : State).showResidual residual) :=
    .of_line (fun b => b.of_sublist (List.tail_sublist _) (absurd rfl)) rfl
  unfold completeHead
  dsimp only
  (repeat' split)
  · exact ((popped.trans (kind _ _)).trans (placeFreed_bounds _)).trans (takeSlot_bounds _)
  · exact (popped.trans (kind _ _)).trans (placeFreed_bounds _)
  · exact .refl s

end Sys2Proof.Machine
end

section
/-! Every effect carries the queues' bounds over (O20). -/

namespace Sys2Proof.Machine

/-! ## The events -/

theorem readTimeout_bounds (s : State) : Bounds s (readTimeout s) := by
  unfold readTimeout
  (repeat' split) <;> exact .of_view rfl

theorem listenEnds_bounds (s : State) : Bounds s (listenEnds s) := by
  unfold listenEnds
  (repeat' split)
  · rw [enterRunning_eq]
    exact (reportInstant_bounds _).from_view (by simp [boundView, running, entering])
  · exact .refl s
  · exact .refl s

theorem isolationEnds_bounds (s : State) : Bounds s (isolationEnds s) := by
  unfold isolationEnds
  (repeat' split)
  · exact (reportInstant_bounds _).from_view rfl
  · exact .refl s
  · exact .refl s

/-- A receiver's work on the line, of which the outgoing queue sees nothing. -/
theorem receiver_bounds {s : State} {l : Line} (ht : l.tx = s.line.tx) (hq : l.queue = s.line.queue) : Bounds s { s with line := l } :=
  .of_view (by simp [boundView, ht, hq])

theorem lineIdle_bounds (s : State) : Bounds s (lineIdle s) := by
  obtain ⟨ht, hq, -⟩ := s.line.becomeIdle_sends
  unfold lineIdle
  split
  · exact receiver_bounds ht hq
  · exact .refl s

theorem frameStart_bounds (s : State) : Bounds s (frameStart s) := by
  unfold frameStart
  split <;> exact .of_view rfl

theorem checkC0_bounds (s : State) : Bounds s (checkC0 s) := by
  unfold checkC0
  (repeat' split) <;> exact .of_view rfl

theorem prefilter_bounds (s : State) : Bounds s (prefilter s) := by
  unfold prefilter Line.filtered
  (repeat' split) <;> exact .of_view rfl

theorem framingError_bounds (s : State) : Bounds s (framingError s) := by
  unfold framingError
  split <;> exact .of_view rfl

theorem skippedEnd_bounds (s : State) : Bounds s (skippedEnd s) := by
  unfold skippedEnd
  split <;> exact .of_view rfl

theorem loseArbitration_bounds (bit : Nat) (s : State) : Bounds s (loseArbitration bit s) := by
  unfold loseArbitration
  split
  · exact loseFrame_bounds s
  · exact .refl s

theorem takeBitError_bounds (bit : Nat) (dominant : Bool) (s : State) : Bounds s (takeBitError bit dominant s) := by
  unfold takeBitError
  split
  · exact (loseFrame_bounds _).from_view rfl
  · exact .refl s

theorem transmitEnds_bounds (residual : Nat) (s : State) : Bounds s (transmitEnds residual s) := by
  unfold transmitEnds
  split
  · exact completeHead_bounds residual s
  · exact .refl s

theorem reportDue_bounds (s : State) : Bounds s (reportDue s) := by
  unfold reportDue
  split
  · exact (reportInstant_bounds _).from_view rfl
  · exact .refl s

theorem staleEnds_bounds (id : Nat) (s : State) : Bounds s (staleEnds id s) := by
  unfold staleEnds
  (repeat' split) <;> exact .of_view (by simp [boundView])

theorem lostEnds_bounds (id : Nat) (s : State) : Bounds s (lostEnds id s) := by
  unfold lostEnds
  (repeat' split) <;> exact .of_view (by simp [boundView])

theorem removalEnds_bounds (id : Nat) (s : State) : Bounds s (removalEnds id s) := by
  unfold removalEnds
  split <;> exact .of_view (by simp [boundView])

theorem flowInput_bounds (low : Bool) (s : State) : Bounds s (flowInput low s) := by
  unfold flowInput restartDebounce
  (repeat' split) <;> exact .of_view rfl

theorem flowSettles_bounds (s : State) : Bounds s (flowSettles s) := by
  unfold flowSettles
  split <;> exact .of_view rfl

theorem roundTick_bounds (s : State) : Bounds s (roundTick s) := by
  unfold roundTick
  split <;> exact .of_view (by simp [boundView])

theorem conversionEnds_bounds (raw : Word16) (s : State) : Bounds s (conversionEnds raw s) := by
  unfold conversionEnds
  split
  · exact (endConversion_bounds ..).from_view rfl
  · exact .refl s

theorem roundEnds_bounds (raw : Word16) (s : State) : Bounds s (roundEnds raw s) := by
  unfold roundEnds
  (repeat' split)
  · exact (endConversion_bounds ..).from_view rfl
  · exact .refl s
  · exact .refl s

theorem ageExpires_bounds (sensor : Sensor) (s : State) : Bounds s (ageExpires sensor s) := by
  unfold ageExpires
  split <;> exact .of_view rfl

theorem midpoint_bounds (residual : Nat) (s : State) : Bounds s (midpoint residual s) := by
  unfold midpoint
  split
  · exact (sampleLeakage_bounds _).from_view (by simp [boundView])
  · exact .refl s

theorem checkTimesOut_bounds (c : Chan) (s : State) : Bounds s (checkTimesOut c s) := by
  unfold checkTimesOut
  split <;> exact .of_view (by simp [boundView])

theorem edge_bounds (taken : Bool) (e : EdgeIn) (s : State) :
    Bounds s (if taken then takeEdge e (s.advance e.dt) else s.advance e.dt) := by
  split
  · exact (takeEdge_bounds e _).from_view rfl
  · exact .of_view rfl

theorem mainsEnds_bounds (residual : Nat) (s : State) : Bounds s (mainsEnds residual s) := by
  unfold mainsEnds
  (repeat' split)
  · exact .refl s
  · exact (loseMains_bounds _).from_view rfl
  · exact .refl s

theorem slotChoiceEnds_bounds (s : State) : Bounds s (slotChoiceEnds s) := by
  unfold slotChoiceEnds
  split <;> exact .of_view rfl

theorem holdEnds_bounds (c : Chan) (s : State) : Bounds s (holdEnds c s) := by
  unfold holdEnds
  (repeat' split) <;> exact .of_view rfl

theorem recloseEnds_bounds (c : Chan) (s : State) : Bounds s (recloseEnds c s) := by
  unfold recloseEnds recloseChan
  (repeat' split)
  · exact .of_view rfl
  · exact .of_view (by simp [boundView])
  · exact .refl s
  · exact .refl s

theorem trialEnds_bounds (c : Chan) (s : State) : Bounds s (trialEnds c s) := by
  unfold trialEnds
  split <;> exact .of_view rfl

theorem cleanEnds_bounds (c : Chan) (s : State) : Bounds s (cleanEnds c s) := by
  unfold cleanEnds
  split <;> exact .of_view rfl

theorem watchEnds_bounds (s : State) : Bounds s (watchEnds s) := by
  unfold watchEnds
  split
  · exact decideWatch_bounds s
  · exact .refl s

theorem countEnds_bounds (s : State) : Bounds s (countEnds s) := by
  unfold countEnds
  split <;> exact .of_view rfl

theorem confirmEnds_bounds (residual : Nat) (s : State) : Bounds s (confirmEnds residual s) := by
  unfold confirmEnds
  (repeat' split) <;> exact .of_view (by simp [boundView])

/-! ## Every effect -/

/-- Both queues are empty after a supply event (R3). -/
theorem powerUp_bounds (s : State) : Bounds s (powerUp s) := by
  obtain ⟨-, -, line, faults, -⟩ := reset_invariants
  exact ⟨fun _ => line, fun _ => faults⟩

theorem effect_bounds (c : Instr) (s : State) : Bounds s (effect c s) := by
  have after : ∀ {dt : Nat} {t : State}, Bounds (s.advance dt) t → Bounds s t := fun k => k.from_view rfl
  have heard : ∀ {dt : Nat} {wave : List Bool} {t : State}, Bounds (s.hear dt wave) t → Bounds s t := fun k =>
    (hear_bounds s _ _).trans k
  cases c
  case powerOn => exact powerUp_bounds s
  case supplyFailure => exact (powerUp_bounds s).to_view rfl
  case configReadComplete dt bytes =>
    simp only [effect]
    split
    · exact after (loadImage_bounds bytes _)
    · exact .of_view rfl
  case configPortRefusal dt =>
    simp only [effect]
    split <;> exact .of_view rfl
  case configReadTimeout => exact readTimeout_bounds s
  case listenIntervalExpiry => exact listenEnds_bounds s
  case isolationTimeoutExpiry => exact isolationEnds_bounds s
  case lineIdle e => exact heard (lineIdle_bounds _)
  case frameStart e => exact heard (frameStart_bounds _)
  case frameC0Check dt wave => exact heard (checkC0_bounds _)
  case framePrefilter dt wave1 wave2 => exact heard (prefilter_bounds _)
  case framingError dt wave s9 s10 => exact heard (framingError_bounds _)
  case skippedFrameEnd e => exact heard (skippedEnd_bounds _)
  case frameBadCrc | completedFrameLost => exact frameEvent_bounds (act := fun _ => lineError) (fun _ _ => .of_view rfl) _ _ _ s
  case answer => exact frameEvent_bounds (fun _ _ => .refl _) _ _ _ s
  case report => exact frameEvent_bounds peerReport_bounds _ _ _ s
  case faultNotice => exact frameEvent_bounds peerNotice_bounds _ _ _ s
  case resetTrip dt residual wave => exact (requestEvent_bounds dt wave _ (s.showResidual residual)).from_view rfl
  case transmitStart dt => exact after (transmitHead_bounds _)
  case arbitrationLost dt bit => exact after (loseArbitration_bounds bit _)
  case bitError dt bit dominant => exact after (takeBitError_bounds bit dominant _)
  case transmitComplete dt residual => exact after (transmitEnds_bounds residual _)
  case reportTimerExpiry => exact reportDue_bounds s
  case staleExpiry id => exact staleEnds_bounds id s
  case lostExpiry id => exact lostEnds_bounds id s
  case removalExpiry id => exact removalEnds_bounds id s
  case flowInputChange dt low => exact after (flowInput_bounds low _)
  case flowDebounceExpiry => exact flowSettles_bounds s
  case roundTimerExpiry => exact roundTick_bounds s
  case conversionEnd raw => exact conversionEnds_bounds raw s
  case roundComplete raw => exact roundEnds_bounds raw s
  case temperatureAgeExpiry sensor => exact ageExpires_bounds sensor s
  case halfCycleMidpoint residual => exact midpoint_bounds residual s
  case checkRequestTimeout c => exact checkTimesOut_bounds c s
  case zeroCrossEdge e => exact edge_bounds (edgeAccepted (s.advance e.dt)) e s
  case periodEnd e => exact edge_bounds (edgeAccepted (s.advance e.dt) && atPeriodEnd s) e s
  case mainsLost residual => exact mainsEnds_bounds residual s
  case slotChoiceIntervalExpiry => exact slotChoiceEnds_bounds s
  case holdExpiry c => exact holdEnds_bounds c s
  case recloseTimerExpiry c => exact recloseEnds_bounds c s
  case trialTimerExpiry c => exact trialEnds_bounds c s
  case cleanPeriodExpiry c => exact cleanEnds_bounds c s
  case leakageWatchExpiry => exact watchEnds_bounds s
  case confirmationCountEnd => exact countEnds_bounds s
  case confirmationTimerExpiry residual => exact confirmEnds_bounds residual s
  all_goals exact requestEvent_bounds _ _ _ s

/-- Settles O20. -/
theorem queuesStayBounded : Obligations.QueuesStayBounded := by
  unfold Obligations.QueuesStayBounded
  exact ⟨fun s t => step_inv (fun s => QueueBounded s.line) (fun _ _ b => b) (fun c s => (effect_bounds c s).line),
    fun s t => step_inv (fun s => FaultQueueBounded s.fault.queue) (fun _ _ b => b) (fun c s => (effect_bounds c s).faults)⟩

end Sys2Proof.Machine
end

section
/-! The CRC (O11): its computation, the characters sent, when a frame's and the image's are good, and the zero remainder. -/

namespace Sys2Proof.Machine

/-- One shift of the CRC in numbers (R25). -/
theorem crcShift_eq (r : Word16) :
    crcShift r = BitVec.ofNat 16 (2 * r.toNat) ^^^ (if 32768 ≤ r.toNat then 0x1021#16 else 0#16) := by
  have shifted : r <<< 1 = BitVec.ofNat 16 (2 * r.toNat) := by
    apply BitVec.eq_of_toNat_eq
    simp [BitVec.toNat_shiftLeft, Nat.shiftLeft_eq, Nat.mul_comm]
  have top : r.msb = decide (32768 ≤ r.toNat) := BitVec.msb_eq_decide r
  unfold crcShift
  rw [shifted, top]
  by_cases h : 32768 ≤ r.toNat <;> simp [h]

theorem highEight_eq (c : Byte) : (c.setWidth 16) <<< 8 = BitVec.ofNat 16 (256 * c.toNat) := by
  have := c.isLt
  apply BitVec.eq_of_toNat_eq
  simp [BitVec.toNat_shiftLeft, Nat.shiftLeft_eq]
  omega

/-- A character more: combined into the high eight bits, and eight shifts (R25). -/
theorem crc16_snoc (chars : List Byte) (c : Byte) :
    crc16 (chars ++ [c]) = crcShift^[8] (crc16 chars ^^^ BitVec.ofNat 16 (256 * c.toNat)) := by
  rw [crc16_append, ← highEight_eq]
  rfl

theorem crcChars_eq (r : Word16) : crcChars r = [BitVec.ofNat 8 (r.toNat / 256), BitVec.ofNat 8 (r.toNat % 256)] := by
  simp only [crcChars, List.cons.injEq, and_true]
  constructor <;> apply BitVec.eq_of_toNat_eq <;> simp [Nat.shiftRight_eq_div_pow]

/-- Two characters are those of a remainder exactly where they make its number, the high one first. -/
theorem eq_crcChars_iff (hi lo : Byte) (r : Word16) : [hi, lo] = crcChars r ↔ 256 * hi.toNat + lo.toNat = r.toNat := by
  have := hi.isLt
  have := lo.isLt
  have := r.isLt
  rw [crcChars_eq]
  simp only [List.cons.injEq, and_true, ← BitVec.toNat_inj, BitVec.toNat_ofNat]
  omega

theorem endOf_badCrc_iff (s : State) (f : RxFrame) (crc : List Byte) : endOf s f crc = .badCrc ↔ crcGood f crc = false := by
  have dispatched : dispatchEnd f ≠ .badCrc := by
    unfold dispatchEnd requestEnd
    (repeat' split) <;> simp
  unfold endOf
  (repeat' split) <;> simp_all

/-- The characters of a word made of two are these two. -/
theorem crcChars_word (hi lo : Byte) : crcChars ((hi.setWidth 16 <<< 8) ^^^ lo.setWidth 16) = [hi, lo] := by
  simp only [crcChars, List.cons.injEq, and_true]
  constructor <;> apply BitVec.eq_of_getLsbD_eq <;> intro i below
  · have inWord : 8 + i < 16 := by omega
    have inWord' : i < 16 := by omega
    simp [below, inWord, inWord']
  · simp [below]

/-- Two characters more take the remainder to 0 exactly where they are its own. -/
theorem crc16_residue (body : List Byte) (hi lo : Byte) : crc16 (body ++ [hi, lo]) = 0#16 ↔ [hi, lo] = crcChars (crc16 body) := by
  have shiftZero : crcShift8 0#16 = 0#16 := by decide
  generalize hr : crc16 body = r
  have run : crc16 (body ++ [hi, lo]) = crcStep (crcStep r hi) lo := by rw [crc16_append, hr]; rfl
  calc crc16 (body ++ [hi, lo]) = 0#16
      ↔ crcStep r hi ^^^ (lo.setWidth 16 <<< 8) = 0#16 := by
        rw [run, crcStep_eq]
        exact ⟨fun h => crcShift8_inj (h.trans shiftZero.symm), fun h => h ▸ shiftZero⟩
    _ ↔ r ^^^ (hi.setWidth 16 <<< 8) = lo.setWidth 16 := by
        rw [BitVec.xor_eq_zero_iff, ← crcShift8_low, crcStep_eq]
        exact ⟨crcShift8_inj, congrArg _⟩
    _ ↔ r = (hi.setWidth 16 <<< 8) ^^^ lo.setWidth 16 := by
        rw [← BitVec.xor_left_inj (hi.setWidth 16 <<< 8), BitVec.xor_assoc, BitVec.xor_self, BitVec.xor_zero, BitVec.xor_comm (lo.setWidth 16)]
    _ ↔ [hi, lo] = crcChars r := by
        constructor
        · rintro rfl
          exact (crcChars_word hi lo).symm
        · intro h
          simp only [crcChars, List.cons.injEq, and_true] at h
          obtain ⟨rfl, rfl⟩ := h
          exact word_split r

/-- Settles O11. -/
theorem crcResidueIsZeroExactlyWhenGood : Obligations.CrcResidueIsZeroExactlyWhenGood := by
  unfold Obligations.CrcResidueIsZeroExactlyWhenGood
  refine ⟨fun chars c => ?_, ⟨fun kind sender target payload => ?_, fun f hi lo s => ?_, fun bytes _ => ?_⟩,
    by decide +kernel, crc16_residue⟩
  · simp only [← crcShift_eq]
    exact crc16_snoc chars c
  · simp only [frameChars, crcChars_eq]
  · show ¬_ ↔ _
    rw [endOf_badCrc_iff, ← eq_crcChars_iff]
    simp [crcGood]
  · simp only [imageCrcGood, u16, charAt, Nat.mul_comm 256]
    exact decide_eq_true_iff

end Sys2Proof.Machine
end

section
/-! Received frames: what is kept of them (O13), the ends that reach no block (O14), and what the end of a frame is (O15). -/

namespace Sys2Proof.Machine

/-- The samples of an event reach the line controller of a configured station. -/
theorem State.hear_line_of_active {s : State} (ha : s.active = true) (dt : Nat) (wave : List Bool) :
    (s.hear dt wave).line = s.line.hear wave := by rw [State.hear_line, if_pos ha]

/-! ## C0 and the pre-filter (R24, R26) -/

/-- A sample that completes a character offers it to the receiver. -/
theorem Line.sample_char {l : Line} {b : Bool} {c : Byte} (h : (l.sampler.take b).heard = .char c) :
    l.sample b = ({ l with sampler := l.sampler.take b } : Line).takeChar c := by
  unfold Line.sample
  rw [h]

theorem checkC0_eq {s : State} {c0 : Byte} (ha : s.active = true) (asm : s.line.asm = [c0]) (rx : s.line.rx = .assemble)
    (left : s.line.left = 0) :
    checkC0 s = { s with line := if c0Good c0 then { s.line with left := 2 } else s.line.dropFrame } := by
  simp [checkC0, asm, ha, Line.decides, rx, left]

theorem prefilter_eq {s : State} {c0 c1 c2 : Byte} (ha : s.active = true) (asm : s.line.asm = [c0, c1, c2])
    (rx : s.line.rx = .assemble) (left : s.line.left = 0) :
    prefilter s = { s with line := s.line.filtered (prefilterKeeps s.loader.image c0 c2) c0 } := by
  simp [prefilter, asm, ha, Line.decides, rx, left]

theorem c0Good_iff (c0 : Byte) : c0Good c0 = true ↔
    (c0.toNat / 16 = 1 ∨ c0.toNat / 16 = 2 ∨ c0.toNat / 16 = 3 ∨ c0.toNat / 16 = 4 ∨ c0.toNat / 16 = 6) ∧ c0.toNat % 16 ≤ 12 := by
  rw [c0Good, Bool.and_eq_true_iff, decide_eq_true_iff]
  simp [kindKnown, kindOf, lenOf, or_assoc]

/-- A target is the station's id, its feeder's group, a channel's window around its id, or every station (R41). -/
theorem targetMatches_iff (img : Image) (t : Nat) : targetMatches img t = true ↔
    (1 ≤ t ∧ t ≤ 239 ∧ t = img.id) ∨ (240 ≤ t ∧ t ≤ 247 ∧ t - 240 = img.feeder) ∨
      (∃ n : Chan, t = 248 + n.num ∧ img.winLo.get n ≤ img.id ∧ img.id ≤ img.winHi.get n) ∨ t = 255 := by
  have windows : (∃ n : Chan, t = 248 + n.num ∧ img.winLo.get n ≤ img.id ∧ img.id ≤ img.winHi.get n) ↔
      (t = 248 ∧ img.winLo.get .c0 ≤ img.id ∧ img.id ≤ img.winHi.get .c0) ∨
      (t = 249 ∧ img.winLo.get .c1 ≤ img.id ∧ img.id ≤ img.winHi.get .c1) ∨
      (t = 250 ∧ img.winLo.get .c2 ≤ img.id ∧ img.id ≤ img.winHi.get .c2) ∨
      (t = 251 ∧ img.winLo.get .c3 ≤ img.id ∧ img.id ≤ img.winHi.get .c3) := by
    constructor
    · rintro ⟨n, h⟩
      cases n <;> simp only [Chan.num] at h <;> omega
    · rintro (h | h | h | h)
      exacts [⟨.c0, h⟩, ⟨.c1, h⟩, ⟨.c2, h⟩, ⟨.c3, h⟩]
  rw [windows]
  unfold targetMatches
  split
  · simp [*]
  split
  · have : t = 248 ∨ t = 249 ∨ t = 250 ∨ t = 251 := by omega
    rcases this with rfl | rfl | rfl | rfl <;> simp
  split <;> simp only [decide_eq_true_eq] <;> omega

/-- What the pre-filter keeps of the known kinds (R26). -/
theorem prefilterKeeps_iff {c0 : Byte} (kind : c0.toNat / 16 = 1 ∨ c0.toNat / 16 = 2 ∨ c0.toNat / 16 = 3 ∨ c0.toNat / 16 = 4 ∨
    c0.toNat / 16 = 6) (img : Image) (c2 : Byte) : prefilterKeeps img c0 c2 = true ↔
      c0.toNat / 16 = 6 ∨ c0.toNat / 16 = 1 ∨ (c0.toNat / 16 = 2 ∧ c2.toNat = img.id) ∨
      ((c0.toNat / 16 = 3 ∨ c0.toNat / 16 = 4) ∧ targetMatches img c2.toNat = true) := by
  rcases kind with k | k | k | k | k <;>
    simp [prefilterKeeps, kindOf, k, kindReport, kindNotice, kindAnswer]

/-- Settles O13. -/
theorem firstCharactersDecideWhatIsKept : Obligations.FirstCharactersDecideWhatIsKept := by
  unfold Obligations.FirstCharactersDecideWhatIsKept
  refine ⟨fun l b c heard left => ⟨fun rx => ?_, fun rx => ?_⟩, fun dt wave c0 s ha rx asm left => ?_,
    fun dt w1 w2 c0 c1 c2 s ha rx asm left kind => ?_⟩
  · rw [Line.sample_char heard]
    simp [Line.takeChar, left, rx]
  · rw [Line.sample_char heard]
    simp [Line.takeChar, left, rx]
  · have checked : exec (.frameC0Check dt wave) s = .next { s with
        now := s.now + dt
        line := if c0Good c0 then { s.line.hear wave with left := 2 } else (s.line.hear wave).dropFrame } := by
      show Host.Outcome.next (checkC0 (s.hear dt wave)) = _
      have line := State.hear_line_of_active ha dt wave
      rw [checkC0_eq (s := s.hear dt wave) (c0 := c0) ha (by rw [line, asm]) (by rw [line, Line.hear_rx, rx]) (by rw [line, left]), line]
      rfl
    refine ⟨fun good => ?_, fun bad => ?_⟩
    · rw [checked, if_pos ((c0Good_iff c0).mpr good)]
    · rw [checked, if_neg (mt (c0Good_iff c0).mp bad), Line.dropFrame]
  · have filtered : exec (.framePrefilter dt w1 w2) s = .next { s with
        now := s.now + dt
        line := (s.line.hear (w1 ++ w2)).filtered (prefilterKeeps s.loader.image c0 c2) c0 } := by
      show Host.Outcome.next (prefilter (s.hear dt (w1 ++ w2))) = _
      have line := State.hear_line_of_active ha dt (w1 ++ w2)
      rw [prefilter_eq (s := s.hear dt (w1 ++ w2)) (c0 := c0) (c1 := c1) (c2 := c2) ha (by rw [line, asm])
        (by rw [line, Line.hear_rx, rx]) (by rw [line, left]), line]
      rfl
    have keeps := prefilterKeeps_iff kind s.loader.image c2
    rw [targetMatches_iff] at keeps
    refine ⟨fun keep => ?_, fun skip => ?_⟩
    · rw [filtered, Line.filtered, if_pos (keeps.mpr keep), lenOf]
    · rw [filtered, Line.filtered, if_neg (mt keeps.mp skip), lenOf]

/-! ## The end of a frame (R25, R27, R28) -/

/-- Settles O14. -/
theorem frameEndsThatReachNoBlock : Obligations.FrameEndsThatReachNoBlock := by
  unfold Obligations.FrameEndsThatReachNoBlock
  intro dt wave f s line
  have ended (ha : s.active = true) : frameEnded dt wave s = { s with now := s.now + dt, line := line } := by
    rw [frameEnded, State.hear_line_of_active ha]
    rfl
  refine ⟨fun h => ?_, fun h => ?_, fun h => ?_, fun ha rx left => ?_⟩
  · show Host.Outcome.next (frameEvent dt wave .badCrc (fun _ => lineError) s) = _
    rw [frameEvent_of_arrives h, ended (active_of_arrives h), lineError, Line.setErr]
  · show Host.Outcome.next (frameEvent dt wave .lost (fun _ => lineError) s) = _
    rw [frameEvent_of_arrives h, ended (active_of_arrives h), lineError, Line.setErr]
  · show Host.Outcome.next (frameEvent dt wave .answer (fun _ => id) s) = _
    rw [frameEvent_of_arrives h, ended (active_of_arrives h), id]
  · show Host.Outcome.next (skippedEnd (s.hear dt wave)) = _
    have ends : (s.hear dt wave).line.rx = .skip ∧ (s.hear dt wave).line.left = 0 := by
      rw [State.hear_line_of_active ha, Line.hear_rx]
      exact ⟨rx, left⟩
    rw [skippedEnd, State.hear_active, ha, decide_eq_true ends]
    exact congrArg Host.Outcome.next (ended ha)

/-- A request is named exactly by a code of its kind and length (R46 step 3). -/
theorem requestOf_eq_some_iff {f : RxFrame} {r : Request} : requestOf f = some r ↔
    requestOfCode (charAt f.payload 0) = some r ∧ r.kind = kindOf f.c0 ∧ r.length = f.payload.length := by
  refine ⟨code_of_requestOf, fun ⟨code, fits⟩ => ?_⟩
  simp [requestOf, code, fits]

/-- What a COMMAND or QUERY of at least 2 payload characters is (R46). -/
theorem dispatchEnd_of_request {f : RxFrame} (kind : kindOf f.c0 = 3 ∨ kindOf f.c0 = 4) : dispatchEnd f = requestEnd f := by
  rcases kind with k | k <;> simp [dispatchEnd, k, kindReport, kindNotice, kindAnswer]

/-- Settles O15. -/
theorem frameEndIsDecidedByCrcSlotAndKind : Obligations.FrameEndIsDecidedByCrcSlotAndKind := by
  unfold Obligations.FrameEndIsDecidedByCrcSlotAndKind
  intro c0 c1 c2 rest dt wave s ha rx asm left len payload f good kind code
  have ending : frameEnding (s.hear dt wave) = some (f, rest.drop (lenOf c0)) := by
    simp [frameEnding, ha, rx, left, asm, wholeFrame, len, lenOf, assembled, f, payload]
  have isEnd {want : FrameEnd} (h : endOf (s.hear dt wave) f (rest.drop (lenOf c0)) = want) : Arrives dt wave want f s :=
    ⟨_, ending, h⟩
  have crc : crcGood f (rest.drop (lenOf c0)) = true ↔ good := decide_eq_true_iff
  have dispatched {want : FrameEnd} (hgood : good) (idle : s.line.tx = .idle) (slot : s.line.slot = none)
      (h : dispatchEnd f = want) : Arrives dt wave want f s := isEnd (by
    simp [endOf, crc.mpr hgood, ha, Line.busy, idle, slot, h])
  refine ⟨fun bad => isEnd ?_, fun hgood busy => isEnd ?_, fun hgood idle slot => isEnd ?_, fun hgood idle slot => ?_⟩
  · simp [endOf, mt crc.mp bad]
  · simp [endOf, crc.mpr hgood, ha, Line.busy, busy]
  · simp [endOf, crc.mpr hgood, ha, Line.busy, idle, Option.isSome_iff_ne_none, slot]
  · have kinds : kindOf f.c0 = kind := rfl
    have requests (k : kind = 3 ∨ kind = 4) : dispatchEnd f = requestEnd f := dispatchEnd_of_request k
    refine ⟨fun k => ?_, fun k => ?_, fun k => ?_, fun k short => ?_, fun k long => ⟨fun r hr hk hl => ?_, fun none => ?_⟩⟩ <;>
      apply dispatched hgood idle slot
    · simp [dispatchEnd, kinds, k, kindReport]
    · simp [dispatchEnd, kinds, k, kindReport, kindNotice]
    · simp [dispatchEnd, kinds, k, kindReport, kindNotice, kindAnswer]
    · rw [requests k, requestEnd, if_pos short]
    · rw [requests k, requestEnd, if_neg (by exact not_lt.mpr long),
        show requestOf f = some r from requestOf_eq_some_iff.mpr ⟨hr, hk, hl⟩]
    · have unnamed : requestOf f = Option.none := by
        refine Option.eq_none_iff_forall_not_mem.mpr fun r hr => ?_
        obtain ⟨hc, fits⟩ := requestOf_eq_some_iff.mp hr
        exact none r hc fits
      rw [requests k, requestEnd, if_neg (by exact not_lt.mpr long), unnamed]

end Sys2Proof.Machine
end

section
/-! The samples of the line (O12): how they make starts, characters, framing errors and the idle count, and what these do to the
receiver. -/

namespace Sys2Proof.Machine

/-! ## The samples of a character (R20) -/

def majority (a b c : Bool) : Bool := (a && b) || (a && c) || (b && c)

/-- Bit time `i` of a wave that begins with a start, as samples 8, 9 and 10 give it: true for dominant. -/
def bitRead (w : List Bool) (i : Nat) : Bool :=
  majority (w.getD (16 * i + 7) false) (w.getD (16 * i + 8) false) (w.getD (16 * i + 9) false)

/-- The first `n` data bits of a wave as a number, dominant for 0, the most significant first. -/
def dataRead (w : List Bool) : Nat → Nat
  | 0 => 0
  | n + 1 => 2 * dataRead w n + if bitRead w (n + 1) then 0 else 1

/-- The sampler after the first `k` samples of a wave. -/
def heardAfter (x : Sampler) (w : List Bool) (k : Nat) : Sampler := (w.take k).foldl Sampler.take x

/-- The sampler is in a character of which `k` samples have come, with `v` its data bits decided so far. -/
def InChar (y : Sampler) (k v : Nat) : Prop := ∃ votes, y.char = some ⟨k, votes, v⟩

theorem heardAfter_succ (x : Sampler) {w : List Bool} {k : Nat} (h : k < w.length) :
    heardAfter x w (k + 1) = (heardAfter x w k).take (w.getD k false) := by
  rw [heardAfter, List.take_succ_eq_append_getElem h, List.foldl_concat, List.getD_eq_getElem w false h]
  rfl

theorem heardAfter_all (x : Sampler) {w : List Bool} {k : Nat} (h : w.length = k) : heardAfter x w k = w.foldl Sampler.take x := by
  rw [heardAfter, List.take_of_length_le h.le]

theorem Sampler.take_inChar {y : Sampler} {c : CharIn} (h : y.char = some c) (b : Bool) :
    (y.take b).char = (c.sample b).1 ∧ (y.take b).heard = (c.sample b).2 := by
  simp [Sampler.take, h]

/-- A start is seen between characters alone, at a dominant sample after three recessive ones (R20). -/
theorem Sampler.take_between {y : Sampler} (h : y.char = none) (b : Bool) :
    y.take b = if b = true ∧ 3 ≤ y.idle then ⟨idleAfter y.idle b, some .first, .start⟩ else ⟨idleAfter y.idle b, none, .nothing⟩ := by
  simp [Sampler.take, h, Sampler.starts]

/-- A sample that is not one of the three that vote is counted and no more. -/
theorem InChar.skip {y : Sampler} {k v : Nat} (h : InChar y k v) (place : k % 16 < 7 ∨ 10 ≤ k % 16) (b : Bool) :
    InChar (y.take b) (k + 1) v := by
  obtain ⟨votes, h⟩ := h
  have votesNot : ¬(k % 16 + 1 = 10) ∧ ¬(k % 16 + 1 = 8) := by omega
  have outside : 7 ≤ k % 16 → k % 16 < 10 → b = false := by omega
  refine ⟨votes, ?_⟩
  rw [(Sampler.take_inChar h b).1]
  simp [CharIn.sample, CharIn.place, CharIn.add, samplesPerBit, votesNot]
  exact outside

theorem InChar.skips {x : Sampler} {w : List Bool} {k v : Nat} (h : InChar (heardAfter x w k) k v) (n : Nat)
    (within : k + n ≤ w.length) (places : ∀ j, j < n → (k + j) % 16 < 7 ∨ 10 ≤ (k + j) % 16) :
    InChar (heardAfter x w (k + n)) (k + n) v := by
  induction n with
  | zero => exact h
  | succ n ih =>
    rw [← Nat.add_assoc, heardAfter_succ x (by omega)]
    exact (ih (by omega) fun j hj => places j (by omega)).skip (places n (by omega)) _

/-- Samples 8, 9 and 10 of bit time `i` decide it by their majority. -/
theorem InChar.decides {y : Sampler} {i v : Nat} (h : InChar y (16 * i + 7) v) (a b d : Bool) :
    ∃ votes, (⟨16 * i + 10, votes, v⟩ : CharIn).dominant = majority a b d ∧
      (((y.take a).take b).take d).char = (⟨16 * i + 10, votes, v⟩ : CharIn).decided.1 ∧
      (((y.take a).take b).take d).heard = (⟨16 * i + 10, votes, v⟩ : CharIn).decided.2 := by
  obtain ⟨old, h⟩ := h
  have eighth : (y.take a).char = some ⟨16 * i + 8, a.toNat, v⟩ := by
    rw [(Sampler.take_inChar h a).1]
    cases a <;> simp [CharIn.sample, CharIn.place, CharIn.add, samplesPerBit]
  have ninth : ((y.take a).take b).char = some ⟨16 * i + 9, a.toNat + b.toNat, v⟩ := by
    rw [(Sampler.take_inChar eighth b).1]
    cases b <;> simp [CharIn.sample, CharIn.place, CharIn.add, samplesPerBit]
  have tenth := Sampler.take_inChar ninth d
  have summed : (⟨16 * i + 9, a.toNat + b.toNat, v⟩ : CharIn).sample d =
      (⟨16 * i + 10, a.toNat + b.toNat + d.toNat, v⟩ : CharIn).decided := by
    cases d <;> simp [CharIn.sample, CharIn.place, CharIn.add, samplesPerBit]
  rw [summed] at tenth
  refine ⟨_, ?_, tenth⟩
  cases a <;> cases b <;> cases d <;> rfl

theorem InChar.decides_heard {x : Sampler} {w : List Bool} {i v : Nat} (h : InChar (heardAfter x w (16 * i + 7)) (16 * i + 7) v)
    (within : 16 * i + 10 ≤ w.length) : ∃ votes, (⟨16 * i + 10, votes, v⟩ : CharIn).dominant = bitRead w i ∧
      (heardAfter x w (16 * i + 10)).char = (⟨16 * i + 10, votes, v⟩ : CharIn).decided.1 ∧
      (heardAfter x w (16 * i + 10)).heard = (⟨16 * i + 10, votes, v⟩ : CharIn).decided.2 := by
  have decided := h.decides (w.getD (16 * i + 7) false) (w.getD (16 * i + 8) false) (w.getD (16 * i + 9) false)
  rw [← heardAfter_succ x (by omega), ← heardAfter_succ x (by omega), ← heardAfter_succ x (by omega)] at decided
  exact decided

/-- A start begins a character of which one sample has come. -/
theorem inChar_of_start {x : Sampler} {w : List Bool} (between : x.char = none) (idle : 3 ≤ x.idle) (first : w[0]? = some true) :
    InChar (heardAfter x w 1) 1 0 := by
  obtain ⟨rest, rfl⟩ : ∃ rest, w = true :: rest := by
    cases w with
    | nil => cases first
    | cons b rest => exact ⟨rest, by simpa using first⟩
  exact ⟨0, by simp [heardAfter, Sampler.take_between between, idle, CharIn.first]⟩

section
variable {x : Sampler} {w : List Bool} (between : x.char = none) (idle : 3 ≤ x.idle) (first : w[0]? = some true)
include between idle first

/-- The start bit: recessive by its majority, it was no start; else the data bits are awaited. -/
theorem startBit_read (len : 10 ≤ w.length) :
    (bitRead w 0 = false → (heardAfter x w 10).char = none ∧ (heardAfter x w 10).heard = .nothing) ∧
    (bitRead w 0 = true → InChar (heardAfter x w 10) 10 0) := by
  have before := (inChar_of_start between idle first).skips 6 (by omega) (by omega)
  obtain ⟨votes, bit, hchar, hheard⟩ := InChar.decides_heard (i := 0) before len
  refine ⟨fun h => ?_, fun h => ⟨votes, ?_⟩⟩
  · exact ⟨hchar.trans (by simp [CharIn.decided, CharIn.bit, samplesPerBit, bit, h]),
      hheard.trans (by simp [CharIn.decided, CharIn.bit, samplesPerBit, bit, h])⟩
  · exact hchar.trans (by simp [CharIn.decided, CharIn.bit, samplesPerBit, bit, h])

/-- After the start bit and `n` data bits these have been taken. -/
theorem dataBits_read (dominant : bitRead w 0 = true) (len : w.length = 154) (n : Nat) (hn : n ≤ 8) :
    InChar (heardAfter x w (16 * n + 10)) (16 * n + 10) (dataRead w n) := by
  induction n with
  | zero => exact (startBit_read between idle first (by omega)).2 dominant
  | succ n ih =>
    have before := (ih (by omega)).skips 13 (by omega) (by omega)
    rw [show 16 * n + 10 + 13 = 16 * (n + 1) + 7 by omega] at before
    obtain ⟨votes, bit, hchar, -⟩ := before.decides_heard (by omega)
    have time : ¬16 * (n + 1) + 9 < 16 ∧ (16 * (n + 1) + 9) / 16 ≤ 8 := by omega
    refine ⟨votes, hchar.trans ?_⟩
    simp [CharIn.decided, CharIn.bit, CharIn.push, samplesPerBit, bit, time, dataRead]

/-- The stop bit ends the character: a framing error where it is dominant (R21). -/
theorem stopBit_read (dominant : bitRead w 0 = true) (len : w.length = 154) :
    (w.foldl Sampler.take x).char = none ∧
    (w.foldl Sampler.take x).heard = if bitRead w 9 then .framing else .char (BitVec.ofNat 8 (dataRead w 8)) := by
  have before := (dataBits_read between idle first dominant len 8 le_rfl).skips 13 (by omega) (by omega)
  obtain ⟨votes, bit, hchar, hheard⟩ := InChar.decides_heard (i := 9) before len.ge
  rw [heardAfter_all x len] at hchar hheard
  exact ⟨hchar.trans (by simp [CharIn.decided, CharIn.bit, samplesPerBit]),
    hheard.trans (by simp [CharIn.decided, CharIn.bit, samplesPerBit, bit])⟩

end

/-- The data bits of a character stand in it the most significant first. -/
theorem dataRead_testBit (w : List Bool) {n i : Nat} (h : i < n) : (dataRead w n).testBit (n - 1 - i) = !bitRead w (i + 1) := by
  induction n with
  | zero => omega
  | succ n ih =>
    by_cases last : i = n
    · subst last
      cases hb : bitRead w (i + 1) <;> simp [dataRead, hb, Nat.testBit_zero, Nat.add_mod]
    · have place : n + 1 - 1 - i = (n - 1 - i) + 1 := by omega
      have half : dataRead w (n + 1) / 2 = dataRead w n := by
        rw [dataRead]
        split <;> omega
      rw [place, Nat.testBit_succ, half, ih (by omega)]

theorem replicate_idle (x : Sampler) (n : Nat) :
    ((List.replicate n false).foldl Sampler.take x).idle = if n = 0 then x.idle else min (x.idle + n) 192 := by
  induction n generalizing x with
  | zero => rfl
  | succ n ih =>
    rw [List.replicate_succ, List.foldl_cons, ih, Sampler.take_idle]
    simp only [Bool.false_eq_true, if_false, Nat.add_eq_zero_iff, one_ne_zero, and_false]
    split <;> omega

/-- The idle count is of the recessive samples in a row, and a start is a dominant sample after at least three of them (R20, R22). -/
theorem idle_counts (x : Sampler) : (x.take true).idle = 0 ∧
    (∀ n, ((List.replicate n false).foldl Sampler.take x).idle = if n = 0 then x.idle else min (x.idle + n) 192) ∧
    (x.char = none → ((x.take true).heard = .start ↔ 3 ≤ x.idle) ∧ (x.take false).heard = .nothing) := by
  refine ⟨by rw [Sampler.take_idle, if_pos rfl], replicate_idle x, fun between => ⟨?_, ?_⟩⟩
  · rw [Sampler.take_between between]
    by_cases h : 3 ≤ x.idle <;> simp [h]
  · rw [Sampler.take_between between]
    simp

/-! ## The receiver (R21, R22, R26) -/

/-- The samples of an event at a configured station move the clock and the line controller alone. -/
theorem State.hear_of_active {s : State} (ha : s.active = true) (dt : Nat) (wave : List Bool) :
    s.hear dt wave = { s with now := s.now + dt, line := s.line.hear wave } := by
  rw [← State.hear_line_of_active ha dt wave]
  rfl

/-- Where no frame is in hand, an idle line makes the receiver READY. -/
theorem Line.becomeIdle_of_waiting {l : Line} (h : l.rx = .awaitIdle ∨ l.rx = .ready) : l.becomeIdle = { l with rx := .ready } := by
  unfold Line.becomeIdle
  rcases h with h | h <;> simp only [h]
  rw [← h]

/-- A frame in hand is truncated by an idle line. -/
theorem Line.becomeIdle_of_examining {l : Line} (h : l.rx = .assemble ∨ l.rx = .skip) :
    l.becomeIdle = { l.setErr with rx := .ready, asm := [], left := 0, stamp := none } := by
  unfold Line.becomeIdle
  rcases h with h | h <;> simp only [h]

theorem lineIdle_eq {s : State} (ha : s.active = true) (quiet : s.line.tx = .idle) :
    lineIdle s = if s.line.sampler.idle = 192 then { s with line := s.line.becomeIdle } else s := by
  have full : idleFull = 192 := rfl
  simp [lineIdle, ha, Line.busy, quiet, full]

theorem frameStart_eq {s : State} (ha : s.active = true) (quiet : s.line.tx = .idle) :
    frameStart s = if s.line.rx = .ready ∧ s.line.sampler.heard = .start then { s with line := s.line.openFrame s.phase? } else s := by
  simp [frameStart, ha, Line.busy, quiet]

theorem framingError_eq {s : State} (ha : s.active = true) :
    framingError s = if (s.line.rx = .assemble ∨ s.line.rx = .skip) ∧ s.line.sampler.heard = .framing then
      { s with line := s.line.setErr.dropFrame } else s := by
  simp [framingError, ha, Line.examines]

/-- Settles O12. -/
theorem receiverFollowsTheLine : Obligations.ReceiverFollowsTheLine := by
  unfold Obligations.ReceiverFollowsTheLine
  refine ⟨fun x w between idle len first => ?_, idle_counts, fun e s ha quiet => ?_, fun dt wave s9 s10 s ha => ?_⟩
  · refine ⟨fun recessive => ?_, fun dominant stop => ?_, fun dominant stop => ?_⟩
    · obtain ⟨hchar, hheard⟩ := (startBit_read between idle first (by omega)).1 recessive
      show heardAfter x w 10 = ⟨(heardAfter x w 10).idle, none, .nothing⟩
      rw [← hchar, ← hheard]
    · obtain ⟨hchar, hheard⟩ := stopBit_read between idle first dominant len
      exact ⟨hheard.trans (if_pos stop), hchar⟩
    · obtain ⟨hchar, hheard⟩ := stopBit_read between idle first dominant len
      refine ⟨_, hheard.trans (if_neg (ne_true_of_eq_false stop)), hchar, fun i hi => ?_⟩
      have place : 7 - i < 8 := by omega
      rw [BitVec.getLsbD_ofNat, decide_eq_true place, Bool.true_and]
      exact dataRead_testBit w hi
  · have line := State.hear_line_of_active ha e.dt e.wave
    have quiet' : (s.hear e.dt e.wave).line.tx = .idle := by rw [line, Line.hear_tx, quiet]
    have idles : exec (.lineIdle e) s = .next (lineIdle (s.hear e.dt e.wave)) := rfl
    have starts : exec (.frameStart e) s = .next (frameStart (s.hear e.dt e.wave)) := rfl
    have heard := State.hear_of_active ha e.dt e.wave
    rw [idles, starts, lineIdle_eq (s := s.hear e.dt e.wave) ha quiet', frameStart_eq (s := s.hear e.dt e.wave) ha quiet', line]
    refine ⟨fun full rx => ?_, fun full rx => ?_, fun short => ?_, fun rx start => ?_, fun other => ?_⟩
    · rw [if_pos full, Line.becomeIdle_of_waiting (by rw [Line.hear_rx]; exact rx)]
      rfl
    · rw [if_pos full, Line.becomeIdle_of_examining (by rw [Line.hear_rx]; exact rx)]
      rfl
    · rw [if_neg short, heard]
    · rw [if_pos ⟨by rw [Line.hear_rx, rx], start⟩]
      rfl
    · rw [if_neg (by rw [Line.hear_rx]; tauto), heard]
  · have line := State.hear_line_of_active ha dt (wave ++ [s9, s10])
    have errs : exec (.framingError dt wave s9 s10) s = .next (framingError (s.hear dt (wave ++ [s9, s10]))) := rfl
    rw [errs, framingError_eq (s := s.hear dt (wave ++ [s9, s10])) ha, line, Line.hear_rx]
    refine ⟨fun framing rx => ?_, fun other => ?_⟩
    · rw [if_pos ⟨rx, framing⟩]
      rfl
    · have not : ¬((s.line.rx = .assemble ∨ s.line.rx = .skip) ∧ (s.line.hear (wave ++ [s9, s10])).sampler.heard = .framing) := by
        rintro ⟨rx | rx, heard⟩ <;> simp [rx, heard] at other
      rw [if_neg not, State.hear_of_active ha]

end Sys2Proof.Machine
end

section
/-! Offers that the queue settles: an answer that finds it full (O24), and the REPORT of the report timer (O19). -/

namespace Sys2Proof.Machine

/-! ## A request whose answer has no room (R36, R47) -/

/-- An answer to the frame is due and finds the queue full. -/
structure AnswerBlocked (f : RxFrame) (s : State) : Prop where
  due : answerDue s.loader.image f = true
  loud : s.station.mute = false
  full : 4 ≤ s.line.queue.length

/-- Where its answer has no room a request is not carried out: the answer-overrun flag is set. -/
theorem reply_of_blocked {f : RxFrame} {s : State} (h : AnswerBlocked f s) (st : Status) (result : List Byte) (act : State → State) :
    reply f st result act s = { s with line := s.line.setOverrun } := by
  rcases reply_cases f st result act s with ⟨undue | mute, -⟩ | ⟨-, -, room, -⟩ | ⟨-, -, -, blocked⟩
  · exact absurd (h.due.symm.trans undue) (by decide)
  · exact absurd (h.loud.symm.trans mute) (by decide)
  · exact absurd h.full (by omega)
  · exact blocked

theorem refuse_of_blocked {f : RxFrame} {s : State} (h : AnswerBlocked f s) (st : Status) :
    refuse f st s = { s with line := s.line.setOverrun } := reply_of_blocked h st [] id

theorem answerOnly_of_blocked {f : RxFrame} {s : State} (h : AnswerBlocked f s) (st : Status) (result : List Byte) :
    answerOnly f st result s = { s with line := s.line.setOverrun } := reply_of_blocked h st result id

/-- Every request but RESTART offers its answer first, whatever its outcome (R47). -/
theorem carryOut_of_blocked {f : RxFrame} {s : State} (h : AnswerBlocked f s) {r : Request} (hr : r ≠ .restart) :
    carryOut r f s = { s with line := s.line.setOverrun } := by
  have replied := reply_of_blocked h
  have refused := refuse_of_blocked h
  have answered := answerOnly_of_blocked h
  cases r with
  | setPoint | hold | release | resetTrip =>
    simp only [carryOut, takeSetPoint, takeHold, takeRelease, takeResetTrip, replied, refused, ite_self]
    cases selected s f <;> rfl
  | leakTest | measure | reslot | stopStation =>
    simp only [carryOut, takeLeakTest, takeMeasure, takeReslot, takeStopStation, replied, refused, ite_self]
  | restart => exact absurd rfl hr
  | faultPop | readFaultHead =>
    simp only [carryOut, takeFaultPop, takeReadFaultHead, replied, answered]
    cases s.fault.queue <;> rfl
  | readChannel =>
    simp only [carryOut, takeReadChannel, refused, answered, ite_self]
    cases chanOf (charAt f.payload 2) <;> rfl
  | readHalt =>
    simp only [carryOut, takeReadHalt, refused, answered]
    cases haltPart s.halt.record (charAt f.payload 2) <;> rfl
  | readPeer =>
    simp only [carryOut, takeReadPeer, refused, answered]
    cases s.peers.entries[charAt f.payload 2]? <;> simp
  | readStation | readIdent => simp only [carryOut, takeReadStation, takeReadIdent, answered]

theorem takeRequest_of_blocked {f : RxFrame} {s : State} (h : AnswerBlocked f s) (len : 2 ≤ f.payload.length)
    (other : requestOf f ≠ some .restart) : takeRequest f s = { s with line := s.line.setOverrun } := by
  have carried (r : Request) (hr : requestOf f = some r) : carryOut r f s = { s with line := s.line.setOverrun } :=
    carryOut_of_blocked h fun restart => other (restart ▸ hr)
  unfold takeRequest
  rw [if_neg (by omega)]
  cases hr : requestOf f with
  | none => simp only [refuse_of_blocked h, ite_self]
  | some r => simp only [refuse_of_blocked h, carried r hr, ite_self]

/-- A frame that turns out to be of a bad code names no request (R46 step 3). -/
theorem requestOf_of_badCode {f : RxFrame} (h : dispatchEnd f = .badCode) : requestOf f = none ∧ 2 ≤ f.payload.length := by
  have request : requestEnd f = .badCode := by
    unfold dispatchEnd at h
    split at h
    · cases h
    · split at h
      · cases h
      · split at h
        · cases h
        · exact h
  unfold requestEnd at request
  split at request
  · cases request
  · rename_i len
    split at request
    · cases request
    · exact ⟨‹requestOf f = none›, by omega⟩

theorem exec_request (r : Request) (dt residual : Nat) (wave : List Bool) (s : State) :
    exec (requestInstr r dt residual wave) s = .next (requestEvent dt wave (.request r) (shownFor r residual s)) := by
  cases r <;> rfl

/-- The pins of the event do not bear on what the end of the frame is. -/
theorem arrives_shownFor {dt : Nat} {wave : List Bool} {want : FrameEnd} {f : RxFrame} {s : State} (h : Arrives dt wave want f s)
    (r : Request) (residual : Nat) : Arrives dt wave want f (shownFor r residual s) := by
  unfold shownFor
  split <;> exact h

/-- The event of a frame whose answer has no room. -/
theorem requestEvent_of_blocked {dt : Nat} {wave : List Bool} {want : FrameEnd} {f : RxFrame} {s : State}
    (h : Arrives dt wave want f s) (free : s.cmd.occupied = false) (blocked : AnswerBlocked f s) (len : 2 ≤ f.payload.length)
    (other : requestOf f ≠ some .restart) : requestEvent dt wave want s =
      { frameEnded dt wave s with line := (frameEnded dt wave s).line.setOverrun } := by
  have line := frameEnded_line (dt := dt) (wave := wave) (active_of_arrives h)
  have blocked' : AnswerBlocked f (frameEnded dt wave s) :=
    ⟨blocked.due, blocked.loud, by rw [line]; exact (Line.hear_queue s.line wave).symm ▸ blocked.full⟩
  have free' : (frameEnded dt wave s).cmd.occupied = false := free
  rw [requestEvent, frameEvent_of_arrives h, dispatchRequest, free', Bool.false_and, if_neg Bool.false_ne_true,
    takeRequest_of_blocked blocked' len other]

/-- Settles O24. -/
theorem fullQueueLeavesRequestUndone : Obligations.FullQueueLeavesRequestUndone := by
  unfold Obligations.FullQueueLeavesRequestUndone
  intro dt residual wave f s free own low high loud full overrun
  have blocked : AnswerBlocked f s := ⟨decide_eq_true ⟨low, high, own⟩, loud, full.ge⟩
  refine ⟨fun h => ?_, fun r h hr => ?_⟩
  · obtain ⟨unnamed, len⟩ := requestOf_of_badCode (dispatched_of_arrives h (by simp)).2.2
    exact congrArg Host.Outcome.next (requestEvent_of_blocked h free blocked len (by simp [unnamed]))
  · obtain ⟨named, len⟩ := requestOf_of_dispatch (dispatched_of_arrives h (by simp)).2.2
    rw [exec_request]
    refine congrArg Host.Outcome.next (requestEvent_of_blocked (arrives_shownFor h r residual) ?_ ?_ len (by simp [named, hr]))
    · unfold shownFor
      split <;> exact free
    · unfold shownFor
      split <;> exact ⟨blocked.due, blocked.loud, blocked.full⟩

/-! ## The report timer (R34, R38, R39) -/

/-- Where a queue holds at most one frame of a sort, the others are none of it. -/
theorem others_of_filter {p : OutFrame → Bool} {before behind : List OutFrame} {x : OutFrame}
    (one : ((before ++ x :: behind).filter p).length ≤ 1) (hx : p x = true) :
    (∀ y ∈ before, p y = false) ∧ ∀ y ∈ behind, p y = false := by
  have none : before.filter p = [] ∧ behind.filter p = [] := by
    simp only [List.filter_append, List.filter_cons_of_pos hx, List.length_append, List.length_cons] at one
    exact ⟨List.eq_nil_of_length_eq_zero (by omega), List.eq_nil_of_length_eq_zero (by omega)⟩
  exact ⟨fun y hy => by simpa using List.filter_eq_nil_iff.mp none.1 y hy,
    fun y hy => by simpa using List.filter_eq_nil_iff.mp none.2 y hy⟩

/-- The queued REPORT's content is replaced in place. -/
theorem replaceReport_split {before behind : List OutFrame} {old : ReportContent}
    (one : ((before ++ .report old :: behind).filter OutFrame.isReport).length ≤ 1) (c : ReportContent) :
    replaceReport c (before ++ .report old :: behind) = before ++ .report c :: behind := by
  obtain ⟨hb, hn⟩ := others_of_filter one rfl
  have kept {l : List OutFrame} (h : ∀ y ∈ l, y.isReport = false) : replaceReport c l = l :=
    (List.map_congr_left fun y hy => by simp [h y hy]).trans (List.map_id l)
  rw [replaceReport, List.map_append, List.map_cons]
  exact congrArg₂ _ (kept hb) (congrArg₂ _ rfl (kept hn))

/-- The lowest enabled channel stands first in channel order, and the highest last. -/
theorem enabledList_head {s : State} {n : Chan} (on : s.enabled n = true) (least : ∀ m, s.enabled m = true → n.num ≤ m.num) :
    s.enabledList.head? = some n := by
  have off (m : Chan) (below : m.num < n.num) : s.enabled m = false :=
    Bool.eq_false_iff.mpr fun h => absurd (least m h) (by omega)
  rw [State.enabledList, List.head?_filter]
  cases n with
  | c0 => simp [Chan.list, on]
  | c1 => simp [Chan.list, on, off .c0 (by decide)]
  | c2 => simp [Chan.list, on, off .c0 (by decide), off .c1 (by decide)]
  | c3 => simp [Chan.list, on, off .c0 (by decide), off .c1 (by decide), off .c2 (by decide)]

theorem enabledList_last {s : State} {n : Chan} (on : s.enabled n = true) (most : ∀ m, s.enabled m = true → m.num ≤ n.num) :
    s.enabledList.reverse.head? = some n := by
  have off (m : Chan) (above : n.num < m.num) : s.enabled m = false :=
    Bool.eq_false_iff.mpr fun h => absurd (most m h) (by omega)
  rw [State.enabledList, ← List.filter_reverse, List.head?_filter]
  cases n with
  | c0 => simp [Chan.list, on, off .c3 (by decide), off .c2 (by decide), off .c1 (by decide)]
  | c1 => simp [Chan.list, on, off .c3 (by decide), off .c2 (by decide)]
  | c2 => simp [Chan.list, on, off .c3 (by decide)]
  | c3 => simp [Chan.list, on]

/-- Content that finds a REPORT in the queue that is not started takes its place (R34). -/
theorem offerReport_replaces {l : Line} {before behind : List OutFrame} {old : ReportContent}
    (one : (l.queue.filter OutFrame.isReport).length ≤ 1) (queue : l.queue = before ++ .report old :: behind)
    (waits : l.tx = .idle ∨ before ≠ []) (c : ReportContent) :
    l.offerReport c = { l with queue := before ++ .report c :: behind, lastQ := c.q } := by
  have queued : l.queue.any OutFrame.isReport = true := by simp [queue, OutFrame.isReport]
  rw [queue] at one
  have waiting : l.reportStarted = false := by
    rcases waits with idle | ahead
    · simp [Line.reportStarted, Line.started, Line.busy, idle]
    · obtain ⟨x, rest, rfl⟩ := List.exists_cons_of_ne_nil ahead
      have other := (others_of_filter one rfl).1 x (by simp)
      by_cases busy : l.busy = true <;> simp [Line.reportStarted, Line.started, busy, queue, other]
  rw [Line.offerReport, if_pos queued, if_neg (ne_true_of_eq_false waiting), queue, replaceReport_split one]

/-- Settles O19. -/
theorem reportTimerMakesAReportInstant : Obligations.ReportTimerMakesAReportInstant := by
  unfold Obligations.ReportTimerMakesAReportInstant
  intro e s bounded timer loud
  refine ⟨s.reportContent, ⟨rfl, rfl, rfl, rfl, rfl, fun fires mains => ?_, fun quiet => ?_, fun n on least => ?_, fun n on most => ?_⟩, ?_⟩
  · simp [State.reportContent, State.reported, fires, State.mainsIsLost, mains]
  · rcases quiet with quiet | quiet <;> simp [State.reportContent, State.reported, State.mainsIsLost, quiet]
  · simp [State.reportContent, State.tempOfFirst, enabledList_head on least]
  · simp [State.reportContent, State.tempOfFirst, enabledList_last on most]
  · intro now line
    have due : exec .reportTimerExpiry s = .next (reportInstant (s.reach e)) := by
      show Host.Outcome.next (reportDue s) = _
      rw [reportDue, timer]
    have offered : exec .reportTimerExpiry s = .next { s with now := now, line := line.offerReport s.reportContent } := by
      rw [due, reportInstant]
      simp only [show (s.reach e).station.mute = false from loud, Bool.false_eq_true, if_false]
      rfl
    refine ⟨fun before old behind queue waits => ?_, fun old behind queue busy => ?_, fun none room => ?_, fun none full => ?_⟩
    · rw [offered, offerReport_replaces (l := line) bounded.reports queue waits]
    · have holds := reportInstant_holds (s := s.reach e) loud (decide_eq_true busy) queue rfl
      rw [due, show reportInstant (s.reach e) = { s.reach e with line := (reportInstant (s.reach e)).line } from rfl, holds]
      rfl
    · have appends := reportInstant_appends (s := s.reach e) loud none room
      rw [due, show reportInstant (s.reach e) = { s.reach e with line := (reportInstant (s.reach e)).line } from rfl, appends]
      rfl
    · have dropped : line.offerReport s.reportContent = line := by
        rw [Line.offerReport, if_neg (ne_true_of_eq_false none), if_neg (by exact not_lt.mpr full.ge)]
      rw [offered, dropped]

end Sys2Proof.Machine
end

section
/-! A frame that is lost (O17): arbitration, bit errors, and what the frame at the head of the queue takes. -/

namespace Sys2Proof.Machine

/-- The queued notice's content is replaced in place. -/
theorem replaceNotice_split {before behind : List OutFrame} {old : NoticeContent}
    (one : ((before ++ .notice old :: behind).filter OutFrame.isNotice).length ≤ 1) (c : NoticeContent) :
    replaceNotice c (before ++ .notice old :: behind) = before ++ .notice c :: behind := by
  obtain ⟨hb, hn⟩ := others_of_filter one rfl
  have kept {l : List OutFrame} (h : ∀ y ∈ l, y.isNotice = false) : replaceNotice c l = l :=
    (List.map_congr_left fun y hy => by simp [h y hy]).trans (List.map_id l)
  rw [replaceNotice, List.map_append, List.map_cons]
  exact congrArg₂ _ (kept hb) (congrArg₂ _ rfl (kept hn))

/-- Content that finds a notice in the queue that is not started takes its place (R35). -/
theorem offerNotice_replaces {s : State} {before behind : List OutFrame} {old : NoticeContent} (loud : s.station.mute = false)
    (one : (s.line.queue.filter OutFrame.isNotice).length ≤ 1) (queue : s.line.queue = before ++ .notice old :: behind)
    (waits : s.line.noticeStarted = false) (c : NoticeContent) :
    offerNotice c s = placeNotice (before ++ .notice c :: behind) s := by
  have queued : s.line.queue.any OutFrame.isNotice = true := by simp [queue, OutFrame.isNotice]
  have replaced : replaceNotice c s.line.queue = before ++ .notice c :: behind := by
    rw [queue] at one ⊢
    exact replaceNotice_split one c
  rw [offerNotice, if_neg (ne_true_of_eq_false loud), if_pos queued, if_neg (ne_true_of_eq_false waits), replaced]

theorem noticeStarted_of_idle {l : Line} (idle : l.tx = .idle) : l.noticeStarted = false := by
  simp [Line.noticeStarted, Line.started, Line.busy, idle]

/-! ## Filling a freed place where nothing waits (R37) -/

theorem offerCompletion_of_free {s : State} (free : s.cmd.occupied = false) : offerCompletion s = s := by
  unfold offerCompletion
  split
  · rename_i held
    exact absurd free (by simp [held, CmdState.occupied])
  · rfl

theorem placeFreed_of_none {s : State} (pending : s.fault.pendingNotice = none) (hold : s.line.hold = none)
    (free : s.cmd.occupied = false) : placeFreed s = s := by
  have first : offerPending s = s := by simp [offerPending, pending]
  have second : offerHold s = s := by simp [offerHold, hold]
  rw [placeFreed, first, second, offerCompletion_of_free free]

/-! ## Which bits lose a frame (R30, R31) -/

theorem losesAt_iff (l : Line) (i : Nat) : losesAt l i = true ↔
    l.tx ≠ .idle ∧ i < 20 ∧ (1 ≤ i % 10 ∧ i % 10 ≤ 8) ∧ sentBit l.txChars i = false := by
  simp [losesAt, Line.busy, transmitPhase, isDataBit, and_assoc]

theorem errsAt_iff (l : Line) (i : Nat) (dominant : Bool) : errsAt l i dominant = true ↔
    l.tx ≠ .idle ∧ i < (frameBits l.txChars).length ∧ sentBit l.txChars i ≠ dominant ∧ (20 ≤ i ∨ sentBit l.txChars i = true) := by
  simp [errsAt, Line.busy, transmitPhase, and_assoc]

theorem exec_arbitrationLost (dt bit : Nat) (s : State) : exec (.arbitrationLost dt bit) s =
    .next (if losesAt s.line bit then loseFrame (s.advance dt) else s.advance dt) := rfl

theorem exec_bitError (dt bit : Nat) (dominant : Bool) (s : State) : exec (.bitError dt bit dominant) s =
    .next (if errsAt s.line bit dominant then loseFrame { s.advance dt with line := s.line.setErr.dropFrame } else s.advance dt) :=
  rfl

/-! ## What the lost frame takes (R17, R34, R35) -/

theorem loseFrame_of_kept {s : State} (kept : s.line.discardOnLoss = false) :
    loseFrame s = unstartHead { s with line := s.line.stopDriving } := by
  rw [loseFrame, kept]
  rfl

theorem unstartHead_report {s : State} {c : ReportContent} {rest : List OutFrame} (queue : s.line.queue = .report c :: rest) :
    unstartHead s = { s with line := s.line.rehold } := by simp [unstartHead, queue]

theorem unstartHead_notice {s : State} {n : NoticeContent} {rest : List OutFrame} (queue : s.line.queue = .notice n :: rest) :
    unstartHead s = requeueNotice n s := by simp [unstartHead, queue]

theorem unstartHead_answer {s : State} {a : AnswerContent} {rest : List OutFrame} (queue : s.line.queue = .answer a :: rest) :
    unstartHead s = s := by simp [unstartHead, queue]

theorem Line.rehold_of_none {l : Line} (hold : l.hold = none) : l.rehold = l := by simp [Line.rehold, hold]

theorem rehold_held {l : Line} {c held : ReportContent} {rest : List OutFrame} (bounded : QueueBounded l)
    (queue : l.queue = .report c :: rest) (hold : l.hold = some held) :
    l.rehold = { l with queue := .report held :: rest, hold := none } := by
  have one := bounded.reports
  rw [queue] at one
  have replaced : replaceReport held (.report c :: rest) = .report held :: rest := replaceReport_split (before := []) one held
  simp only [Line.rehold, hold, queue, replaced]

theorem requeueNotice_none {s : State} (n : NoticeContent) (pending : s.fault.pendingNotice = none) :
    requeueNotice n s = { s with fault := { s.fault with placed := s.fault.placed.map fun _ => .queued } } := by
  simp [requeueNotice, pending]

theorem requeueNotice_some {s : State} {n p : NoticeContent} {rest : List OutFrame} (bounded : QueueBounded s.line)
    (idle : s.line.tx = .idle) (loud : s.station.mute = false) (queue : s.line.queue = .notice n :: rest)
    (pending : s.fault.pendingNotice = some p) :
    requeueNotice n s = { s with
      line := { s.line with queue := .notice p :: rest }
      fault := { s.fault with placed := some .queued, pendingNotice := none, awaiting := addAwaiting n.occ s.fault.awaiting } } := by
  have replaced := offerNotice_replaces (before := []) (s := { s with fault := { s.fault with
    placed := s.fault.placed.map fun _ => .queued } }) loud bounded.notices queue (noticeStarted_of_idle idle) p
  unfold requeueNotice
  split
  · rename_i p' waiting
    obtain rfl := Option.some.inj (waiting.symm.trans pending)
    exact congrArg (awaitNotice n.occ) replaced
  · rename_i none
    exact absurd (none.symm.trans pending) (by simp)

/-- A lost frame for which nothing waits stays as it is, a notice QUEUED again. -/
theorem unstartHead_alone {s : State} {head : OutFrame} {rest : List OutFrame} (queue : s.line.queue = head :: rest)
    (hold : s.line.hold = none) (pending : s.fault.pendingNotice = none) : unstartHead s = { s with
      fault := if head.isNotice = true then { s.fault with placed := s.fault.placed.map fun _ => .queued } else s.fault } := by
  cases head with
  | report c =>
    rw [unstartHead_report queue, Line.rehold_of_none hold]
    rfl
  | notice n =>
    rw [unstartHead_notice queue, requeueNotice_none n pending]
    rfl
  | answer a =>
    rw [unstartHead_answer queue]
    rfl

/-- Settles O17. -/
theorem lostFrameStaysAtTheHead : Obligations.LostFrameStaysAtTheHead := by
  unfold Obligations.LostFrameStaysAtTheHead
  refine ⟨fun dt bit head rest s bounded busy below low high recessive queue kept loud => ?_,
    fun dt bit head rest s busy below low high recessive queue discard hold pending free => ?_,
    fun dt bit dominant head rest s busy within queue kept hold pending => ⟨fun differs sends => ?_, fun same => ?_⟩,
    fun dt bit s below recessive => ⟨?_, fun stop => ?_⟩⟩
  · intro line queued
    have loses : losesAt s.line bit = true := (losesAt_iff _ _).mpr ⟨busy, below, ⟨low, high⟩, recessive⟩
    let stopped : State := { s with now := s.now + dt, line := line }
    have lost : exec (.arbitrationLost dt bit) s = .next (unstartHead stopped) := by
      rw [exec_arbitrationLost, if_pos loses, loseFrame_of_kept (s := s.advance dt) kept]
      rfl
    have bounded' : QueueBounded line := ⟨bounded.size, bounded.reports, bounded.notices, fun h => absurd rfl h⟩
    rw [lost]
    refine ⟨?_, ?_, ?_, ?_, ?_⟩
    · rintro c rfl hold
      rw [unstartHead_report (s := stopped) queue, Line.rehold_of_none (l := stopped.line) hold]
    · rintro c held rfl hold
      rw [unstartHead_report (s := stopped) queue, rehold_held (l := stopped.line) bounded' queue hold]
    · rintro n rfl pending
      rw [unstartHead_notice (s := stopped) queue, requeueNotice_none (s := stopped) n pending]
    · rintro n p rfl pending
      rw [unstartHead_notice (s := stopped) queue, requeueNotice_some (s := stopped) bounded' rfl loud queue pending]
    · rintro a rfl
      rw [unstartHead_answer (s := stopped) queue]
  · have loses : losesAt s.line bit = true := (losesAt_iff _ _).mpr ⟨busy, below, ⟨low, high⟩, recessive⟩
    have dropped : loseFrame (s.advance dt) = placeFreed { s with now := s.now + dt, line := { s.line with
        tx := .idle, txChars := [], queue := rest, discardOnLoss := false } } := by
      rw [loseFrame, show (s.advance dt).line.discardOnLoss = true from discard]
      simp only [if_true, discardHead, Line.stopDriving, State.advance, queue, List.tail_cons]
    rw [exec_arbitrationLost, if_pos loses, dropped]
    exact congrArg Host.Outcome.next (placeFreed_of_none pending hold free)
  · have errs : errsAt s.line bit dominant = true := (errsAt_iff _ _ _).mpr ⟨busy, within, differs, by
      rcases sends with late | rfl
      · exact .inl late
      · exact .inr (Bool.eq_true_of_not_eq_false differs)⟩
    rw [exec_bitError, if_pos errs, loseFrame_of_kept (by exact kept)]
    exact congrArg Host.Outcome.next (unstartHead_alone (by exact queue) (by exact hold) (by exact pending))
  · rw [exec_bitError, if_neg fun errs => ((errsAt_iff _ _ _).mp errs).2.2.1 same]
    rfl
  · have fine : ¬errsAt s.line bit true = true := fun errs => by
      obtain ⟨-, -, -, late | sent⟩ := (errsAt_iff _ _ _).mp errs
      · omega
      · exact absurd sent (by simp [recessive])
    rw [exec_bitError, if_neg fine]
    rfl
  · have kept : ¬losesAt s.line bit = true := fun loses => by
      obtain ⟨-, -, data, -⟩ := (losesAt_iff _ _).mp loses
      omega
    rw [exec_arbitrationLost, if_neg kept]
    rfl

end Sys2Proof.Machine
end

section
/-! A frame that is completed (O18): what leaves, what it clears, and which offers fill the freed place in which order. -/

namespace Sys2Proof.Machine

/-! ## The offers that wait, one by one (R35, R37, R45) -/

theorem offerNotice_places {s : State} (loud : s.station.mute = false) (none : s.line.queue.any OutFrame.isNotice = false)
    (room : s.line.queue.length < 4) (c : NoticeContent) : offerNotice c s = placeNotice (s.line.queue ++ [.notice c]) s := by
  rw [offerNotice, if_neg (ne_true_of_eq_false loud), if_neg (ne_true_of_eq_false none), if_pos (by exact decide_eq_true room)]

theorem offerPending_of_none {s : State} (pending : s.fault.pendingNotice = none) : offerPending s = s := by
  simp [offerPending, pending]

theorem offerPending_some {s : State} {p : NoticeContent} (pending : s.fault.pendingNotice = some p) :
    offerPending s = offerNotice p s := by simp [offerPending, pending]

theorem offerHold_of_none {s : State} (hold : s.line.hold = none) : offerHold s = s := by simp [offerHold, hold]

theorem offerHold_places {s : State} {c : ReportContent} (hold : s.line.hold = some c)
    (none : s.line.queue.any OutFrame.isReport = false) (room : s.line.queue.length < 4) : offerHold s = { s with
      line := { s.line with queue := s.line.queue ++ [.report c], hold := Option.none, lastQ := c.q } } := by
  simp [offerHold, hold, Line.offerReport, none, room]

theorem offerHold_drops {s : State} {c : ReportContent} (hold : s.line.hold = some c)
    (none : s.line.queue.any OutFrame.isReport = false) (full : 4 ≤ s.line.queue.length) : offerHold s = { s with
      line := { s.line with hold := Option.none } } := by
  simp [offerHold, hold, Line.offerReport, none, full]

theorem offerCompletion_places {s : State} {a : AnswerContent} (held : s.cmd = .held a) (room : s.line.queue.length < 4) :
    offerCompletion s = { s with line := { s.line with queue := s.line.queue ++ [.answer a] }, cmd := .empty } := by
  simp [offerCompletion, held, Line.hasRoom, room, Line.append]

theorem offerCompletion_full {s : State} (full : 4 ≤ s.line.queue.length) : offerCompletion s = s := by
  unfold offerCompletion
  split
  · rw [if_neg (by simpa [Line.hasRoom] using full)]
  · rfl

/-! ## The notice that follows a completed one (R32, R197) -/

theorem nextAwaiting_mem {l : List Occ} {o : Occ} (h : nextAwaiting l = some o) : o ∈ l := by
  induction l generalizing o with
  | nil => cases h
  | cons y ys ih =>
    unfold nextAwaiting at h
    split at h
    · obtain rfl := Option.some.inj h
      exact List.mem_cons_self
    · rename_i x hx
      split at h
      · obtain rfl := Option.some.inj h
        exact List.mem_cons_of_mem _ (ih hx)
      · obtain rfl := Option.some.inj h
        exact List.mem_cons_self

/-- The awaiting occurrence that is taken: the first of the highest level. -/
theorem nextAwaiting_split {before behind : List Occ} {o : Occ} (lower : ∀ x ∈ before, x.kind.level < o.kind.level)
    (least : ∀ x ∈ behind, x.kind.level ≤ o.kind.level) : nextAwaiting (before ++ o :: behind) = some o := by
  induction before with
  | nil =>
    rw [List.nil_append, nextAwaiting]
    split
    · rfl
    · rename_i x hx
      rw [if_neg (not_lt.mpr (least x (nextAwaiting_mem hx)))]
  | cons y ys ih =>
    rw [List.cons_append, nextAwaiting, ih fun x hx => lower x (List.mem_cons_of_mem _ hx)]
    exact if_pos (lower y List.mem_cons_self)

theorem Occ.sameAs_iff (x o : Occ) : x.sameAs o = true ↔ x.kind = o.kind ∧ x.chan = o.chan := decide_eq_true_iff

/-- Of a list without two entries of one kind and channel, only the occurrence itself is taken out. -/
theorem dropAwaiting_split {before behind : List Occ} {o : Occ}
    (apart : (before ++ o :: behind).Pairwise fun a b => ¬(a.kind = b.kind ∧ a.chan = b.chan)) :
    dropAwaiting o (before ++ o :: behind) = before ++ behind ∧
      (before ++ o :: behind).filter (fun x => decide (x ≠ o)) = before ++ behind := by
  obtain ⟨-, right, across⟩ := List.pairwise_append.mp apart
  have left : ∀ x ∈ before, ¬(x.kind = o.kind ∧ x.chan = o.chan) := fun x hx => across x hx o List.mem_cons_self
  have right : ∀ x ∈ behind, ¬(x.kind = o.kind ∧ x.chan = o.chan) := fun x hx same =>
    (List.pairwise_cons.mp right).1 x hx ⟨same.1.symm, same.2.symm⟩
  have kept {p : Occ → Bool} (self : p o = false) (other : ∀ x, ¬(x.kind = o.kind ∧ x.chan = o.chan) → p x = true) :
      (before ++ o :: behind).filter p = before ++ behind := by
    rw [List.filter_append, List.filter_cons_of_neg (ne_true_of_eq_false self),
      List.filter_eq_self.mpr fun x hx => other x (left x hx), List.filter_eq_self.mpr fun x hx => other x (right x hx)]
  refine ⟨kept (by simp [Occ.sameAs_iff]) fun x hx => ?_, kept (by simp) fun x hx => ?_⟩
  · rw [Bool.not_eq_true']
    exact Bool.eq_false_iff.mpr (mt (Occ.sameAs_iff x o).mp hx)
  · exact decide_eq_true fun same => hx (same ▸ ⟨rfl, rfl⟩)

theorem nextNotice_pending {s : State} {p : NoticeContent} (pending : s.fault.pendingNotice = some p) :
    nextNotice s = offerNotice p { s with fault := { s.fault with placed := none } } := by
  simp only [nextNotice, pending]

theorem nextNotice_awaiting {s : State} {o : Occ} (pending : s.fault.pendingNotice = none)
    (next : nextAwaiting s.fault.awaiting = some o) : nextNotice s = offerNotice (s.notice o) { s with
      fault := { s.fault with placed := none, awaiting := dropAwaiting o s.fault.awaiting } } := by
  unfold nextNotice
  dsimp only
  split
  · rename_i c waiting
    exact absurd (pending.symm.trans waiting) (by simp)
  · rw [next]
    rfl

theorem nextNotice_none {s : State} (pending : s.fault.pendingNotice = none) (empty : s.fault.awaiting = []) :
    nextNotice s = { s with fault := { s.fault with placed := none } } := by
  simp [nextNotice, pending, empty, nextAwaiting]

/-! ## The completed frame leaves -/

/-- The state once the completed frame has left the queue and the own receiver has dropped what it assembled (R32). -/
def popped (dt residual : Nat) (rest : List OutFrame) (s : State) : State :=
  { s with
    now := s.now + dt
    pins := { s.pins with residual := residual }
    line := { s.line with tx := .idle, txChars := [], discardOnLoss := false, rx := .awaitIdle, asm := [], left := 0, stamp := none,
                          queue := rest } }

theorem exec_transmitComplete {dt residual : Nat} {s : State} {head : OutFrame} {rest : List OutFrame} (busy : s.line.tx ≠ .idle)
    (queue : s.line.queue = head :: rest) : exec (.transmitComplete dt residual) s =
      .next (if s.cmd.occupied then takeSlot (placeFreed (completedKind head (popped dt residual rest s)))
        else placeFreed (completedKind head (popped dt residual rest s))) := by
  have popHead : s.line.popHead = (popped dt residual rest s).line := by simp [Line.popHead, queue, popped, Line.stopDriving, Line.dropFrame]
  have ends : transmitEnds residual (s.advance dt) = completeHead residual (s.advance dt) :=
    if_pos (by exact decide_eq_true busy)
  show Host.Outcome.next (transmitEnds residual (s.advance dt)) = _
  rw [ends, completeHead, show (s.advance dt).line.queue = head :: rest from queue]
  simp only [show (s.advance dt).line.popHead = (popped dt residual rest s).line from popHead]
  rfl

/-- The queue behind the head has a place, and holds no second frame of the head's own sort. -/
theorem QueueBounded.behind {l : Line} {head : OutFrame} {rest : List OutFrame} (bounded : QueueBounded l)
    (queue : l.queue = head :: rest) : rest.length < 4 ∧ (head.isReport = true → rest.any OutFrame.isReport = false) ∧
      (head.isNotice = true → rest.any OutFrame.isNotice = false) := by
  obtain ⟨size, reports, notices, -⟩ := bounded
  rw [queue] at size reports notices
  have alone {p : OutFrame → Bool} (one : ((head :: rest).filter p).length ≤ 1) (hp : p head = true) : rest.any p = false :=
    List.any_eq_false.mpr fun x hx => ne_true_of_eq_false ((others_of_filter (before := []) one hp).2 x hx)
  exact ⟨size, alone reports, alone notices⟩

theorem exec_transmitComplete_free {dt residual : Nat} {s : State} {head : OutFrame} {rest : List OutFrame} (busy : s.line.tx ≠ .idle)
    (queue : s.line.queue = head :: rest) (free : s.cmd.occupied = false) : exec (.transmitComplete dt residual) s =
      .next (placeFreed (completedKind head (popped dt residual rest s))) := by
  rw [exec_transmitComplete busy queue, free]
  rfl

theorem completedKind_notice {s : State} {head : OutFrame} (notice : head.isNotice = true) (placed : s.fault.placed ≠ none) :
    completedKind head s = nextNotice s := by
  cases head with
  | report c => cases notice
  | notice n => exact if_pos (Option.isSome_iff_ne_none.mpr placed)
  | answer a => cases notice

/-! ## Several offers for one freed place (R37) -/

/-- The answer that the command unit holds, as a frame. -/
def heldAnswers : CmdState → List OutFrame
  | .held a => [.answer a]
  | _ => []

theorem occupied_iff (c : CmdState) : c.occupied = true ↔ (heldAnswers c).length = 1 := by
  cases c <;> simp [CmdState.occupied, heldAnswers]

/-- What is as it was once the notice has been settled, and what has come of it; `dt` has gone by. -/
structure NoticeSettled (dt : Nat) (rest : List OutFrame) (notices : List NoticeContent) (s v : State) : Prop where
  now : v.now = s.now + dt
  queue : v.line.queue = rest ++ notices.map .notice
  hold : v.line.hold = s.line.hold
  lastQ : v.line.lastQ = s.line.lastQ
  slot : v.line.slot = s.line.slot
  placed : notices ≠ [] → v.fault.placed = some .queued
  records : v.fault.queue = s.fault.queue ∧ v.fault.conds = s.fault.conds
  cmd : v.cmd = s.cmd
  blocks : v.station = s.station ∧ v.peers = s.peers ∧ v.meas = s.meas ∧ v.burst = s.burst ∧ v.budget = s.budget ∧
    v.chans = s.chans ∧ v.halt = s.halt ∧ v.loader = s.loader

/-- The held REPORT content takes a place, or is dropped. -/
theorem offerHold_fills (v : State) (none : v.line.hold = Option.none ∨ v.line.queue.any OutFrame.isReport = false) :
    (offerHold v).line.queue = v.line.queue ++ (v.line.hold.toList.map OutFrame.report).take (4 - v.line.queue.length) ∧
      (offerHold v).line.hold = Option.none ∧ (offerHold v).line.slot = v.line.slot ∧
      (∀ held, v.line.hold = some held → v.line.queue.length < 4 → (offerHold v).line.lastQ = held.q) ∧
      (v.line.hold = Option.none ∨ 4 ≤ v.line.queue.length → (offerHold v).line.lastQ = v.line.lastQ) := by
  cases hold : v.line.hold with
  | none => simp [offerHold_of_none hold, hold]
  | some c =>
    have none := none.resolve_left (by simp [hold])
    by_cases room : v.line.queue.length < 4
    · have one : ([OutFrame.report c]).take (4 - v.line.queue.length) = [.report c] :=
        List.take_of_length_le (by simp only [List.length_singleton]; omega)
      rw [offerHold_places hold none room]
      exact ⟨congrArg _ one.symm, rfl, rfl, fun held h _ => Option.some.inj h ▸ rfl, fun h => by rcases h with h | h; cases h; omega⟩
    · have full : 4 - v.line.queue.length = 0 := by omega
      rw [offerHold_drops hold none (by omega), full]
      exact ⟨(List.append_nil _).symm, rfl, rfl, fun _ _ h => absurd h room, fun _ => rfl⟩

/-- The held completion takes a place, or stays held. -/
theorem offerCompletion_fills (w : State) :
    (offerCompletion w).line = { w.line with queue := w.line.queue ++ (heldAnswers w.cmd).take (4 - w.line.queue.length) } ∧
      (offerCompletion w).cmd = if w.cmd.occupied = true ∧ w.line.queue.length < 4 then .empty else w.cmd := by
  cases cmd : w.cmd with
  | empty => simp [offerCompletion, cmd, heldAnswers, CmdState.occupied]
  | inFlight name asker reqNo due => simp [offerCompletion, cmd, heldAnswers, CmdState.occupied]
  | held a =>
    by_cases room : w.line.queue.length < 4
    · have one : ([OutFrame.answer a]).take (4 - w.line.queue.length) = [.answer a] :=
        List.take_of_length_le (by simp only [List.length_singleton]; omega)
      rw [offerCompletion_places cmd room, heldAnswers, one]
      simp [CmdState.occupied, room]
    · have full : 4 - w.line.queue.length = 0 := by omega
      rw [offerCompletion_full (by omega), heldAnswers, full]
      simp [room, cmd]

/-- After the notice, the held REPORT content and then the held completion take places while there are any. -/
theorem holds_fill (v : State) (none : v.line.hold = Option.none ∨ v.line.queue.any OutFrame.isReport = false) :
    let t := offerCompletion (offerHold v)
    let offers := v.line.hold.toList.map OutFrame.report ++ heldAnswers v.cmd
    let places := 4 - v.line.queue.length
    t.line.queue = v.line.queue ++ offers.take places ∧ t.line.hold = Option.none ∧ t.line.slot = v.line.slot ∧
      t.cmd = (if v.cmd.occupied = true ∧ offers.length ≤ places then .empty else v.cmd) ∧
      (∀ held, v.line.hold = some held → 0 < places → t.line.lastQ = held.q) ∧
      (v.line.hold = Option.none ∨ places = 0 → t.line.lastQ = v.line.lastQ) := by
  intro t offers places
  obtain ⟨queue, hold, slot, taken, kept⟩ := offerHold_fills v none
  obtain ⟨line, cmd⟩ := offerCompletion_fills (offerHold v)
  have cmd₁ : (offerHold v).cmd = v.cmd := by simp
  have left : 4 - (offerHold v).line.queue.length = places - (v.line.hold.toList.map OutFrame.report).length := by
    rw [queue, List.length_append, List.length_take]
    omega
  refine ⟨?_, by rw [line]; exact hold, by rw [line]; exact slot, ?_, fun held h room => ?_, fun h => ?_⟩
  · rw [line, cmd₁, left, queue, List.take_append, List.append_assoc]
  · have fits : v.cmd.occupied = true ∧ (offerHold v).line.queue.length < 4 ↔ v.cmd.occupied = true ∧ offers.length ≤ places := by
      refine and_congr_right fun occupied => ?_
      rw [List.length_append, (occupied_iff _).mp occupied]
      omega
    rw [cmd, cmd₁, if_congr fits rfl rfl]
  · rw [line]
    exact taken held h (by omega)
  · rw [line]
    exact kept (h.imp_right fun full => by omega)

/-- What the filling of the freed place comes to: the offers in the order of R37, each while a place is free. -/
def Follows (dt : Nat) (rest : List OutFrame) (notices : List NoticeContent) (s t : State) : Prop :=
  let offers := notices.map .notice ++ s.line.hold.toList.map .report ++ heldAnswers s.cmd
  let places := 4 - rest.length
  t.now = s.now + dt ∧ t.line.queue = rest ++ offers.take places ∧ t.line.hold = none ∧
  t.cmd = (if s.cmd.occupied = true ∧ offers.length ≤ places then .empty else s.cmd) ∧
  (∀ held, s.line.hold = some held → notices.length < places → t.line.lastQ = held.q) ∧
  (s.line.hold = none ∨ places ≤ notices.length → t.line.lastQ = s.line.lastQ) ∧
  t.fault.pendingNotice = none ∧ (notices ≠ [] → t.fault.placed = some .queued) ∧
  t.station = s.station ∧ t.peers = s.peers ∧ t.meas = s.meas ∧ t.burst = s.burst ∧ t.budget = s.budget ∧ t.chans = s.chans ∧
  t.halt = s.halt ∧ t.loader = s.loader ∧ t.fault.queue = s.fault.queue ∧ t.fault.conds = s.fault.conds

theorem follows_of_settled {dt : Nat} {rest : List OutFrame} {notices : List NoticeContent} {s v : State}
    (settled : NoticeSettled dt rest notices s v) (pending : v.fault.pendingNotice = none) (fits : rest.length + notices.length ≤ 4)
    (none : s.line.hold = none ∨ rest.any OutFrame.isReport = false) : Follows dt rest notices s (offerCompletion (offerHold v)) := by
  obtain ⟨now, queue, hold, lastQ, slot, placed, ⟨records, conds⟩, cmd, hstation, hpeers, hmeas, hburst, hbudget, hchans,
    hhalt, hloader⟩ := settled
  have noReport : v.line.hold = Option.none ∨ v.line.queue.any OutFrame.isReport = false := by
    rw [hold, queue, List.any_append]
    refine none.imp_right fun h => ?_
    simp [h, OutFrame.isReport]
  have places : 4 - v.line.queue.length = 4 - rest.length - notices.length := by
    rw [queue, List.length_append, List.length_map]
    omega
  obtain ⟨tQueue, tHold, -, tCmd, tTaken, tKept⟩ := holds_fill v noReport
  rw [hold, cmd, places] at tQueue tCmd
  rw [hold, places] at tTaken tKept
  refine ⟨by simpa using now, ?_, tHold, ?_, fun held h room => tTaken held h (by omega),
    fun h => (tKept (h.imp_right fun full => by omega)).trans lastQ, by simpa using pending, by simpa using placed,
    by simpa using hstation, by simpa using hpeers, by simpa using hmeas, by simpa using hburst, by simpa using hbudget,
    by simpa using hchans, by simpa using hhalt, by simpa using hloader, by simpa using records, by simpa using conds⟩
  · have whole : (notices.map OutFrame.notice).take (4 - rest.length) = notices.map .notice :=
      List.take_of_length_le (by rw [List.length_map]; omega)
    have split (l : List OutFrame) : (notices.map OutFrame.notice ++ l).take (4 - rest.length) =
        notices.map .notice ++ l.take (4 - rest.length - notices.length) := by
      rw [List.take_append, whole, List.length_map]
    rw [tQueue, queue, List.append_assoc (notices.map OutFrame.notice), split, List.append_assoc]
  · rw [tCmd]
    refine if_congr (and_congr_right fun _ => ?_) rfl rfl
    simp only [List.length_append, List.length_map]
    omega

/-- A completion by the notice that it settles. -/
theorem completed_follows {dt residual : Nat} {head : OutFrame} {rest : List OutFrame} {notices : List NoticeContent} {s v : State}
    (busy : s.line.tx ≠ .idle) (queue : s.line.queue = head :: rest) (fits : rest.length + notices.length ≤ 4)
    (none : s.line.hold = none ∨ rest.any OutFrame.isReport = false) (slot : s.line.slot = Option.none)
    (notice : offerPending (completedKind head (popped dt residual rest s)) = v) (settled : NoticeSettled dt rest notices s v)
    (pending : v.fault.pendingNotice = Option.none) :
    ∃ t, exec (.transmitComplete dt residual) s = .next t ∧ Follows dt rest notices s t ∧ t.fault = v.fault := by
  have empty : (offerCompletion (offerHold v)).line.slot = Option.none := by
    rw [(offerCompletion_fills _).1]
    have noReport : v.line.hold = Option.none ∨ v.line.queue.any OutFrame.isReport = false := by
      rw [settled.hold, settled.queue, List.any_append]
      refine none.imp_right fun h => ?_
      simp [h, OutFrame.isReport]
    exact ((offerHold_fills v noReport).2.2.1.trans settled.slot).trans slot
  refine ⟨offerCompletion (offerHold v), ?_, follows_of_settled settled pending fits none, by simp⟩
  rw [exec_transmitComplete busy queue, placeFreed, notice, takeSlot, empty, ite_self]

/-- A notice offered at the freed place stands behind the rest of the queue. -/
theorem offerNotice_settled {dt : Nat} {rest : List OutFrame} {s t : State} (settled : NoticeSettled dt rest [] s t)
    (loud : s.station.mute = false) (none : rest.any OutFrame.isNotice = false) (room : rest.length < 4) (n : NoticeContent) :
    offerNotice n t = placeNotice (rest ++ [.notice n]) t ∧ NoticeSettled dt rest [n] s (placeNotice (rest ++ [.notice n]) t) := by
  have queue : t.line.queue = rest := settled.queue.trans (List.append_nil rest)
  refine ⟨?_, { settled with queue := rfl, placed := fun _ => rfl }⟩
  rw [offerNotice_places (by rw [settled.blocks.1, loud]) (by rw [queue, none]) (by rw [queue]; exact room), queue]

/-- Once the completed frame has left, with the fault unit as its kind leaves it. -/
theorem popped_settled (dt residual : Nat) (rest : List OutFrame) (s : State) {f : FaultUnit}
    (same : f.queue = s.fault.queue ∧ f.conds = s.fault.conds) :
    NoticeSettled dt rest [] s { popped dt residual rest s with fault := f } :=
  ⟨rfl, (List.append_nil rest).symm, rfl, rfl, rfl, nofun, same, rfl, rfl, rfl, rfl, rfl, rfl, rfl, rfl, rfl⟩

section
variable (dt residual : Nat) {head : OutFrame} {rest : List OutFrame} {s : State}

/-- A REPORT or an ANSWER leaves the fault unit as it was. -/
theorem completedKind_settled (other : head.isNotice = false) : NoticeSettled dt rest [] s (completedKind head (popped dt residual rest s)) ∧
    (completedKind head (popped dt residual rest s)).fault = s.fault := by
  have plain := popped_settled dt residual rest s (f := s.fault) ⟨rfl, rfl⟩
  cases head with
  | report c => exact ⟨{ plain with }, rfl⟩
  | notice n => cases other
  | answer a => exact ⟨plain, rfl⟩

theorem completedKind_pending {p : NoticeContent} (notice : head.isNotice = true) (placed : s.fault.placed ≠ none)
    (pending : s.fault.pendingNotice = some p) (loud : s.station.mute = false) (none : rest.any OutFrame.isNotice = false)
    (room : rest.length < 4) :
    completedKind head (popped dt residual rest s) = placeNotice (rest ++ [.notice p]) (popped dt residual rest s) :=
  (completedKind_notice (s := popped dt residual rest s) notice placed).trans
    ((nextNotice_pending (s := popped dt residual rest s) pending).trans
      (offerNotice_settled (popped_settled dt residual rest s (f := { s.fault with placed := Option.none }) ⟨rfl, rfl⟩) loud none room p).1)

theorem completedKind_awaiting {o : Occ} (notice : head.isNotice = true) (placed : s.fault.placed ≠ none)
    (pending : s.fault.pendingNotice = none) (next : nextAwaiting s.fault.awaiting = some o) (loud : s.station.mute = false)
    (none : rest.any OutFrame.isNotice = false) (room : rest.length < 4) : completedKind head (popped dt residual rest s) =
      placeNotice (rest ++ [.notice (s.notice o)])
        { popped dt residual rest s with fault := { s.fault with awaiting := dropAwaiting o s.fault.awaiting } } :=
  (completedKind_notice (s := popped dt residual rest s) notice placed).trans
    ((nextNotice_awaiting (s := popped dt residual rest s) pending next).trans
      (offerNotice_settled (popped_settled dt residual rest s
        (f := { s.fault with placed := Option.none, awaiting := dropAwaiting o s.fault.awaiting }) ⟨rfl, rfl⟩) loud none room _).1)

theorem completedKind_last (notice : head.isNotice = true) (placed : s.fault.placed ≠ none) (pending : s.fault.pendingNotice = none)
    (empty : s.fault.awaiting = []) : completedKind head (popped dt residual rest s) =
      { popped dt residual rest s with fault := { s.fault with placed := none } } :=
  (completedKind_notice (s := popped dt residual rest s) notice placed).trans
    (nextNotice_none (s := popped dt residual rest s) pending empty)

end

/-- Settles O18. -/
theorem completedFrameFreesItsPlace : Obligations.CompletedFrameFreesItsPlace := by
  unfold Obligations.CompletedFrameFreesItsPlace
  refine ⟨fun dt residual c rest s bounded busy queue pending free => ?_,
    fun dt residual head rest s bounded busy queue hold free loud => ?_,
    fun dt residual done held rest s bounded busy queue hold pending cmd => ?_,
    fun dt residual head rest s bounded busy queue noNotice noReport loud slot => ?_⟩
  · intro line pins
    obtain ⟨room, one, -⟩ := bounded.behind queue
    have cleared : completedKind (.report c) (popped dt residual rest s) =
        { s with now := s.now + dt, pins := pins, line := { line with queue := rest } } := by
      simp [completedKind, popped, Line.clearCarried, line, pins]
    rw [exec_transmitComplete_free busy queue free, cleared, placeFreed, offerPending_of_none (by exact pending)]
    refine ⟨fun hold => ?_, fun held hold => ?_⟩
    · rw [offerHold_of_none (by exact hold), offerCompletion_of_free (by exact free)]
    · rw [offerHold_places (c := held) (by exact hold) (by exact one rfl) (by exact room), offerCompletion_of_free (by exact free)]
  · intro line after
    obtain ⟨room, -, one⟩ := bounded.behind queue
    have fills (t : State) (pending : t.fault.pendingNotice = none) (held : t.line.hold = s.line.hold) (cmd : t.cmd = s.cmd) :
        placeFreed t = t := placeFreed_of_none pending (held.trans hold) (cmd ▸ free)
    have ends := exec_transmitComplete_free (dt := dt) (residual := residual) busy queue free
    refine ⟨fun notice placed pending empty => ?_, fun p notice placed pending => ?_, fun o notice placed pending mem apart most lower => ?_,
      ?_, ?_⟩
    · rw [ends, completedKind_last dt residual notice placed pending empty]
      exact congrArg Host.Outcome.next (fills _ pending rfl rfl)
    · rw [ends, completedKind_pending dt residual notice placed pending loud (one notice) room]
      exact congrArg Host.Outcome.next (fills _ rfl rfl rfl)
    · obtain ⟨before, behind, split⟩ := List.append_of_mem mem
      have next : nextAwaiting s.fault.awaiting = some o := by
        rw [split]
        exact nextAwaiting_split (lower before behind split) fun x hx => most x (by rw [split]; simp [hx])
      have dropped : dropAwaiting o s.fault.awaiting = s.fault.awaiting.filter (fun x => decide (x ≠ o)) := by
        rw [split] at apart ⊢
        exact (dropAwaiting_split apart).1.trans (dropAwaiting_split apart).2.symm
      rw [ends, completedKind_awaiting dt residual notice placed pending next loud (one notice) room, ← dropped]
      exact congrArg Host.Outcome.next (fills _ rfl rfl rfl)
    · rintro a rfl pending
      rw [ends]
      exact congrArg Host.Outcome.next (fills _ pending rfl rfl)
    · rintro a p rfl pending none
      have offered := (offerNotice_settled (popped_settled dt residual rest s (f := s.fault) ⟨rfl, rfl⟩) loud none room p).1
      have first : offerPending (completedKind (.answer a) (popped dt residual rest s)) =
          placeNotice (rest ++ [.notice p]) (popped dt residual rest s) := (offerPending_some (by exact pending)).trans offered
      rw [ends, placeFreed, first, offerHold_of_none (by exact hold), offerCompletion_of_free (by exact free)]
      rfl
  · intro after
    obtain ⟨room, -, -⟩ := bounded.behind queue
    have placed : placeFreed (completedKind (.answer done) (popped dt residual rest s)) = after := by
      have first : offerPending (popped dt residual rest s) = popped dt residual rest s := offerPending_of_none (by exact pending)
      have second : offerHold (popped dt residual rest s) = popped dt residual rest s := offerHold_of_none (by exact hold)
      rw [completedKind, placeFreed, first, second, offerCompletion_places (a := held) (by exact cmd) (by exact room)]
      rfl
    have occupied : s.cmd.occupied = true := by rw [cmd]; rfl
    rw [exec_transmitComplete busy queue, if_pos occupied, placed]
    refine ⟨fun slot => ?_, fun f slot => ?_⟩
    · simp only [takeSlot, show after.line.slot = none from slot]
    · simp only [takeSlot, show after.line.slot = some f from slot]
      rfl
  · intro now content follows
    obtain ⟨room, -, -⟩ := bounded.behind queue
    have finish {notices : List NoticeContent} {v : State} (fits : rest.length + notices.length ≤ 4)
        (notice : offerPending (completedKind head (popped dt residual rest s)) = v) (settled : NoticeSettled dt rest notices s v)
        (pending : v.fault.pendingNotice = none) :
        ∃ t, exec (.transmitComplete dt residual) s = .next t ∧ follows notices t ∧ t.fault = v.fault :=
      completed_follows busy queue fits noReport slot notice settled pending
    have place {t : State} (settled : NoticeSettled dt rest [] s t) (n : NoticeContent) :=
      offerNotice_settled settled loud noNotice room n
    refine ⟨fun kind p pending => ?_, fun other pending => ?_, fun notice placed pending empty => ?_,
      fun before o behind notice placed pending split lower least apart => ?_⟩
    · by_cases notice : head.isNotice = true
      · have kindDone := completedKind_pending dt residual notice (kind.resolve_left (by simp [notice])) pending loud noNotice room
        obtain ⟨t, ht, hf, hfault⟩ := finish (notices := [p]) room (by rw [kindDone]; exact offerPending_of_none rfl)
          (place (popped_settled dt residual rest s (f := s.fault) ⟨rfl, rfl⟩) p).2 rfl
        have waits : t.fault.awaiting = _ := congrArg FaultUnit.awaiting hfault
        exact ⟨t, ht, hf, waits⟩
      · obtain ⟨settled, same⟩ := completedKind_settled dt residual (rest := rest) (s := s) (Bool.eq_false_iff.mpr notice)
        obtain ⟨offered, settled'⟩ := place settled p
        obtain ⟨t, ht, hf, hfault⟩ := finish (notices := [p]) room ((offerPending_some (same ▸ pending)).trans offered) settled' rfl
        have kept : (completedKind head (popped dt residual rest s)).fault.awaiting = s.fault.awaiting := congrArg _ same
        exact ⟨t, ht, hf, (congrArg FaultUnit.awaiting hfault).trans kept⟩
    · obtain ⟨settled, same⟩ := completedKind_settled dt residual (rest := rest) (s := s) other
      obtain ⟨t, ht, hf, hfault⟩ := finish (notices := []) room.le (offerPending_of_none (same ▸ pending)) settled (same ▸ pending)
      exact ⟨t, ht, hf, hfault.trans same⟩
    · have kindDone := completedKind_last dt residual (rest := rest) notice placed pending empty
      exact finish (notices := []) room.le (by rw [kindDone]; exact offerPending_of_none pending)
        (popped_settled dt residual rest s (f := { s.fault with placed := none }) ⟨rfl, rfl⟩) pending
    · have next : nextAwaiting s.fault.awaiting = some o := split ▸ nextAwaiting_split lower least
      have kindDone := completedKind_awaiting dt residual notice placed pending next loud noNotice room
      obtain ⟨t, ht, hf, hfault⟩ := finish (notices := [content o]) room (by rw [kindDone]; exact offerPending_of_none rfl)
        (place (popped_settled dt residual rest s (f := { s.fault with awaiting := dropAwaiting o s.fault.awaiting }) ⟨rfl, rfl⟩)
          (content o)).2 rfl
      rw [split] at apart hfault
      exact ⟨t, ht, hf, (congrArg FaultUnit.awaiting hfault).trans (dropAwaiting_split apart).1⟩

end Sys2Proof.Machine
end

section
/-! An occurrence in the fault queue and the notice of one that is due (O58). -/

namespace Sys2Proof.Machine

/-! ## The fault queue (R191, R192) -/

theorem FaultRecord.isOf_iff (r : FaultRecord) (k : FaultKind) (c : Option Chan) : r.isOf k c = true ↔ r.kind = k ∧ r.chan = c :=
  decide_eq_true_iff

theorem FaultRecord.not_isOf {r : FaultRecord} {k : FaultKind} {c : Option Chan} (h : ¬(r.kind = k ∧ r.chan = c)) :
    r.isOf k c = false := decide_eq_false h

theorem ranksBelow_iff (ca : FaultClass) (la : Nat) (cb : FaultClass) (lb : Nat) :
    ranksBelow ca la cb lb = true ↔ ca.code < cb.code ∨ (ca.code = cb.code ∧ la < lb) := decide_eq_true_iff

/-- In a bounded fault queue the records before and behind one are of other kinds or channels. -/
theorem FaultQueueBounded.others {before behind : List FaultRecord} {r : FaultRecord} (b : FaultQueueBounded (before ++ r :: behind)) :
    (∀ x ∈ before, ¬(x.kind = r.kind ∧ x.chan = r.chan)) ∧ ∀ x ∈ behind, ¬(x.kind = r.kind ∧ x.chan = r.chan) := by
  obtain ⟨-, right, across⟩ := List.pairwise_append.mp b.distinct
  exact ⟨fun x hx => across x hx r List.mem_cons_self,
    fun x hx same => (List.pairwise_cons.mp right).1 x hx ⟨same.1.symm, same.2.symm⟩⟩

/-- The candidate for displacement is the oldest record of the lowest class and level. -/
theorem displaceCandidate_split {before behind : List FaultRecord} {r : FaultRecord}
    (above : ∀ x ∈ before, ranksBelow r.cls r.kind.level x.cls x.kind.level = true)
    (least : ∀ x ∈ behind, ¬ranksBelow x.cls x.kind.level r.cls r.kind.level = true) :
    displaceCandidate (before ++ r :: behind) = some r := by
  induction before with
  | nil =>
    rw [List.nil_append, displaceCandidate]
    split
    · rfl
    · rename_i x hx
      rw [if_neg (least x (displaceCandidate_mem hx))]
  | cons y ys ih =>
    rw [List.cons_append, displaceCandidate, ih fun x hx => above x (List.mem_cons_of_mem _ hx)]
    exact if_pos (above y List.mem_cons_self)

/-- The class of a record rewritten by an occurrence is the higher of the two. -/
theorem FaultRecord.again_cls (r : FaultRecord) (now : Nat) (cls : FaultClass) (value : Option Int) (trial : Bool) :
    (r.again now cls value trial).cls.code = max r.cls.code cls.code := by
  unfold FaultRecord.again
  dsimp only
  split <;> omega

theorem FaultRecord.again_value (r : FaultRecord) (now : Nat) (cls : FaultClass) (value : Option Int) (trial : Bool) :
    (r.again now cls value trial).value = value.or r.value := by cases value <;> rfl

theorem queueAfter_rewrites {before behind : List FaultRecord} {r : FaultRecord} {d : Detection}
    (b : FaultQueueBounded (before ++ r :: behind)) (kind : r.kind = d.kind) (chan : r.chan = d.chan) (now : Nat) (cls : FaultClass)
    (trial : Bool) : queueAfter (before ++ r :: behind) now d cls trial = before ++ r.again now cls d.value trial :: behind := by
  obtain ⟨left, right⟩ := b.others
  rw [kind, chan] at left right
  have self : r.isOf d.kind d.chan = true := (r.isOf_iff _ _).mpr ⟨kind, chan⟩
  have kept {l : List FaultRecord} (h : ∀ x ∈ l, ¬(x.kind = d.kind ∧ x.chan = d.chan)) :
      l.map (fun x => if x.isOf d.kind d.chan then x.again now cls d.value trial else x) = l :=
    (List.map_congr_left fun x hx => by simp [FaultRecord.not_isOf (h x hx)]).trans (List.map_id l)
  have found : (before ++ r :: behind).any (fun x => x.isOf d.kind d.chan) = true := List.any_eq_true.mpr ⟨r, by simp, self⟩
  rw [queueAfter, if_pos found, List.map_append, List.map_cons, kept left, kept right, if_pos self]

theorem queueAfter_new {q : List FaultRecord} {d : Detection} (new : ∀ r ∈ q, ¬(r.kind = d.kind ∧ r.chan = d.chan)) :
    ¬(q.any fun x => x.isOf d.kind d.chan) = true := fun found => by
  obtain ⟨r, hr, same⟩ := List.any_eq_true.mp found
  exact new r hr ((r.isOf_iff _ _).mp same)

/-- A full queue takes a new record only by displacing the candidate, where that ranks below it. -/
theorem queueAfter_displaces {before behind : List FaultRecord} {r : FaultRecord} {d : Detection} {cls : FaultClass}
    (b : FaultQueueBounded (before ++ r :: behind)) (fresh : ∀ x ∈ before ++ r :: behind, ¬(x.kind = d.kind ∧ x.chan = d.chan))
    (full : (before ++ r :: behind).length = 8)
    (candidate : displaceCandidate (before ++ r :: behind) = some r) (now : Nat) (trial : Bool) :
    queueAfter (before ++ r :: behind) now d cls trial = if ranksBelow r.cls r.kind.level cls d.kind.level then
      before ++ behind ++ [⟨d.kind, d.chan, cls, now, now, 1, d.value, trial⟩] else before ++ r :: behind := by
  obtain ⟨left, right⟩ := b.others
  have kept {l : List FaultRecord} (h : ∀ x ∈ l, ¬(x.kind = r.kind ∧ x.chan = r.chan)) :
      l.filter (fun y => !y.isOf r.kind r.chan) = l :=
    List.filter_eq_self.mpr fun x hx => by rw [FaultRecord.not_isOf (h x hx)]; rfl
  have self : r.isOf r.kind r.chan = true := (r.isOf_iff _ _).mpr ⟨rfl, rfl⟩
  have removed : (before ++ r :: behind).filter (fun y => !y.isOf r.kind r.chan) = before ++ behind := by
    rw [List.filter_append, List.filter_cons_of_neg (by simp [self]), kept left, kept right]
  rw [queueAfter, if_neg (queueAfter_new fresh), if_neg (by omega), candidate]
  simp only [removed]

/-! ## The awaiting list (R196) -/

theorem addAwaiting_fresh {o : Occ} {l : List Occ} (fresh : ∀ y ∈ l, ¬(y.kind = o.kind ∧ y.chan = o.chan)) :
    addAwaiting o l = l ++ [o] := by
  rcases addAwaiting_cases o l with ⟨-, x, hx, same⟩ | ⟨h, -⟩
  · exact absurd ((x.sameAs_iff o).mp same) (fresh x hx)
  · exact h

theorem addAwaiting_raises {o x : Occ} {before behind : List Occ} (kind : x.kind = o.kind) (chan : x.chan = o.chan)
    (others : ∀ y ∈ before ++ behind, ¬(y.kind = o.kind ∧ y.chan = o.chan)) : addAwaiting o (before ++ x :: behind) =
      before ++ { x with cls := if x.cls.code < o.cls.code then o.cls else x.cls } :: behind := by
  have self : x.sameAs o = true := (x.sameAs_iff o).mpr ⟨kind, chan⟩
  have kept {l : List Occ} (h : ∀ y ∈ l, y ∈ before ++ behind) : raiseAwaiting o l = l :=
    raiseAwaiting_other o l fun y hy => Bool.eq_false_iff.mpr (mt (y.sameAs_iff o).mp (others y (h y hy)))
  rcases addAwaiting_cases o (before ++ x :: behind) with ⟨h, -⟩ | ⟨-, none⟩
  · have raised : raiseAwaiting o (before ++ x :: behind) = raiseAwaiting o before ++ raiseAwaiting o [x] ++ raiseAwaiting o behind := by
      simp [raiseAwaiting]
    rw [h, raised, kept fun y hy => List.mem_append_left _ hy, kept fun y hy => List.mem_append_right _ hy]
    by_cases below : x.cls.code < o.cls.code <;> simp [raiseAwaiting, self, below]
  · exact absurd self (by simp [none x (by simp)])

/-- The entries of an occurrence's kind and channel take its class where it is higher. -/
theorem raiseAwaiting_eq (o : Occ) (l : List Occ) : raiseAwaiting o l = l.map fun x =>
    { x with cls := if x.kind = o.kind ∧ x.chan = o.chan ∧ x.cls.code < o.cls.code then o.cls else x.cls } := by
  refine List.map_congr_left fun x _ => ?_
  by_cases h : x.kind = o.kind ∧ x.chan = o.chan ∧ x.cls.code < o.cls.code
  · rw [if_pos h, if_pos (by simp [Occ.sameAs, h])]
  · rw [if_neg h, if_neg fun g => h (by simpa [Occ.sameAs, and_assoc] using g)]

/-! ## The QUEUED notice (R195, R196) -/

theorem queuedNotice_mem {q : List OutFrame} {n : NoticeContent} (h : queuedNotice q = some n) : .notice n ∈ q := by
  induction q with
  | nil => cases h
  | cons f rest ih =>
    cases f with
    | notice c =>
      obtain rfl : c = n := Option.some.inj h
      exact List.mem_cons_self
    | report c => exact List.mem_cons_of_mem _ (ih h)
    | answer a => exact List.mem_cons_of_mem _ (ih h)

theorem queuedNotice_split {before behind : List OutFrame} {n : NoticeContent} (others : ∀ f ∈ before, f.isNotice = false) :
    queuedNotice (before ++ .notice n :: behind) = some n := by
  induction before with
  | nil => rfl
  | cons f rest ih =>
    have later := ih fun g hg => others g (List.mem_cons_of_mem _ hg)
    cases f with
    | notice c => exact absurd (others _ List.mem_cons_self) (by simp [OutFrame.isNotice])
    | report c => exact later
    | answer a => exact later

theorem placedContent_iff {s : State} (bounded : QueueBounded s.line) (n : NoticeContent) :
    s.placedContent = some n ↔ s.fault.placed = some .queued ∧ .notice n ∈ s.line.queue := by
  by_cases placed : s.fault.placed = some .queued
  · rw [State.placedContent, if_pos placed]
    refine ⟨fun h => ⟨placed, queuedNotice_mem h⟩, fun ⟨_, mem⟩ => ?_⟩
    obtain ⟨before, behind, split⟩ := List.append_of_mem mem
    rw [split]
    exact queuedNotice_split (others_of_filter (split ▸ bounded.notices) rfl).1
  · rw [State.placedContent, if_neg placed]
    exact ⟨nofun, fun h => absurd h.1 placed⟩

theorem placedContent_none {s : State} (h : s.fault.placed ≠ some .queued) : s.placedContent = none := if_neg h

/-- With one notice in the queue, its replacement is that of the frame itself. -/
theorem replaceNotice_mem {q : List OutFrame} {n : NoticeContent} (one : (q.filter OutFrame.isNotice).length ≤ 1)
    (mem : .notice n ∈ q) (c : NoticeContent) : replaceNotice c q = q.map fun f => if f = .notice n then .notice c else f := by
  obtain ⟨before, behind, rfl⟩ := List.append_of_mem mem
  obtain ⟨left, right⟩ := others_of_filter one rfl
  refine List.map_congr_left fun f hf => if_congr ⟨fun notice => ?_, fun h => h ▸ rfl⟩ rfl rfl
  rcases List.mem_append.mp hf with h | h
  · exact absurd notice (ne_true_of_eq_false (left f h))
  · rcases List.mem_cons.mp h with h | h
    · exact h
    · exact absurd notice (ne_true_of_eq_false (right f h))

theorem NoticeContent.isOf_iff (n : NoticeContent) (o : Occ) : n.isOf o = true ↔ n.occ.kind = o.kind ∧ n.occ.chan = o.chan :=
  decide_eq_true_iff

theorem NoticeContent.raise_eq (n : NoticeContent) (cls : FaultClass) :
    n.raise cls = { n with occ := { n.occ with cls := if n.occ.cls.code < cls.code then cls else n.occ.cls } } := by
  unfold NoticeContent.raise
  split <;> rfl

/-! ## The rows of R196 -/

section
variable {o : Occ} {s : State} {p q : NoticeContent}

theorem noticeRow_pending (pending : s.fault.pendingNotice = some p) (same : p.isOf o = true) :
    noticeRow o s = { s with fault := { s.fault with pendingNotice := some (p.raise o.cls) } } := by
  unfold noticeRow
  rw [pending]
  cases s.placedContent <;> simp only [same, if_true]

theorem noticeRow_queued (placed : s.placedContent = some q) (same : q.isOf o = true)
    (other : ∀ p, s.fault.pendingNotice = some p → p.isOf o = false) :
    noticeRow o s = { s with line := { s.line with queue := replaceNotice (q.raise o.cls) s.line.queue } } := by
  unfold noticeRow
  rw [placed]
  cases pending : s.fault.pendingNotice with
  | none => simp only [same, if_true]
  | some p => simp only [other p pending, same, Bool.false_eq_true, if_false, if_true]

/-- A pending notice gives way to a higher level. -/
theorem noticeRow_waits (pending : s.fault.pendingNotice = some p) (other : p.isOf o = false)
    (noQueued : ∀ q, s.placedContent = some q → q.isOf o = false) : noticeRow o s =
      if p.occ.kind.level < o.kind.level then awaitNotice p.occ (keepPending (s.notice o) s) else awaitNotice o s := by
  unfold noticeRow
  rw [pending]
  cases placed : s.placedContent with
  | none => simp only [other, Bool.false_eq_true, if_false]
  | some q => simp only [other, noQueued q placed, Bool.false_eq_true, if_false]

/-- A QUEUED notice is replaced by a higher level. -/
theorem noticeRow_replaces (pending : s.fault.pendingNotice = none) (placed : s.placedContent = some q) (other : q.isOf o = false) :
    noticeRow o s =
      if q.occ.kind.level < o.kind.level then awaitNotice q.occ (offerNotice (s.notice o) s) else awaitNotice o s := by
  simp only [noticeRow, pending, placed, other, Bool.false_eq_true, if_false]

theorem noticeRow_offers (pending : s.fault.pendingNotice = none) (placed : s.fault.placed ≠ some .queued) :
    noticeRow o s = offerNotice (s.notice o) s := by
  simp only [noticeRow, pending, placedContent_none placed]

end

/-! ## What an offered notice finds (R35) -/

theorem noticeStarted_iff (l : Line) : l.noticeStarted = true ↔ l.tx ≠ .idle ∧ ∃ n behind, l.queue = .notice n :: behind := by
  unfold Line.noticeStarted Line.started Line.busy
  by_cases busy : l.tx ≠ .idle
  · rw [if_pos (decide_eq_true busy)]
    rcases l.queue with _ | ⟨f, rest⟩
    · simp
    · cases f <;> simp [OutFrame.isNotice, busy]
  · rw [if_neg (by simpa using busy)]
    simp [busy]

theorem reportStarted_iff (l : Line) : l.reportStarted = true ↔ l.tx ≠ .idle ∧ ∃ r behind, l.queue = .report r :: behind := by
  unfold Line.reportStarted Line.started Line.busy
  by_cases busy : l.tx ≠ .idle
  · rw [if_pos (decide_eq_true busy)]
    rcases l.queue with _ | ⟨f, rest⟩
    · simp
    · cases f <;> simp [OutFrame.isReport, busy]
  · rw [if_neg (by simpa using busy)]
    simp [busy]

section
variable {s : State} (loud : s.station.mute = false) (c : NoticeContent)
include loud

theorem offerNotice_started (sending : s.line.tx ≠ .idle ∧ ∃ n behind, s.line.queue = .notice n :: behind) :
    offerNotice c s = keepPending c s := by
  obtain ⟨n, behind, queue⟩ := sending.2
  have queued : s.line.queue.any OutFrame.isNotice = true := by simp [queue, OutFrame.isNotice]
  rw [offerNotice, if_neg (ne_true_of_eq_false loud), if_pos queued, if_pos ((noticeStarted_iff _).mpr sending)]

/-- A full queue gives up its REPORT that is not started. -/
theorem offerNotice_drops (none : s.line.queue.any OutFrame.isNotice = false) (full : s.line.queue.length = 4)
    (one : (s.line.queue.filter OutFrame.isReport).length ≤ 1) {before behind : List OutFrame} {r : ReportContent}
    (queue : s.line.queue = before ++ .report r :: behind) (waits : s.line.tx = .idle ∨ before ≠ []) :
    offerNotice c s = placeNotice (before ++ behind ++ [.notice c]) s := by
  rw [queue] at one
  obtain ⟨left, right⟩ := others_of_filter one rfl
  have reported : s.line.queue.any OutFrame.isReport = true := by simp [queue, OutFrame.isReport]
  have waiting : s.line.reportStarted = false := Bool.eq_false_iff.mpr fun started => by
    obtain ⟨busy, r', behind', head⟩ := (reportStarted_iff _).mp started
    obtain ⟨f, rest, rfl⟩ := List.exists_cons_of_ne_nil (waits.resolve_left busy)
    obtain rfl : f = .report r' := (List.cons.inj (queue.symm.trans head)).1
    exact absurd (left _ List.mem_cons_self) (by simp [OutFrame.isReport])
  have dropped : dropReport s.line.queue = before ++ behind := by
    have kept {l : List OutFrame} (h : ∀ f ∈ l, f.isReport = false) : l.filter (fun f => !f.isReport) = l :=
      List.filter_eq_self.mpr fun f hf => by rw [h f hf]; rfl
    rw [dropReport, queue, List.filter_append, List.filter_cons_of_neg (by simp [OutFrame.isReport]), kept left, kept right]
  rw [offerNotice, if_neg (ne_true_of_eq_false loud), if_neg (ne_true_of_eq_false none),
    if_neg (by simp [Line.hasRoom, full]), if_pos (by simp [reported, waiting]), dropped]

/-- A full queue without a REPORT that it could give up leaves the content pending. -/
theorem offerNotice_full (none : s.line.queue.any OutFrame.isNotice = false) (full : s.line.queue.length = 4)
    (stuck : ∀ before r behind, s.line.queue = before ++ .report r :: behind → s.line.tx ≠ .idle ∧ before = []) :
    offerNotice c s = keepPending c s := by
  have kept : ¬(s.line.queue.any OutFrame.isReport && !s.line.reportStarted) = true := fun drops => by
    obtain ⟨reported, waiting⟩ := Bool.and_eq_true_iff.mp drops
    obtain ⟨f, mem, isReport⟩ := List.any_eq_true.mp reported
    obtain ⟨before, behind, split⟩ := List.append_of_mem mem
    cases f with
    | report r =>
      obtain ⟨busy, rfl⟩ := stuck before r behind split
      have started := (reportStarted_iff s.line).mpr ⟨busy, r, behind, split⟩
      simp [started] at waiting
    | notice n => cases isReport
    | answer a => cases isReport
  rw [offerNotice, if_neg (ne_true_of_eq_false loud), if_neg (ne_true_of_eq_false none),
    if_neg (by simp [Line.hasRoom, full]), if_neg kept]

end

/-- Settles O58. -/
theorem occurrenceIsWrittenIntoFaultQueue : Obligations.OccurrenceIsWrittenIntoFaultQueue := by
  unfold Obligations.OccurrenceIsWrittenIntoFaultQueue
  refine ⟨⟨fun o s bounded loud => ?_, fun o l => ⟨?_, addAwaiting_fresh⟩⟩, fun q now d cls trial b => ?_⟩
  · intro same raised content lower queued awaiting fault waits swapped sending t
    let u : State := { s with fault := fault }
    have row : t = noticeRow o u := by
      have raisedEntry : raiseEntry o s = u := by rw [raiseEntry, raiseAwaiting_eq]
      show settleNotice o s = _
      rw [settleNotice, if_neg (ne_true_of_eq_false loud), raisedEntry]
    have placed (n : NoticeContent) : u.placedContent = some n ↔ queued n := placedContent_iff (s := u) bounded n
    have ofKind (n : NoticeContent) : n.isOf o = true ↔ same n := n.isOf_iff o
    have notKind {n : NoticeContent} (h : ¬same n) : n.isOf o = false := Bool.eq_false_iff.mpr (mt (ofKind n).mp h)
    have offers (pending : s.fault.pendingNotice = none) (h : s.fault.placed ≠ some .queued) : t = offerNotice content u :=
      row.trans (noticeRow_offers (s := u) pending h)
    refine ⟨fun p pending hp => ?_, fun q hq hs other => ?_, fun p pending hp noQueued => ?_, fun q pending hq hs => ?_,
      fun pending started hs => ?_, fun pending unplaced none => ⟨fun room => ?_, fun before r behind full queue waits => ?_,
        fun full stuck => ?_⟩⟩
    · rw [row, noticeRow_pending (s := u) (p := p) pending ((ofKind p).mpr hp), NoticeContent.raise_eq]
    · rw [row, noticeRow_queued (s := u) (q := q) ((placed q).mpr hq) ((ofKind q).mpr hs) fun p hp => notKind (other p hp),
        replaceNotice_mem (n := q) bounded.notices hq.2, NoticeContent.raise_eq]
    · rw [row, noticeRow_waits (s := u) (p := p) pending (notKind hp) fun q hq => notKind (noQueued q ((placed q).mp hq))]
      exact ⟨fun h => if_pos h, fun h => if_neg h⟩
    · rw [row, noticeRow_replaces (s := u) (q := q) pending ((placed q).mpr hq) (notKind hs)]
      refine ⟨fun h quiet => ?_, fun h => if_neg h⟩
      obtain ⟨before, behind, split⟩ := List.append_of_mem hq.2
      have waiting : s.line.noticeStarted = false := Bool.eq_false_iff.mpr (mt (noticeStarted_iff _).mp quiet)
      have replaced : (s.line.queue.map fun f => if f = .notice q then .notice content else f) = before ++ .notice content :: behind := by
        rw [← replaceNotice_mem bounded.notices hq.2, split]
        exact replaceNotice_split (split ▸ bounded.notices) content
      have isQueued : s.fault.placed = some .queued := hq.1
      rw [if_pos h, offerNotice_replaces (s := u) loud bounded.notices split waiting]
      simp only [awaitNotice, placeNotice, waits, swapped, u, fault, replaced, isQueued, pending]
      rfl
    · rw [offers pending (by simp [started]), offerNotice_started (s := u) loud _ hs]
      rfl
    · rw [offers pending (by simp [unplaced]), offerNotice_places (s := u) loud none room]
      simp only [placeNotice, u, fault, pending]
    · rw [offers pending (by simp [unplaced]), offerNotice_drops (s := u) loud _ none full bounded.reports queue waits]
      simp only [placeNotice, u, fault, pending]
    · rw [offers pending (by simp [unplaced]), offerNotice_full (s := u) loud _ none full stuck]
      rfl
  · rintro before x behind rfl kind chan others
    exact addAwaiting_raises kind chan others
  · intro q' new lower
    refine ⟨?_, fun fresh room => ?_, fun fresh full => ?_⟩
    · rintro r before behind rfl kind chan
      exact ⟨_, queueAfter_rewrites b kind chan now cls trial, rfl, rfl, rfl, rfl, rfl, r.again_value .., rfl, r.again_cls ..⟩
    · show queueAfter q now d cls trial = _
      rw [queueAfter, if_neg (queueAfter_new fresh), if_pos room]
    · rintro r before behind rfl above least
      have candidate : displaceCandidate (before ++ r :: behind) = some r :=
        displaceCandidate_split (fun x hx => (ranksBelow_iff ..).mpr (above x hx)) fun x hx => mt (ranksBelow_iff ..).mp (least x hx)
      have after := queueAfter_displaces (cls := cls) b fresh full candidate now trial
      exact ⟨fun below => after.trans (if_pos ((ranksBelow_iff ..).mpr below)),
        fun high => after.trans (if_neg (mt (ranksBelow_iff ..).mp high))⟩

end Sys2Proof.Machine
end

section
/-! What no detection changes of the measured period and of the half-cycle (used for O48): the period's clock, the figures of the
sequencer, and readback checks but for those armed at the detection. -/

namespace Sys2Proof.Machine

/-- The period, its index and length, and the slots. -/
def Burst.clock (b : Burst) : PeriodState × Option Nat × Nat × Nat × Option Nat := (b.period, b.idx, b.len, b.slot, b.pendingSlot)

/-- A channel of the sequencer but for its pending requests and what it is told of its output. -/
def ChanMeas.figures (m : ChanMeas) : ChanMeas :=
  { m with told := false, onHalves := 0, reqOn := false, reqOff := false, reqCheck := .none }

/-- The clock and the figures stand. -/
structure Stands (s t : State) : Prop where
  now : t.now = s.now
  clock : t.burst.clock = s.burst.clock
  figures : ∀ c, (t.meas.chans.get c).figures = (s.meas.chans.get c).figures

/-- Moreover a check that is new is armed now, and a leak test at most ends. -/
structure Aside (s t : State) : Prop extends Stands s t where
  checks : ∀ c k, (t.burst.chans.get c).check = some k → (s.burst.chans.get c).check = some k ∨ k.since = s.now
  leakTest : t.meas.leakTest = s.meas.leakTest ∨ t.meas.leakTest = .idle

theorem Stands.trans {s t u : State} (a : Stands s t) (b : Stands t u) : Stands s u :=
  ⟨b.now.trans a.now, b.clock.trans a.clock, fun c => (b.figures c).trans (a.figures c)⟩

theorem Aside.refl (s : State) : Aside s s := ⟨⟨rfl, rfl, fun _ => rfl⟩, fun _ _ => .inl, .inl rfl⟩

theorem Aside.trans {s t u : State} (a : Aside s t) (b : Aside t u) : Aside s u where
  toStands := a.toStands.trans b.toStands
  checks c k h := (b.checks c k h).elim (a.checks c k) fun e => .inr (e.trans a.now)
  leakTest := b.leakTest.elim (fun h => h ▸ a.leakTest) .inr

theorem Aside.of_burst {s t : State} (now : t.now = s.now) (meas : t.meas = s.meas) (clock : t.burst.clock = s.burst.clock)
    (checks : ∀ c k, (t.burst.chans.get c).check = some k → (s.burst.chans.get c).check = some k ∨ k.since = s.now) : Aside s t :=
  ⟨⟨now, clock, fun _ => by rw [meas]⟩, checks, .inl (by rw [meas])⟩

theorem Aside.of_same {s t : State} (now : t.now = s.now) (burst : t.burst = s.burst) (meas : t.meas = s.meas) : Aside s t :=
  .of_burst now meas (by rw [burst]) fun _ _ h => .inl (burst ▸ h)

theorem Aside.each {f : Chan → State → State} (hf : ∀ c s, Aside s (f c s)) (cs : List Chan) (s : State) : Aside s (s.each cs f) :=
  State.each_inv (fun t => Aside s t) (fun c _ _ h => h.trans (hf c _)) (.refl s)

/-! ## Burst timer and sequencer -/

theorem ChanBurst.drive_check {b : ChanBurst} {now : Nat} {level : Bool} {k : ReadbackCheck}
    (h : (b.drive now level).check = some k) : b.check = some k ∨ k.since = now := by
  unfold ChanBurst.drive at h
  split at h
  · exact .inl h
  · cases h
    exact .inr rfl

theorem modBurst_aside (s : State) (c : Chan) {f : ChanBurst → ChanBurst}
    (hf : ∀ b k, (f b).check = some k → b.check = some k ∨ k.since = s.now) : Aside s (s.modBurst c f) :=
  .of_burst rfl rfl rfl fun d k h => by
    by_cases e : d = c
    · subst e
      exact hf _ k (by simpa [State.modBurst] using h)
    · exact .inl (by simpa [State.modBurst, Four.get_set_other _ _ e] using h)

theorem modMeas_aside (s : State) (c : Chan) {f : ChanMeas → ChanMeas} (hf : ∀ m, (f m).figures = m.figures) :
    Aside s (s.modMeas c f) where
  now := rfl
  clock := rfl
  figures d := by
    by_cases e : d = c
    · subst e
      simp [State.modMeas, hf]
    · simp [State.modMeas, Four.get_set_other _ _ e]
  checks _ _ := .inl
  leakTest := .inl rfl

theorem outputsOff_aside (s : State) : Aside s (outputsOff s) where
  now := rfl
  clock := rfl
  figures c := by simp [outputsOff, ChanMeas.figures]
  checks c k h := ChanBurst.drive_check (by simpa only [outputsOff, Four.get_map] using h)
  leakTest := .inl rfl

theorem setContactor_aside (closed : Bool) (s : State) : Aside s (setContactor closed s) := .of_burst rfl rfl rfl fun _ _ => .inl

theorem stopAllFiring_aside (s : State) : Aside s (stopAllFiring s) :=
  .of_burst rfl rfl rfl fun _ _ h => .inl (by simpa [stopAllFiring] using h)

/-! ## Channels -/

theorem stopFiring_aside (c : Chan) (s : State) : Aside s (stopFiring c s) := modBurst_aside s c fun _ _ => .inl

theorem modChan_aside (s : State) (c : Chan) (f : Channel → Channel) : Aside s (s.modChan c f) := .of_same rfl rfl rfl

theorem chanToOff_aside (c : Chan) (s : State) : Aside s (chanToOff c s) := (modChan_aside s c _).trans (stopFiring_aside c _)

theorem cutFirst_aside (c : Chan) (s : State) : Aside s (cutFirst c s) := by
  unfold cutFirst
  split
  · exact (modBurst_aside s c fun _ _ => ChanBurst.drive_check).trans (modMeas_aside _ c fun _ => rfl)
  · exact .refl s

theorem stopChan_aside (c : Chan) (st : ChanState) (hold : Option Nat) (s : State) : Aside s (stopChan c st hold s) :=
  ((modChan_aside s c _).trans (stopFiring_aside c _)).trans (cutFirst_aside c _)

theorem firingToOff_aside (s : State) : Aside s (firingToOff s) :=
  .each (fun c t => by
    split
    · exact chanToOff_aside c t
    · exact .refl t) _ s

/-! ## Line, command unit and halt unit -/

theorem completeDeferred_aside (name : Deferred) (st : Status) (result : List Byte) (s : State) :
    Aside s (completeDeferred name st result s) := .of_same (by simp) (by simp) (by simp)

theorem abortLeakTest_aside (s : State) : Aside s (abortLeakTest s) := by
  unfold abortLeakTest
  split
  · exact .refl s
  · have ended : Aside s (endLeakTest s) := ⟨⟨rfl, rfl, fun _ => rfl⟩, fun _ _ => .inl, .inr rfl⟩
    exact ended.trans (completeDeferred_aside ..)

theorem reportInstant_aside (s : State) : Aside s (reportInstant s) := .of_same rfl rfl rfl

theorem halt_aside (s : State) (x : Halt) : Aside s { s with halt := x } := .of_same rfl rfl rfl

theorem enterHalting_aside (s : State) : Aside s (enterHalting s) := by
  have stopped := (firingToOff_aside s).trans (stopAllFiring_aside _)
  have blocks : Aside s (haltingBlocks s) := stopped.trans (.of_burst rfl rfl rfl fun _ _ => .inl)
  have aborted := blocks.trans (abortLeakTest_aside _)
  rw [enterHalting_eq]
  exact (aborted.trans (halt_aside _ _)).trans (reportInstant_aside _)

theorem beginHalt_aside (cause : HaltCause) (s : State) : Aside s (beginHalt cause s) :=
  ((outputsOff_aside s).trans (halt_aside _ _)).trans (setContactor_aside false _)

/-! ## Fault unit -/

theorem recordOccurrence_aside (d : Detection) (cls : FaultClass) (trial due : Bool) (s : State) :
    Aside s (recordOccurrence d cls trial due s) := .of_same (by simp) (by simp) (by simp)

theorem addCond_aside (s : State) (x : Cond) : Aside s (s.addCond x) := .of_same rfl rfl rfl

theorem fault_aside (s : State) (f : FaultUnit) : Aside s { s with fault := f } := .of_same rfl rfl rfl

theorem lockChan_aside (k : FaultKind) (c : Chan) (s : State) : Aside s (lockChan k c s) := by
  unfold lockChan
  dsimp only
  split
  · exact fault_aside s _
  · exact (((fault_aside s _).trans (fault_aside _ _)).trans (stopChan_aside ..)).trans (modChan_aside ..)

theorem lockAll_aside (k : FaultKind) (s : State) : Aside s (lockAll k s) := .each (lockChan_aside k) _ s

theorem tripChan_aside (k : FaultKind) (reclose : Option Nat) (c : Chan) (s : State) : Aside s (tripChan k reclose c s) := by
  unfold tripChan
  exact ((fault_aside s _).trans (stopChan_aside ..)).trans (modChan_aside ..)

theorem startWatch_aside (s : State) : Aside s (startWatch s) := .of_same (by simp) (by simp) (by simp)

theorem occurCounted_aside (d : Detection) (c : Chan) (s : State) : Aside s (occurCounted d c s) := by
  unfold occurCounted
  dsimp only
  split
  · exact .refl s
  · split
    · exact recordOccurrence_aside ..
    · split
      · exact (addCond_aside s _).trans (recordOccurrence_aside ..)
      · split
        · exact ((modChan_aside s c _).trans (lockChan_aside ..)).trans (recordOccurrence_aside ..)
        · split
          · exact ((modChan_aside s c _).trans (lockChan_aside ..)).trans (recordOccurrence_aside ..)
          · exact (((modChan_aside s c _).trans (addCond_aside _ _)).trans (tripChan_aside ..)).trans (recordOccurrence_aside ..)

theorem occurOvertemp_aside (d : Detection) (c : Chan) (s : State) : Aside s (occurOvertemp d c s) := by
  unfold occurOvertemp
  dsimp only
  split
  · exact recordOccurrence_aside ..
  · split
    · exact (addCond_aside s _).trans (recordOccurrence_aside ..)
    · split
      · exact ((addCond_aside s _).trans (lockChan_aside ..)).trans (recordOccurrence_aside ..)
      · exact ((addCond_aside s _).trans (tripChan_aside ..)).trans (recordOccurrence_aside ..)

theorem occurEarth_aside (d : Detection) (s : State) : Aside s (occurEarth d s) := by
  unfold occurEarth
  dsimp only
  split
  · exact (startWatch_aside s).trans (recordOccurrence_aside ..)
  · have locked := ((outputsOff_aside s).trans (setContactor_aside false _)).trans (lockAll_aside .earthLeakage _)
    exact ((locked.trans (addCond_aside _ _)).trans (startWatch_aside _)).trans (recordOccurrence_aside ..)

theorem occurTestFail_aside (d : Detection) (s : State) : Aside s (occurTestFail d s) := by
  unfold occurTestFail
  split
  · exact recordOccurrence_aside ..
  · exact ((lockAll_aside _ s).trans (addCond_aside _ _)).trans (recordOccurrence_aside ..)

theorem occurNote_aside (d : Detection) (s : State) : Aside s (occurNote d s) := by
  unfold occurNote
  split
  · exact recordOccurrence_aside ..
  · exact (addCond_aside s _).trans (recordOccurrence_aside ..)

theorem occurHalt_aside (d : Detection) (cause : HaltCause) (s : State) : Aside s (occurHalt d cause s) := by
  unfold occurHalt
  split
  · exact recordOccurrence_aside ..
  · dsimp only
    refine (addCond_aside s ⟨d.kind, d.chan, .halt⟩).trans ?_
    split
    · exact ((beginHalt_aside cause _).trans (recordOccurrence_aside ..)).trans (enterHalting_aside _)
    · exact (halt_aside _ _).trans (recordOccurrence_aside ..)
    · exact recordOccurrence_aside ..

/-- No detection moves the period's clock or its figures. -/
theorem occur_aside (d : Detection) (s : State) : Aside s (occur d s) := by
  unfold occur
  split
  · exact occurEarth_aside d s
  · exact occurTestFail_aside d s
  · exact occurCounted_aside d _ s
  · exact occurCounted_aside d _ s
  · exact occurOvertemp_aside d _ s
  · exact .refl s
  · exact .refl s
  · exact .refl s
  · exact occurHalt_aside d _ s
  · exact occurHalt_aside d _ s
  · exact occurHalt_aside d _ s
  · exact occurHalt_aside d _ s
  all_goals exact occurNote_aside d s

theorem occurAll_aside (ds : List Detection) (s : State) : Aside s (occurAll ds s) :=
  occurAll_inv (fun t => Aside s t) (fun d _ h => h.trans (occur_aside d _)) ds (.refl s)

end Sys2Proof.Machine
end

section
/-! The control step (used for O48): what it does to a channel, what it leaves, and what it does not read: the phase differences, the
requests and counts of the sequencer, the outputs and the pins. -/

namespace Sys2Proof.Machine

/-! ## What it does to a channel (R152, R159) -/

/-- What a control step keeps of a channel. -/
def Channel.timers (ch : Channel) : Int × Option Nat × Option Nat × Option Nat × Option Nat × Nat :=
  (ch.tSet, ch.holdExpiry, ch.reclose, ch.trial, ch.clean, ch.trips)

/-- A channel that does not fire keeps its state and has no demand; one that fires stays in a firing state (R150 to R153, R159). -/
theorem stepCalc_state (s : State) (c : Chan) :
    ((s.chans.get c).state.fires = false → (stepCalc s c).state = (s.chans.get c).state ∧ (stepCalc s c).d = 0) ∧
    ((s.chans.get c).state.fires = true → (stepCalc s c).state.fires = true) := by
  have borrowed : (borrowedStep s c).state.fires = true := by
    unfold borrowedStep
    split <;> rfl
  unfold stepCalc
  refine ⟨fun h => by simp [h], fun h => ?_⟩
  simp only [h, Bool.not_true, Bool.false_eq_true, if_false]
  split
  · split
    · unfold warmupStep
      dsimp only
      split <;> rfl
    · rfl
  · exact borrowed

/-- A channel of a firing station after a control step. -/
theorem firingStep_chan (s : State) (c : Chan) : ∃ k, (firingStep s).chans.get c =
    ((s.chans.get c).withCalc (stepCalc s c)).withShare (stepCalc s c) s.loader.image.ki k :=
  ⟨(firingStep s).budget.k, by simp [firingStep, setFiring]⟩

theorem idleStep_chan (s : State) (c : Chan) : (idleStep s).chans.get c = { s.chans.get c with d := 0, ds := 0 } := by
  simp [idleStep, setFiring]

theorem controlStep_chan (s : State) (c : Chan) :
    ((controlStep s).chans.get c).timers = (s.chans.get c).timers ∧
    ((s.chans.get c).state.fires = false → ((controlStep s).chans.get c).state = (s.chans.get c).state ∧
      ((controlStep s).chans.get c).d = 0 ∧ ((controlStep s).chans.get c).ds = 0) ∧
    ((s.chans.get c).state.fires = true → ((controlStep s).chans.get c).state.fires = true) := by
  have chans : (setFlow s).chans = s.chans := by simp
  unfold controlStep
  dsimp only
  split
  · obtain ⟨k, h⟩ := firingStep_chan (setFlow s) c
    obtain ⟨quiet, fires⟩ := stepCalc_state (setFlow s) c
    rw [chans] at h quiet fires
    rw [h]
    refine ⟨rfl, fun off => ?_, fires⟩
    obtain ⟨state, d⟩ := quiet off
    simp [Channel.withCalc, Channel.withShare, state, d, scaled]
  · rw [idleStep_chan, chans]
    exact ⟨rfl, fun _ => ⟨rfl, rfl, rfl⟩, id⟩

/-- The states that fire are states in service (R140). -/
theorem inService_of_fires {st : ChanState} (h : st.fires = true) : st.inService = true := by
  revert h
  cases st <;> decide

/-- Firing counts come from channels that fire alone; the outputs and the checks stand (R114, R115). -/
theorem setFiring_burst (s : State) (c : Chan) :
    ((setFiring s).burst.chans.get c).out = (s.burst.chans.get c).out ∧
    ((setFiring s).burst.chans.get c).check = (s.burst.chans.get c).check ∧
    ((s.chans.get c).state.fires = false → ((setFiring s).burst.chans.get c).h = 0 ∧ ((setFiring s).burst.chans.get c).r = 0) := by
  simp only [setFiring, Four.get_of, firingOf]
  refine ⟨?_, ?_, fun off => ?_⟩
  · split <;> rfl
  · split <;> rfl
  · simp [off]

theorem firingStep_eq (s : State) : ∃ b chans, firingStep s = setFiring { s with budget := b, chans := chans } := ⟨_, _, rfl⟩

theorem idleStep_eq (s : State) : ∃ b chans, idleStep s = setFiring { s with budget := b, chans := chans } := ⟨_, _, rfl⟩

/-- A control step sets the flow status, the channels and the share record, and then the firing counts. -/
theorem controlStep_eq (s : State) : ∃ b chans, controlStep s = setFiring { setFlow s with budget := b, chans := chans } := by
  unfold controlStep
  dsimp only
  split
  · exact firingStep_eq _
  · exact idleStep_eq _

theorem controlStep_burst (s : State) (c : Chan) :
    ((controlStep s).burst.chans.get c).out = (s.burst.chans.get c).out ∧
    ((controlStep s).burst.chans.get c).check = (s.burst.chans.get c).check ∧
    ((s.chans.get c).state.fires = false →
      ((controlStep s).burst.chans.get c).h = 0 ∧ ((controlStep s).burst.chans.get c).r = 0) := by
  obtain ⟨-, off, -⟩ := controlStep_chan s c
  obtain ⟨b, chans, h⟩ := controlStep_eq s
  rw [h] at off ⊢
  have flow : (setFlow s).burst = s.burst := by simp
  obtain ⟨out, check, stopped⟩ := setFiring_burst { setFlow s with budget := b, chans := chans } c
  rw [out, check, flow]
  refine ⟨rfl, rfl, fun quiet => stopped ?_⟩
  have state := (off quiet).1
  simp only [setFiring_frame] at state
  rw [state, quiet]

theorem controlStep_clock (s : State) :
    (controlStep s).burst.clock = s.burst.clock ∧ (controlStep s).burst.contactor = s.burst.contactor := by
  obtain ⟨b, chans, h⟩ := controlStep_eq s
  rw [h]
  simp [setFiring, Burst.clock]

theorem controlStep_peers (s : State) : (controlStep s).peers = (setFlow s).peers := by
  obtain ⟨b, chans, h⟩ := controlStep_eq s
  rw [h]
  rfl

/-- U is of the configuration alone (R128, R137). -/
theorem controlStep_u (s : State) : (controlStep s).budget.u = usable s.loader.image := by
  unfold controlStep
  dsimp only
  split
  · simp [firingStep, shareRecord, setFiring]
  · simp [idleStep, idleRecord, setFiring]

/-! ## What it does not read -/

/-- The channels with the states and demands of the step (R152 steps 1 and 2). -/
def withDemands (s : State) : State := { s with chans := .of fun c => (s.chans.get c).withCalc (stepCalc s c) }

/-- The share taken, the demands scaled and the integrals updated (R152 steps 3 and 4). -/
def withShares (xs : Chan → StepCalc) (t : State) : State :=
  let b := shareRecord t (stationDemand t (.of fun c => (t.chans.get c).d))
  { t with budget := b, chans := .of fun c => (t.chans.get c).withShare (xs c) t.loader.image.ki b.k }

theorem firingStep_stages (s : State) : firingStep s = setFiring (withShares (stepCalc s) (withDemands s)) := rfl

/-- A peer entry without its phase difference. -/
def Peer.unphased (p : Peer) : Peer := { p with delta := none }

/-- The state `x` shows a control step what `s` shows it. -/
structure StepAlike (s x : State) : Prop where
  loader : x.loader = s.loader
  station : x.station = s.station
  chans : x.chans = s.chans
  wall : x.meas.wall = s.meas.wall
  amb : x.meas.amb = s.meas.amb
  iEff : ∀ c, (x.meas.chans.get c).iEff = (s.meas.chans.get c).iEff
  rests : ∀ c, (x.burst.chans.get c).r = (s.burst.chans.get c).r
  debounced : x.peers.debounced = s.peers.debounced
  entries : x.peers.entries = s.peers.entries.map Peer.unphased

theorem pickPeer_map {better : Peer → Peer → Bool} {f : Peer → Peer} (hf : ∀ a b, better (f a) (f b) = better a b) (l : List Peer) :
    pickPeer better (l.map f) = (pickPeer better l).map f := by
  induction l with
  | nil => rfl
  | cons p ps ih =>
    simp only [List.map_cons, pickPeer, ih]
    cases pickPeer better ps with
    | none => rfl
    | some q =>
      simp only [Option.map_some, hf]
      split <;> rfl

/-- The first by an order among some entries, the phase differences left out. -/
theorem pick_unphased {better : Peer → Peer → Bool} {keep : Peer → Bool}
    (hb : ∀ a b : Peer, better a.unphased b.unphased = better a b) (hk : ∀ a : Peer, keep a.unphased = keep a) (l : List Peer) :
    pickPeer better ((l.map Peer.unphased).filter keep) = (pickPeer better (l.filter keep)).map Peer.unphased := by
  have kept : keep ∘ Peer.unphased = keep := funext hk
  rw [List.filter_map, kept, pickPeer_map hb]

section
variable {s x : State} (h : StepAlike s x)
include h

theorem StepAlike.adoptedFlow : adoptedFlow x = adoptedFlow s := by
  have up := pick_unphased (better := nearerUp) (keep := fun p => lendsFlow p && decide (p.position < s.loader.image.position))
    (fun _ _ => rfl) (fun _ => rfl) s.peers.entries
  have down := pick_unphased (better := nearerDown) (keep := fun p => lendsFlow p && decide (s.loader.image.position < p.position))
    (fun _ _ => rfl) (fun _ => rfl) s.peers.entries
  unfold Machine.adoptedFlow
  rw [h.loader, h.entries, up, down]
  cases pickPeer nearerUp (s.peers.entries.filter fun p => lendsFlow p && decide (p.position < s.loader.image.position)) with
  | some p => rfl
  | none =>
    cases pickPeer nearerDown (s.peers.entries.filter fun p => lendsFlow p && decide (s.loader.image.position < p.position)) <;> rfl

/-- The flow status set is the same. -/
theorem StepAlike.setFlow : StepAlike (setFlow s) (setFlow x) ∧ (setFlow x).peers.flow = (setFlow s).peers.flow ∧
    (setFlow x).peers.ownInput = (setFlow s).peers.ownInput := by
  have flow := h.adoptedFlow
  obtain ⟨loader, station, chans, wall, amb, iEff, rests, debounced, entries⟩ := h
  unfold Machine.setFlow
  by_cases on : s.loader.image.flowEnabled = true
  · rw [if_pos on, if_pos (loader ▸ on)]
    exact ⟨⟨loader, station, chans, wall, amb, iEff, rests, debounced, entries⟩, debounced, rfl⟩
  · rw [if_neg on, if_neg (loader ▸ on)]
    exact ⟨⟨loader, station, chans, wall, amb, iEff, rests, debounced, entries⟩, flow, rfl⟩

theorem StepAlike.enabled (c : Chan) : x.enabled c = s.enabled c := by rw [State.enabled, State.enabled, h.loader]

theorem StepAlike.ownTemp (c : Chan) : x.ownTemp c = s.ownTemp c := by
  rw [State.ownTemp, State.ownTemp, h.enabled, h.wall]

theorem StepAlike.upExit : upExit x = upExit s := by
  have up := pick_unphased (better := nearerUp) (keep := fun p => decide (p.age = .fresh ∧ p.position < s.loader.image.position))
    (fun _ _ => rfl) (fun _ => rfl) s.peers.entries
  rw [Machine.upExit, Machine.upExit, upNeighbour, upNeighbour, h.loader, h.entries, up, Option.bind_map]
  rfl

theorem StepAlike.downEntry : downEntry x = downEntry s := by
  have down := pick_unphased (better := nearerDown) (keep := fun p => decide (p.age = .fresh ∧ s.loader.image.position < p.position))
    (fun _ _ => rfl) (fun _ => rfl) s.peers.entries
  rw [Machine.downEntry, Machine.downEntry, downNeighbour, downNeighbour, h.loader, h.entries, down, Option.bind_map]
  rfl

theorem StepAlike.substitute (c : Chan) : substitute x c = substitute s c := by
  cases c <;> simp only [Machine.substitute, middleSubstitute, h.ownTemp, h.upExit, h.downEntry]

theorem StepAlike.computed (flow : x.peers.flow = s.peers.flow) (c : Chan) : computed x c = computed s c := by
  have upstream : upstreamTemp x c = upstreamTemp s c := by
    cases c <;> simp only [upstreamTemp, channelBefore, h.ownTemp, h.upExit]
  funext st ramp t src target
  simp only [Machine.computed, rawDemand, flowTerm, flow, upstream, h.loader, h.chans]

theorem StepAlike.stepCalc (flow : x.peers.flow = s.peers.flow) (c : Chan) : stepCalc x c = stepCalc s c := by
  have duty : fallbackDuty x = fallbackDuty s := by simp only [fallbackDuty, State.ambTemp, h.loader, h.amb]
  have borrowed : borrowedStep x c = borrowedStep s c := by
    simp only [borrowedStep, h.substitute, h.computed flow, duty, h.chans, h.loader]
  have warm (t : Int) : warmupStep x c t = warmupStep s c t := by
    simp only [warmupStep, h.computed flow, h.chans, h.loader]
  have usable : ownUsable x c = ownUsable s c := by simp only [ownUsable, h.ownTemp, h.chans, h.wall]
  simp only [Machine.stepCalc, usable, h.ownTemp, h.chans, borrowed, warm, h.computed flow]

theorem StepAlike.shares (qs : Nat) : shareRecord x qs = shareRecord s qs ∧ idleRecord x = idleRecord s := by
  have heard : heardPeers x = (heardPeers s).map Peer.unphased := by
    have kept : onFeeder s.loader.image ∘ Peer.unphased = onFeeder s.loader.image := rfl
    rw [heardPeers, heardPeers, h.loader, h.entries, List.filter_map, kept]
  have unheard' : unheard x = unheard s := by rw [unheard, unheard, heard, h.loader, List.length_map]
  have demand (q : Nat) : feederDemand x q = feederDemand s q := by
    rw [feederDemand, feederDemand, heard, unheard', h.loader, List.map_map]
    rfl
  have weighted : weightedDemand x qs = weightedDemand s qs := by
    rw [weightedDemand, weightedDemand, heard, h.loader, List.map_map]
    rfl
  have which : shareCase x qs = shareCase s qs := by simp only [shareCase, demand, h.station, h.loader]
  have allowed : allowance x qs = allowance s qs := by
    simp only [allowance, which, weighted, leftCapacity, unheard', h.loader]
  refine ⟨?_, ?_⟩
  · simp only [shareRecord, demand, allowed, h.loader]
  · simp only [idleRecord, demand, h.loader]

/-- With the channels and the share set alike, so are the firing counts. -/
theorem StepAlike.firingOf (c : Chan) : (firingOf x c).h = (firingOf s c).h ∧ (firingOf x c).r = (firingOf s c).r := by
  simp only [Machine.firingOf, h.enabled, h.station, h.chans]
  split
  · simp only [h.rests, and_self]
  · exact ⟨rfl, rfl⟩

theorem StepAlike.setFiring (c : Chan) : ((setFiring x).burst.chans.get c).h = ((setFiring s).burst.chans.get c).h ∧
    ((setFiring x).burst.chans.get c).r = ((setFiring s).burst.chans.get c).r := by
  simpa [Machine.setFiring] using h.firingOf c

theorem StepAlike.withDemands (flow : x.peers.flow = s.peers.flow) : StepAlike (withDemands s) (withDemands x) :=
  ⟨h.loader, h.station, Four.ext_get fun c => by simp [Machine.withDemands, h.stepCalc flow, h.chans], h.wall, h.amb, h.iEff, h.rests,
    h.debounced, h.entries⟩

theorem StepAlike.withShares (xs : Chan → StepCalc) :
    StepAlike (withShares xs s) (withShares xs x) ∧ (withShares xs x).budget = (withShares xs s).budget := by
  have demand (d : Four Nat) : stationDemand x d = stationDemand s d := by
    simp only [stationDemand, h.enabled, h.chans, h.iEff]
  have budget : (Machine.withShares xs x).budget = (Machine.withShares xs s).budget := by
    simp only [Machine.withShares, demand, h.chans, (h.shares _).1]
  refine ⟨⟨h.loader, h.station, Four.ext_get fun c => ?_, h.wall, h.amb, h.iEff, h.rests, h.debounced, h.entries⟩, budget⟩
  simp only [Machine.withShares, Four.get_of, demand, h.chans, (h.shares _).1, h.loader]

/-- Two states that show a control step the same come to the same channels, share record, firing counts and flow status. -/
theorem StepAlike.controlStep : (controlStep x).chans = (controlStep s).chans ∧ (controlStep x).budget = (controlStep s).budget ∧
    (∀ c, ((controlStep x).burst.chans.get c).h = ((controlStep s).burst.chans.get c).h ∧
      ((controlStep x).burst.chans.get c).r = ((controlStep s).burst.chans.get c).r) ∧
    (controlStep x).peers.flow = (controlStep s).peers.flow ∧ (controlStep x).peers.ownInput = (controlStep s).peers.ownInput := by
  obtain ⟨alike, flow, own⟩ := h.setFlow
  rw [controlStep_peers, controlStep_peers]
  refine and_assoc.mp (and_assoc.mp ⟨?_, flow, own⟩)
  unfold Machine.controlStep
  dsimp only
  rw [alike.station]
  split
  · have shares := (alike.withDemands flow).withShares (Machine.stepCalc (Machine.setFlow s))
    have same : Machine.stepCalc (Machine.setFlow x) = Machine.stepCalc (Machine.setFlow s) := funext (alike.stepCalc flow)
    rw [firingStep_stages, firingStep_stages, same]
    exact ⟨⟨shares.1.chans, shares.2⟩, shares.1.setFiring⟩
  · have idle : StepAlike { Machine.setFlow s with
          chans := (Machine.setFlow s).chans.map fun ch => { ch with d := 0, ds := 0 }, budget := idleRecord (Machine.setFlow s) }
        { Machine.setFlow x with
          chans := (Machine.setFlow x).chans.map fun ch => { ch with d := 0, ds := 0 }, budget := idleRecord (Machine.setFlow x) } :=
      ⟨alike.loader, alike.station, by rw [alike.chans], alike.wall, alike.amb, alike.iEff, alike.rests, alike.debounced, alike.entries⟩
    exact ⟨⟨idle.chans, (alike.shares 0).2⟩, idle.setFiring⟩

end

end Sys2Proof.Machine
end

section
/-! A period end (used for O48): its stages, and what it does to the clock, the figures, the entries and the share record whatever else
the edge finds. -/

namespace Sys2Proof.Machine

/-- Detections of a list keep what each of them keeps. -/
theorem occurAll_of_mem (P : State → Prop) {ds : List Detection} (h : ∀ d ∈ ds, ∀ s, P s → P (occur d s)) {s : State} (hs : P s) :
    P (occurAll ds s) := by
  induction ds generalizing s with
  | nil => exact hs
  | cons d ds ih => exact ih (fun x hx => h x (List.mem_cons_of_mem d hx)) (h d (List.mem_cons_self ..) s hs)

/-! ## The stages -/

/-- The edge up to the readback checks, where they come first. -/
def beforeAlignment (e : EdgeIn) (s : State) : State :=
  if e.checksFirst then readbackChecks (startEdge e s) else startEdge e s

/-- The edge up to the closing and the control step. -/
def beforeClose (e : EdgeIn) (s : State) : State := applySlot (alignment (beforeAlignment e s))

/-- The edge up to the first half-cycle of the new period. -/
def periodBegun (e : EdgeIn) (s : State) : State := setIndex 0 (closeAndStep e.closeFirst (beforeClose e s))

/-- The edge up to the leak test. -/
def beforeLeakTest (e : EdgeIn) (s : State) : State :=
  if e.checksFirst then periodBegun e s else readbackChecks (periodBegun e s)

theorem takeEdge_stages (e : EdgeIn) {s : State} (h : atPeriodEnd s = true) :
    takeEdge e s = reportMoved s.station.state (settleOutputs (leakTestEdge (beforeLeakTest e s))) := by
  have work : periodWork e (startEdge e s) = beforeLeakTest e s := by
    unfold periodWork beforeLeakTest periodBegun beforeClose beforeAlignment endPeriod
    split <;> rfl
  rw [takeEdge, if_pos h, work]
  rfl

/-! ## What a stage leaves -/

theorem noteEdge_aside (hr : Four Bool) (s : State) : Aside s (noteEdge hr s) := .of_burst rfl rfl rfl fun _ _ => .inl

theorem endHalfCycle_aside (s : State) : Aside s (endHalfCycle s) :=
  ⟨⟨rfl, rfl, fun c => by simp [endHalfCycle, ChanMeas.figures, ChanMeas.dropHalf]⟩, fun _ _ => .inl, .inl rfl⟩

theorem countConfirm_aside (s : State) : Aside s (countConfirm s) := .of_same (by simp) (by simp) (by simp)

theorem stopWatch_aside (s : State) : Aside s (stopWatch s) := fault_aside s _

theorem watchAtEdge_aside (first : Bool) (s : State) : Aside s (watchAtEdge first s) := by
  unfold watchAtEdge decideWatch
  split
  · split
    · exact (stopWatch_aside s).trans (occur_aside ..)
    · exact stopWatch_aside s
  · exact .refl s

theorem startEdge_aside (e : EdgeIn) (s : State) : Aside s (startEdge e s) :=
  ((((noteEdge_aside e.hr s).trans (endHalfCycle_aside _)).trans (countConfirm_aside _)).trans (fault_aside _ _)).trans
    (watchAtEdge_aside ..)

/-- A state with its due checks ended. -/
def checksEnded (s : State) : State := { s with burst := { s.burst with chans := .of (checkedOutput s) } }

theorem checkedOutput_check {s : State} {c : Chan} {k : ReadbackCheck} (h : (checkedOutput s c).check = some k) :
    (s.burst.chans.get c).check = some k := by
  unfold checkedOutput at h
  split at h
  · cases h
  · exact h

theorem checksEnded_aside (s : State) : Aside s (checksEnded s) :=
  .of_burst rfl rfl rfl fun c _ h => .inl (checkedOutput_check (by simpa [checksEnded] using h))

theorem readbackChecks_aside (s : State) : Aside s (readbackChecks s) := (checksEnded_aside s).trans (occurAll_aside ..)

theorem controlStep_aside (s : State) : Aside s (controlStep s) :=
  .of_burst (by simp) (by simp) (controlStep_clock s).1 fun c _ h => .inl ((controlStep_burst s c).2.1 ▸ h)

/-- The measured period closed, before a detection is taken. -/
def periodClosed (s : State) : State := { s with meas := { s.meas with chans := .of (closedChan s) } }

theorem enabled_of {s t : State} (loader : t.loader = s.loader) (c : Chan) : t.enabled c = s.enabled c := by
  rw [State.enabled, State.enabled, loader]

theorem closeAndStep_aside (closeFirst : Bool) (s : State) : Aside (periodClosed s) (closeAndStep closeFirst s) := by
  unfold closeAndStep
  split
  · exact (occurAll_aside _ (periodClosed s)).trans (controlStep_aside _)
  · have step := controlStep_aside s
    have chan : closedChan (controlStep s) = closedChan s := funext fun c => by
      rw [closedChan, closedChan, enabled_of (s := s) (by simp)]
      simp
    have same : (periodClosed (controlStep s)).meas = (periodClosed s).meas := by simp [periodClosed, chan]
    have closed : Aside (periodClosed s) (periodClosed (controlStep s)) := .of_burst step.now same step.clock step.checks
    exact closed.trans (occurAll_aside _ _)

theorem leakTestEdge_stands (s : State) : Stands s (leakTestEdge s) := by
  have counted (n : LeakTest) : Stands s { s with meas := { s.meas with leakTest := n } } := ⟨rfl, rfl, fun _ => rfl⟩
  have ended : Aside s (endLeakTest s) := ⟨⟨rfl, rfl, fun _ => rfl⟩, fun _ _ => .inl, .inr rfl⟩
  unfold leakTestEdge
  split
  · exact (Aside.refl s).toStands
  · exact counted _
  · split
    · exact counted _
    · exact ((ended.trans (completeDeferred_aside ..)).trans (occur_aside _ _)).toStands

theorem settleOutputs_stands (s : State) : Stands s (settleOutputs s) :=
  ⟨rfl, rfl, fun c => by simp [settleOutputs, ChanMeas.figures, ChanMeas.tell]⟩

theorem reportMoved_stands (before : StationState) (s : State) : Stands s (reportMoved before s) :=
  (Aside.of_same (by simp) (by simp) (by simp)).toStands

/-! ## The half-cycles counted on -/

/-- A HALT-class occurrence moves no output at a period start: the counts of half-cycles stand. -/
theorem occurHalt_onHalves (d : Detection) (cause : HaltCause) (s : State) (c : Chan) :
    ((occurHalt d cause s).meas.chans.get c).onHalves = (s.meas.chans.get c).onHalves := by
  have aborted (t : State) : (abortLeakTest t).meas.chans = t.meas.chans := by
    unfold abortLeakTest
    split <;> simp [endLeakTest]
  have entered (t : State) : (enterHalting t).meas.chans = t.meas.chans := by
    simp [enterHalting_eq, aborted, haltingBlocks, stopAllFiring]
  have begun (t : State) : ((beginHalt cause t).meas.chans.get c).onHalves = (t.meas.chans.get c).onHalves := by
    simp [beginHalt, outputsOff, setContactor]
  unfold occurHalt
  split
  · simp
  · dsimp only
    split
    · simp [entered, begun, State.addCond]
    · simp [State.addCond]
    · simp [State.addCond]

theorem beforeAlignment_onHalves (e : EdgeIn) (s : State) (c : Chan) :
    ((beforeAlignment e s).meas.chans.get c).onHalves = (s.meas.chans.get c).onHalves := by
  have started : ((startEdge e s).meas.chans.get c).onHalves = (s.meas.chans.get c).onHalves := by
    have counted : ((countWatch (countConfirm (endHalfCycle (noteEdge e.hr s)))).meas.chans.get c).onHalves =
        (s.meas.chans.get c).onHalves := by simp [endHalfCycle, ChanMeas.dropHalf]
    rw [← counted, startEdge, watchAtEdge]
    split
    · unfold decideWatch
      split
      · exact (occurHalt_onHalves ..).trans (by simp)
      · simp
    · rfl
  unfold beforeAlignment
  split
  · rw [← started]
    refine occurAll_of_mem (fun t => (t.meas.chans.get c).onHalves = ((startEdge e s).meas.chans.get c).onHalves) ?_ rfl
    rintro d hd t ht
    obtain ⟨x, -, rfl⟩ := List.mem_map.mp hd
    exact (occurHalt_onHalves ..).trans ht
  · exact started

/-! ## The clock and the figures -/

theorem beforeAlignment_aside (e : EdgeIn) (s : State) : Aside s (beforeAlignment e s) := by
  unfold beforeAlignment
  split
  · exact (startEdge_aside e s).trans (readbackChecks_aside _)
  · exact startEdge_aside e s

theorem applySlot_burst (s : State) :
    (applySlot s).burst = { s.burst with slot := s.burst.pendingSlot.getD s.burst.slot, pendingSlot := none } := by
  unfold applySlot
  cases h : s.burst.pendingSlot with
  | none =>
    have plain : s.burst = { s.burst with pendingSlot := none } := by rw [← h]
    exact plain
  | some n => rfl

theorem beforeClose_burst (e : EdgeIn) (s : State) : (beforeClose e s).burst = { (beforeAlignment e s).burst with
    len := alignedLength s.loader.image s.peers.entries,
    slot := (beforeAlignment e s).burst.pendingSlot.getD (beforeAlignment e s).burst.slot, pendingSlot := none } := by
  have frame : (beforeAlignment e s).loader = s.loader ∧ (beforeAlignment e s).peers = s.peers := by
    unfold beforeAlignment
    split <;> simp
  rw [beforeClose, applySlot_burst]
  simp [alignment, frame]

theorem beforeClose_meas (e : EdgeIn) (s : State) : (beforeClose e s).meas = (beforeAlignment e s).meas := by simp [beforeClose]

/-- The closing reads the figures and the half-cycles counted on, and leaves the rest as it is. -/
theorem ChanMeas.close_figures {m n : ChanMeas} (figures : m.figures = n.figures) (halves : m.onHalves = n.onHalves) (iNom : Nat) :
    (m.close iNom).figures = (n.close iNom).figures := by
  cases m
  cases n
  simp only [ChanMeas.figures, ChanMeas.mk.injEq] at figures halves
  grind [ChanMeas.close, ChanMeas.figures, ChanMeas.meanCurrent, ChanMeas.openDue, ChanMeas.stuckDue, ChanMeas.openAfter,
    ChanMeas.stuckAfter]

/-- What the closing of the edge makes of a channel's record is what it makes of the record before the edge. -/
theorem beforeClose_figures (e : EdgeIn) (s : State) (c : Chan) :
    (closedChan (beforeClose e s) c).figures = (closedChan s c).figures := by
  have figures := (beforeAlignment_aside e s).figures c
  have frame : (beforeClose e s).loader = s.loader := by
    unfold beforeClose beforeAlignment
    split <;> simp
  rw [closedChan, closedChan, enabled_of frame, frame, beforeClose_meas]
  split
  · exact ChanMeas.close_figures figures (beforeAlignment_onHalves e s c) _
  · exact figures

section
variable (e : EdgeIn) (s : State)

theorem beforeLeakTest_aside : Aside (periodBegun e s) (beforeLeakTest e s) := by
  unfold beforeLeakTest
  split
  · exact .refl _
  · exact readbackChecks_aside _

/-- The period that the edge begins: index 0, the length of the alignment step, a pending slot in force (R111). -/
theorem periodBegun_clock : (periodBegun e s).now = s.now ∧ (periodBegun e s).burst.clock =
    (s.burst.period, some 0, alignedLength s.loader.image s.peers.entries, s.burst.pendingSlot.getD s.burst.slot, none) := by
  have before := beforeAlignment_aside e s
  have closed := closeAndStep_aside e.closeFirst (beforeClose e s)
  have now : (beforeClose e s).now = s.now := by simpa [beforeClose] using before.now
  have clock := closed.clock
  have start := before.clock
  simp only [Burst.clock, Prod.mk.injEq] at start clock ⊢
  obtain ⟨period, idx, len, slot, pending⟩ := start
  obtain ⟨period', idx', len', slot', pending'⟩ := clock
  refine ⟨closed.now.trans now, ?_, rfl, ?_, ?_, ?_⟩
  · exact period'.trans ((congrArg Burst.period (beforeClose_burst e s)).trans period)
  · exact len'.trans (congrArg Burst.len (beforeClose_burst e s))
  · exact slot'.trans ((congrArg Burst.slot (beforeClose_burst e s)).trans (by rw [slot, pending]))
  · exact pending'.trans (congrArg Burst.pendingSlot (beforeClose_burst e s))

/-- The edge from the period begun to its end: the clock and the figures stand. -/
theorem takeEdge_stands (h : atPeriodEnd s = true) : Stands (periodBegun e s) (takeEdge e s) := by
  rw [takeEdge_stages e h]
  exact (((beforeLeakTest_aside e s).toStands.trans (leakTestEdge_stands _)).trans (settleOutputs_stands _)).trans
    (reportMoved_stands ..)

/-- The figures after a period end: every enabled channel's period is closed (R102). -/
theorem takeEdge_figures (h : atPeriodEnd s = true) (c : Chan) :
    ((takeEdge e s).meas.chans.get c).figures = (closedChan s c).figures := by
  rw [(takeEdge_stands e s h).figures c, ← beforeClose_figures e s c]
  exact ((closeAndStep_aside e.closeFirst (beforeClose e s)).figures c).trans (by simp [periodClosed])

/-! ## The share record, the entries and the flow status -/

theorem takeEdge_budget (h : atPeriodEnd s = true) : (takeEdge e s).budget = (closeAndStep e.closeFirst (beforeClose e s)).budget := by
  have checked : (beforeLeakTest e s).budget = (periodBegun e s).budget := by
    unfold beforeLeakTest
    split <;> simp
  rw [takeEdge_stages e h]
  simp [checked, periodBegun]

theorem takeEdge_peers (h : atPeriodEnd s = true) : (takeEdge e s).peers = (closeAndStep e.closeFirst (beforeClose e s)).peers := by
  have checked : (beforeLeakTest e s).peers = (periodBegun e s).peers := by
    unfold beforeLeakTest
    split <;> simp
  rw [takeEdge_stages e h]
  simp [checked, periodBegun]

/-- Q_s is formed by the control step, and U of the configuration (R128). -/
theorem closeAndStep_u (closeFirst : Bool) : (closeAndStep closeFirst s).budget.u = usable s.loader.image := by
  unfold closeAndStep
  split <;> simp [controlStep_u]

/-- The flow status is set from the entries and the image alone (R81). -/
theorem setFlow_peers {x y : State} (peers : x.peers = y.peers) (loader : x.loader = y.loader) :
    (setFlow x).peers = (setFlow y).peers := by
  unfold setFlow adoptedFlow
  rw [peers, loader]
  split <;> rfl

/-- The entries a control step sees after the alignment: no phase difference is left (R83, R119). -/
theorem closeAndStep_peers (closeFirst : Bool) : (closeAndStep closeFirst s).peers = (setFlow s).peers := by
  unfold closeAndStep
  split
  · exact (controlStep_peers _).trans (setFlow_peers (by simp) (by simp))
  · simp [controlStep_peers]

/-- A state with no phase difference recorded. -/
def unphased (s : State) : State := { s with peers := { s.peers with entries := s.peers.entries.map Peer.unphased } }

theorem stepAlike_unphased : StepAlike s (unphased s) := ⟨rfl, rfl, rfl, rfl, rfl, fun _ => rfl, fun _ => rfl, rfl, rfl⟩

theorem beforeClose_frame : (beforeClose e s).now = s.now ∧ (beforeClose e s).loader = s.loader ∧
    (beforeClose e s).peers = (unphased s).peers ∧ (beforeClose e s).budget = s.budget := by
  have frame : (beforeAlignment e s).now = s.now ∧ (beforeAlignment e s).loader = s.loader ∧
      (beforeAlignment e s).peers = s.peers ∧ (beforeAlignment e s).budget = s.budget := by
    unfold beforeAlignment
    split <;> simp
  obtain ⟨now, loader, peers, budget⟩ := frame
  refine ⟨by simp [beforeClose, now], by simp [beforeClose, loader], ?_, by simp [beforeClose, budget]⟩
  simp [beforeClose, alignment, clearPhases, unphased, peers, Peer.unphased]

/-- The flow status after a period end is that of a control step before it; the phase differences are gone (R81, R83). -/
theorem takeEdge_flow (h : atPeriodEnd s = true) :
    (takeEdge e s).peers.entries = s.peers.entries.map Peer.unphased ∧
    (takeEdge e s).peers.flow = (controlStep s).peers.flow ∧
    (takeEdge e s).peers.ownInput = (controlStep s).peers.ownInput := by
  obtain ⟨-, loader, peers, -⟩ := beforeClose_frame e s
  obtain ⟨alike, flow, own⟩ := (stepAlike_unphased s).setFlow
  rw [takeEdge_peers e s h, closeAndStep_peers, setFlow_peers peers loader, controlStep_peers]
  refine ⟨?_, flow, own⟩
  unfold setFlow
  split <;> rfl

end

end Sys2Proof.Machine
end

section
/-! What a period end does whatever it detects (used for O48), clause by clause. -/

namespace Sys2Proof.Machine

/-! ## The length of the next period (R119) -/

/-- The largest number of a property, none where there is none. -/
def Largest (P : Nat → Prop) : Option Nat → Prop
  | none => ∀ d, ¬P d
  | some x => P x ∧ ∀ d, P d → d ≤ x

/-- An entry's phase difference as the alignment step counts it. -/
def Peer.ahead (img : Image) (p : Peer) (d : Nat) : Prop := p.feeder = img.feeder ∧ p.delta = some d ∧ 2 ≤ d ∧ d ≤ 31

/-- One entry of the fold over the entries. -/
def takeDelta (img : Image) (m : Option Nat) (p : Peer) : Option Nat :=
  match p.delta with
  | some d => if onFeeder img p && decide (2 ≤ d ∧ d ≤ 31) then some (max (m.getD 0) d) else m
  | none => m

theorem deltaMax_eq (img : Image) (l : List Peer) : deltaMax img l = l.foldl (takeDelta img) none := rfl

theorem Largest.congr {P Q : Nat → Prop} (h : ∀ d, P d ↔ Q d) {m : Option Nat} (l : Largest P m) : Largest Q m := by
  have same : P = Q := funext fun d => propext (h d)
  exact same ▸ l

theorem Largest.max {P : Nat → Prop} {m : Option Nat} (l : Largest P m) (x : Nat) :
    Largest (fun d => P d ∨ d = x) (some (max (m.getD 0) x)) := by
  cases m with
  | none => exact ⟨.inr (by simp), fun d hd => by rcases hd with hd | rfl; exacts [absurd hd (l d), by simp]⟩
  | some y =>
    obtain ⟨hy, most⟩ := l
    refine ⟨?_, fun d hd => ?_⟩
    · rcases Nat.le_total x y with h | h
      · exact .inl (by simpa [Nat.max_eq_left h] using hy)
      · exact .inr (by simp [Nat.max_eq_right h])
    · rcases hd with hd | rfl
      · exact (most d hd).trans (by simp)
      · simp

theorem takeDelta_largest {img : Image} {P : Nat → Prop} {m : Option Nat} (l : Largest P m) (p : Peer) :
    Largest (fun d => P d ∨ p.ahead img d) (takeDelta img m p) := by
  unfold takeDelta
  split
  next x hx =>
    split
    next counted =>
      refine (l.max x).congr fun d => or_congr_right ⟨?_, fun h => ?_⟩
      · rintro rfl
        simp only [onFeeder, Bool.and_eq_true, decide_eq_true_eq] at counted
        exact ⟨counted.1, hx, counted.2⟩
      · exact Option.some.inj (h.2.1.symm.trans hx)
    next other =>
      refine l.congr fun d => ⟨.inl, fun h => h.elim id fun a => absurd ?_ other⟩
      obtain ⟨feeder, delta, lo, hi⟩ := a
      cases delta.symm.trans hx
      simp [onFeeder, feeder, lo, hi]
  next hx => exact l.congr fun d => ⟨.inl, fun h => h.elim id fun a => absurd (a.2.1.symm.trans hx) (by simp)⟩

theorem deltaMax_largest (img : Image) (l : List Peer) : Largest (fun d => ∃ p ∈ l, p.ahead img d) (deltaMax img l) := by
  have fold : ∀ (l : List Peer) (P : Nat → Prop) (m : Option Nat), Largest P m →
      Largest (fun d => P d ∨ ∃ p ∈ l, p.ahead img d) (l.foldl (takeDelta img) m) := by
    intro l
    induction l with
    | nil => exact fun P m h => h.congr fun d => by simp
    | cons p ps ih =>
      exact fun P m h => (ih _ _ (takeDelta_largest h p)).congr fun d => by simp [or_assoc]
  rw [deltaMax_eq]
  exact (fold l (fun _ => False) none fun _ => id).congr fun d => by simp

theorem alignedLength_none {img : Image} {l : List Peer} (h : ∀ p d, ¬(p ∈ l ∧ p.ahead img d)) : alignedLength img l = 64 := by
  have largest := deltaMax_largest img l
  unfold alignedLength
  cases e : deltaMax img l with
  | none => rfl
  | some x =>
    rw [e] at largest
    obtain ⟨p, hp⟩ := largest.1
    exact absurd hp (h p x)

theorem alignedLength_most {img : Image} {l : List Peer} {p : Peer} {d : Nat} (hp : p ∈ l ∧ p.ahead img d)
    (most : ∀ q f, q ∈ l ∧ q.ahead img f → f ≤ d) : alignedLength img l = 64 - min d 4 := by
  have largest := deltaMax_largest img l
  unfold alignedLength
  cases e : deltaMax img l with
  | none =>
    rw [e] at largest
    exact absurd ⟨p, hp⟩ (largest d)
  | some x =>
    rw [e] at largest
    obtain ⟨⟨q, hq⟩, above⟩ := largest
    rw [Nat.le_antisymm (most q x hq) (above d ⟨p, hp⟩)]

/-! ## The figures of a channel (R102, R104, R105) -/

section
variable (m : ChanMeas) (iNom : Nat)

theorem ChanMeas.close_iEff : (8 ≤ m.onCount → (m.close iNom).iEff = max 1 (min 1000 m.meanCurrent)) ∧
    (m.onCount < 8 → (m.close iNom).iEff = m.iEff) := by
  refine ⟨fun h => ?_, fun h => ?_⟩
  · simp only [ChanMeas.close, h, if_true, clampNat]
    split <;> (try split) <;> omega
  · simp only [ChanMeas.close, if_neg (Nat.not_le.mpr h)]

/-- The open-heater count where its third period is not reached, and where the current flows (R104). -/
theorem ChanMeas.close_openCount (halves : 8 ≤ m.onHalves) (counted : 1 ≤ m.onCount) :
    (m.meanCurrent < iNom / 4 → m.openCount < 2 → (m.close iNom).openCount = m.openCount + 1) ∧
    (iNom / 4 ≤ m.meanCurrent → (m.close iNom).openCount = 0) ∧
    (m.meanCurrent < iNom / 4 → 2 ≤ m.openCount → (m.close iNom).openCount = 0) := by
  refine ⟨fun low few => ?_, fun flows => ?_, fun low third => ?_⟩
  · simp [ChanMeas.close, ChanMeas.openDue, ChanMeas.openAfter, halves, counted, low, Nat.not_le.mpr few]
  · simp [ChanMeas.close, ChanMeas.openAfter, halves, counted, Nat.not_lt.mpr flows]
  · simp [ChanMeas.close, ChanMeas.openDue, halves, counted, low, third]

/-- The stuck-switch count where its third period is not reached, where no current flows, and where it is (R105). -/
theorem ChanMeas.close_stuckCount (taken : m.offTaken = true) :
    (iNom / 8 < m.lastOff.getD 0 → m.stuckCount < 2 → (m.close iNom).stuckCount = m.stuckCount + 1) ∧
    (m.lastOff.getD 0 ≤ iNom / 8 → (m.close iNom).stuckCount = 0) ∧
    (iNom / 8 < m.lastOff.getD 0 → 2 ≤ m.stuckCount → (m.close iNom).stuckCount = 0) := by
  refine ⟨fun flows few => ?_, fun off => ?_, fun flows third => ?_⟩
  · simp [ChanMeas.close, ChanMeas.stuckDue, ChanMeas.stuckAfter, taken, flows, Nat.not_le.mpr few]
  · simp [ChanMeas.close, ChanMeas.stuckAfter, taken, Nat.not_lt.mpr off]
  · simp [ChanMeas.close, ChanMeas.stuckDue, taken, flows, third]

end

/-- What the figures show of a channel. -/
theorem ChanMeas.of_figures {m n : ChanMeas} (h : m.figures = n.figures) : m.iMeas = n.iMeas ∧ m.iEff = n.iEff ∧ m.onSum = n.onSum ∧
    m.onCount = n.onCount ∧ m.offAsked = n.offAsked ∧ m.offTaken = n.offTaken ∧ m.openCount = n.openCount ∧
    m.stuckCount = n.stuckCount := by
  simp only [ChanMeas.figures, ChanMeas.mk.injEq] at h
  grind

/-- An enabled channel's record after a period end is the closed one. -/
theorem takeEdge_closed (e : EdgeIn) {s : State} (h : atPeriodEnd s = true) {c : Chan} (enabled : s.enabled c = true) :
    ((takeEdge e s).meas.chans.get c).figures = ((s.meas.chans.get c).close (s.loader.image.iNom.get c)).figures := by
  rw [takeEdge_figures e s h c, closedChan, if_pos enabled]

/-- The mid-point of the half-cycle that begins is set, and the comparator is sampled in it (R100, R108). -/
theorem takeEdge_midpoint (e : EdgeIn) {s : State} (h : atPeriodEnd s = true) :
    (takeEdge e s).meas.midpoint = some (s.now + midTime s.loader.image) ∧ (takeEdge e s).meas.leakPause = false := by
  have now := (takeEdge_frame e s).2.1
  have loader := (takeEdge_frame e s).2.2.1
  rw [takeEdge_stages e h] at now loader ⊢
  simp only [reportMoved_frame, settleOutputs_frame] at now loader
  exact ⟨by simp only [reportMoved_frame, settleOutputs, now, loader], by simp [settleOutputs]⟩

end Sys2Proof.Machine
end

section
/-! A period end with no occurrence of its own (used for O48): the leakage watch, the readback checks and the leak test find nothing, and
what is left is the closing of the period and the control step. -/

namespace Sys2Proof.Machine

/-- What the edge work beside the closing and the control step leaves, where it finds nothing. -/
structure Untouched (s t : State) : Prop where
  now : t.now = s.now
  loader : t.loader = s.loader
  station : t.station = s.station
  line : t.line = s.line
  cmd : t.cmd = s.cmd
  chans : t.chans = s.chans
  budget : t.budget = s.budget
  conds : t.fault.conds = s.fault.conds
  queue : t.fault.queue = s.fault.queue
  locks : t.fault.locks = s.fault.locks
  tripCause : t.fault.tripCause = s.fault.tripCause
  record : t.halt.record = s.halt.record
  proc : t.halt.proc = s.halt.proc
  wall : t.meas.wall = s.meas.wall
  amb : t.meas.amb = s.meas.amb
  period : t.burst.period = s.burst.period
  contactor : t.burst.contactor = s.burst.contactor
  fires : ∀ c, (t.burst.chans.get c).h = (s.burst.chans.get c).h ∧ (t.burst.chans.get c).r = (s.burst.chans.get c).r

theorem Untouched.refl (s : State) : Untouched s s := by
  constructor <;> intros <;> simp

theorem Untouched.trans {s t u : State} (a : Untouched s t) (b : Untouched t u) : Untouched s u :=
  ⟨b.now.trans a.now, b.loader.trans a.loader, b.station.trans a.station, b.line.trans a.line, b.cmd.trans a.cmd,
    b.chans.trans a.chans, b.budget.trans a.budget, b.conds.trans a.conds, b.queue.trans a.queue, b.locks.trans a.locks,
    b.tripCause.trans a.tripCause, b.record.trans a.record, b.proc.trans a.proc, b.wall.trans a.wall, b.amb.trans a.amb,
    b.period.trans a.period, b.contactor.trans a.contactor,
    fun c => ⟨(b.fires c).1.trans (a.fires c).1, (b.fires c).2.trans (a.fires c).2⟩⟩

/-- The edge finds no readback that differs, no leakage that persists, and no leak test to fail. -/
structure QuietEdge (e : EdgeIn) (s : State) : Prop where
  checks : ∀ c k, (s.burst.chans.get c).check = some k → checkDue s.loader.image s.now k = true → e.hr.get c = k.level
  watch : e.watchFirst = true → s.meas.leakPresent = true → ∀ n, s.fault.watch = some n → n < 9
  leakTest : ∀ n, s.meas.leakTest = .driving n → n < 8

/-! ## The stages -/

/-- A check armed at this moment is not due yet (R118). -/
theorem checkDue_new {img : Image} {now : Nat} {k : ReadbackCheck} (new : k.since = now) : checkDue img now k = false := by
  simp only [checkDue, new, Nat.sub_self, Nat.mul_zero, halfCycle, decide_eq_false_iff_not]
  split <;> omega

theorem readbackChecks_quiet {s : State} (agree : ∀ c k, (s.burst.chans.get c).check = some k →
    checkDue s.loader.image s.now k = true → s.pins.hr.get c = k.level) : readbackChecks s = checksEnded s := by
  have none : (Chan.list.filter fun c => readbackDue s c && readbackDiffers s c) = [] := by
    refine List.filter_eq_nil_iff.mpr fun c _ => ?_
    unfold readbackDue readbackDiffers
    cases h : (s.burst.chans.get c).check with
    | none => simp
    | some k => simpa using agree c k h
  unfold readbackChecks
  dsimp only
  rw [none]
  rfl

theorem checksEnded_untouched (s : State) : Untouched s (checksEnded s) := by
  have kept (c : Chan) : (checkedOutput s c).h = (s.burst.chans.get c).h ∧ (checkedOutput s c).r = (s.burst.chans.get c).r := by
    unfold checkedOutput
    split <;> exact ⟨rfl, rfl⟩
  exact ⟨rfl, rfl, rfl, rfl, rfl, rfl, rfl, rfl, rfl, rfl, rfl, rfl, rfl, rfl, rfl, rfl, rfl, fun c => by simpa [checksEnded] using kept c⟩

/-- The readbacks the edge shows. -/
theorem startEdge_pins (e : EdgeIn) (s : State) : (startEdge e s).pins = { s.pins with hr := e.hr } := by
  simp [startEdge, noteEdge]

/-- The half-cycles counted, before the watch decides. -/
def edgeCounted (e : EdgeIn) (s : State) : State := countWatch (countConfirm (endHalfCycle (noteEdge e.hr s)))

theorem edgeCounted_untouched (e : EdgeIn) (s : State) : Untouched s (edgeCounted e s) := by
  have confirm (t : State) : (countConfirm t).halt.record = t.halt.record ∧ (countConfirm t).halt.proc = t.halt.proc := by
    unfold countConfirm
    split <;> simp
  constructor <;> intros <;> simp [edgeCounted, confirm, countWatch, endHalfCycle, noteEdge]

theorem stopWatch_untouched (s : State) : Untouched s (stopWatch s) :=
  ⟨rfl, rfl, rfl, rfl, rfl, rfl, rfl, rfl, rfl, rfl, rfl, rfl, rfl, rfl, rfl, rfl, rfl, fun _ => ⟨rfl, rfl⟩⟩

section
variable {e : EdgeIn} {s : State} (q : QuietEdge e s)
include q

theorem startEdge_untouched : Untouched s (startEdge e s) := by
  have counted := edgeCounted_untouched e s
  have leak : (edgeCounted e s).meas.leakPresent = s.meas.leakPresent := by simp [edgeCounted, endHalfCycle]
  have watch : (edgeCounted e s).fault.watch = s.fault.watch.map fun n => min (n + 1) 10 := by
    simp [edgeCounted, countWatch]
  change Untouched s (watchAtEdge e.watchFirst (edgeCounted e s))
  unfold watchAtEdge
  split
  next due =>
    obtain ⟨first, ten⟩ := Bool.and_eq_true_iff.mp due
    have absent : s.meas.leakPresent = false := by
      refine Bool.eq_false_iff.mpr fun present => ?_
      obtain ⟨n, hn, hten⟩ := Option.map_eq_some_iff.mp (watch ▸ of_decide_eq_true ten)
      have := q.watch first present n hn
      omega
    rw [decideWatch, leak, absent, if_neg Bool.false_ne_true]
    exact counted.trans (stopWatch_untouched _)
  next => exact counted

theorem beforeAlignment_untouched : Untouched s (beforeAlignment e s) := by
  have start := startEdge_untouched q
  unfold beforeAlignment
  split
  · rw [readbackChecks_quiet]
    · exact start.trans (checksEnded_untouched _)
    · intro c k h due
      rw [start.loader, start.now] at due
      rw [startEdge_pins]
      rcases (startEdge_aside e s).checks c k h with old | new
      · exact q.checks c k old due
      · cases (checkDue_new new).symm.trans due
  · exact start

theorem beforeClose_untouched : Untouched s (beforeClose e s) := by
  have start := beforeAlignment_untouched q
  refine start.trans ?_
  have burst := beforeClose_burst e s
  constructor
  case period => rw [burst]
  case contactor => rw [burst]
  case fires => exact fun c => by simp [burst]
  all_goals simp [beforeClose]

end

/-! ## After the period is begun -/

/-- The checks and the leak test found at the new period are those before the edge, or the checks are of this moment. -/
theorem periodBegun_old (e : EdgeIn) (s : State) :
    (∀ c k, ((periodBegun e s).burst.chans.get c).check = some k → (s.burst.chans.get c).check = some k ∨ k.since = s.now) ∧
    ((periodBegun e s).meas.leakTest = s.meas.leakTest ∨ (periodBegun e s).meas.leakTest = .idle) := by
  have before := beforeAlignment_aside e s
  have closed := closeAndStep_aside e.closeFirst (beforeClose e s)
  refine ⟨fun c k h => ?_, ?_⟩
  · rcases closed.checks c k h with old | new
    · refine before.checks c k ?_
      rwa [show (periodClosed (beforeClose e s)).burst = (beforeClose e s).burst from rfl, beforeClose_burst] at old
    · exact .inr (new.trans (beforeClose_frame e s).1)
  · refine closed.leakTest.elim (fun h => ?_) .inr
    have same : (periodClosed (beforeClose e s)).meas.leakTest = (beforeAlignment e s).meas.leakTest := by
      rw [← beforeClose_meas]
      rfl
    exact before.leakTest.imp (h.trans same).trans (h.trans same).trans

theorem leakTestEdge_counted {s : State} (h : ∀ n, s.meas.leakTest = .driving n → n < 8) :
    ∃ l, leakTestEdge s = { s with meas := { s.meas with leakTest := l } } := by
  unfold leakTestEdge
  split
  · exact ⟨s.meas.leakTest, rfl⟩
  · exact ⟨_, rfl⟩
  next n hn => exact ⟨_, by rw [if_pos (h n hn)]⟩

theorem ChanBurst.drive_fires (b : ChanBurst) (now : Nat) (level : Bool) :
    (b.drive now level).h = b.h ∧ (b.drive now level).r = b.r := by
  unfold ChanBurst.drive
  split <;> exact ⟨rfl, rfl⟩

theorem settleOutputs_untouched (s : State) : Untouched s (settleOutputs s) := by
  constructor
  case fires => exact fun c => by simpa [settleOutputs, settledOutput] using ChanBurst.drive_fires _ s.now (outputDue s c)
  case wall | amb | period | contactor => rfl
  all_goals simp

section
variable {e : EdgeIn} {s : State} (q : QuietEdge e s)
include q

theorem beforeLeakTest_untouched : Untouched (periodBegun e s) (beforeLeakTest e s) := by
  obtain ⟨now, -⟩ := periodBegun_clock e s
  have frame : (periodBegun e s).loader = s.loader ∧ (periodBegun e s).pins = { s.pins with hr := e.hr } := by
    have pins : (beforeAlignment e s).pins = { s.pins with hr := e.hr } := by
      unfold beforeAlignment
      split <;> simp [startEdge_pins]
    simp [periodBegun, (beforeClose_frame e s).2.1]
    simp [beforeClose, pins]
  unfold beforeLeakTest
  split
  · exact .refl _
  · rw [readbackChecks_quiet]
    · exact checksEnded_untouched _
    · intro c k h due
      rw [frame.1, now] at due
      rw [frame.2]
      rcases (periodBegun_old e s).1 c k h with old | new
      · exact q.checks c k old due
      · cases (checkDue_new new).symm.trans due

/-- A quiet edge after the closing and the control step: nothing but the outputs of the first half-cycle, and the report instant. -/
theorem takeEdge_quiet (h : atPeriodEnd s = true) : ∃ o, takeEdge e s = reportMoved s.station.state o ∧
    Untouched (periodBegun e s) o ∧
    ∀ c, (periodBegun e s).station.state.fires = false ∨ ((periodBegun e s).chans.get c).state.fires = false →
      o.heaterPin c = false := by
  have start := beforeLeakTest_untouched q
  have few : ∀ n, (beforeLeakTest e s).meas.leakTest = .driving n → n < 8 := by
    intro n hn
    rcases (beforeLeakTest_aside e s).leakTest with same | idle
    · rcases (periodBegun_old e s).2 with old | idle
      · exact q.leakTest n (old.symm.trans (same.symm.trans hn))
      · cases hn.symm.trans (same.trans idle)
    · cases hn.symm.trans idle
  obtain ⟨l, counted⟩ := leakTestEdge_counted few
  have leak : Untouched (beforeLeakTest e s) (leakTestEdge (beforeLeakTest e s)) := by
    rw [counted]
    exact ⟨rfl, rfl, rfl, rfl, rfl, rfl, rfl, rfl, rfl, rfl, rfl, rfl, rfl, rfl, rfl, rfl, rfl, fun _ => ⟨rfl, rfl⟩⟩
  have all := start.trans leak
  refine ⟨_, takeEdge_stages e h, all.trans (settleOutputs_untouched _), fun c off => ?_⟩
  have due : outputDue (leakTestEdge (beforeLeakTest e s)) c = false := by
    rw [← all.station, ← all.chans] at off
    unfold outputDue
    split
    · rcases off with off | off <;> simp [off]
    · rfl
  simpa [settleOutputs, settledOutput, State.heaterPin, due] using ChanBurst.drive_out _ _ false

end

end Sys2Proof.Machine
end

section
/-! The detections of a period end, and a period end that makes none (used for O48). -/

namespace Sys2Proof.Machine

/-! ## The detections -/

/-- The detections that the closing of the period makes. -/
def closeDetections (s : State) : List Detection :=
  s.enabledList.flatMap fun c => (s.meas.chans.get c).closeFaults (s.loader.image.iNom.get c) c

theorem closePeriod_eq (s : State) : closePeriod s = occurAll (closeDetections s) (periodClosed s) := rfl

/-- A channel's heater is found open at the period end (R104). -/
def opensAt (s : State) (c : Chan) : Prop :=
  s.enabled c = true ∧ (s.meas.chans.get c).openDue (s.loader.image.iNom.get c) = true

/-- A channel's switch is found stuck at the period end (R105). -/
def sticksAt (s : State) (c : Chan) : Prop :=
  s.enabled c = true ∧ (s.meas.chans.get c).stuckDue (s.loader.image.iNom.get c) = true

theorem ChanMeas.closeFaults_figures {m n : ChanMeas} (figures : m.figures = n.figures) (halves : m.onHalves = n.onHalves) (iNom : Nat)
    (c : Chan) : m.closeFaults iNom c = n.closeFaults iNom c := by
  cases m
  cases n
  simp only [ChanMeas.figures, ChanMeas.mk.injEq] at figures halves
  grind [ChanMeas.closeFaults, ChanMeas.meanCurrent, ChanMeas.openDue, ChanMeas.stuckDue]

theorem closeDetections_of {s t : State} (loader : t.loader = s.loader)
    (figures : ∀ c, (t.meas.chans.get c).figures = (s.meas.chans.get c).figures)
    (halves : ∀ c, (t.meas.chans.get c).onHalves = (s.meas.chans.get c).onHalves) : closeDetections t = closeDetections s := by
  have enabled : t.enabledList = s.enabledList := by
    rw [State.enabledList, State.enabledList, show t.enabled = s.enabled from funext (enabled_of loader)]
  unfold closeDetections
  rw [enabled, loader]
  exact congrArg (List.flatMap · _) (funext fun c => ChanMeas.closeFaults_figures (figures c) (halves c) _ c)

/-- The edge makes the detections of the figures it finds. -/
theorem beforeClose_detections (e : EdgeIn) (s : State) : closeDetections (beforeClose e s) = closeDetections s :=
  closeDetections_of (beforeClose_frame e s).2.1 (fun c => beforeClose_meas e s ▸ (beforeAlignment_aside e s).figures c)
    fun c => beforeClose_meas e s ▸ beforeAlignment_onHalves e s c

theorem controlStep_detections (s : State) : closeDetections (controlStep s) = closeDetections s :=
  closeDetections_of (by simp) (by simp) (by simp)

theorem mem_closeDetections {s : State} {d : Detection} (h : d ∈ closeDetections s) :
    ∃ c v, (opensAt s c ∧ d = ⟨.heaterOpen, some c, v⟩) ∨ (sticksAt s c ∧ d = ⟨.switchStuck, some c, v⟩) := by
  obtain ⟨c, hc, hd⟩ := List.mem_flatMap.mp h
  have enabled : s.enabled c = true := (List.mem_filter.mp hc).2
  simp only [ChanMeas.closeFaults, List.mem_append, List.mem_ite_nil_right, List.mem_singleton] at hd
  rcases hd with ⟨due, rfl⟩ | ⟨due, rfl⟩
  · exact ⟨c, _, .inl ⟨⟨enabled, due⟩, rfl⟩⟩
  · exact ⟨c, _, .inr ⟨⟨enabled, due⟩, rfl⟩⟩

theorem closeDetections_nil {s : State} (opens : ∀ c, ¬opensAt s c) (sticks : ∀ c, ¬sticksAt s c) : closeDetections s = [] := by
  refine List.eq_nil_iff_forall_not_mem.mpr fun d hd => ?_
  obtain ⟨c, v, h | h⟩ := mem_closeDetections hd
  · exact opens c h.1
  · exact sticks c h.1

/-! ## No detection -/

/-- The closing and the control step with no detection between them. -/
theorem closeAndStep_nil {s : State} (none : closeDetections s = []) (closeFirst : Bool) : closeAndStep closeFirst s =
    if closeFirst then controlStep (periodClosed s) else periodClosed (controlStep s) := by
  have closed : closePeriod s = periodClosed s := by
    rw [closePeriod_eq, none]
    rfl
  have after : closePeriod (controlStep s) = periodClosed (controlStep s) := by
    rw [closePeriod_eq, controlStep_detections, none]
    rfl
  rw [closeAndStep, closed, after]

/-- A state with the currents learned at a period end. -/
def withLearned (s : State) (iEff : Chan → Nat) : State :=
  { s with meas := { s.meas with chans := .of fun c => { s.meas.chans.get c with iEff := iEff c } } }

section
variable {e : EdgeIn} {s : State} (q : QuietEdge e s)
include q

/-- What the control step of the edge is shown is what it would be shown before the edge. -/
theorem stepAlike_beforeClose : StepAlike s (beforeClose e s) := by
  have start := beforeClose_untouched q
  have peers := (beforeClose_frame e s).2.2.1
  refine ⟨start.loader, start.station, start.chans, start.wall, start.amb, fun c => ?_, fun c => (start.fires c).2, ?_, ?_⟩
  · rw [beforeClose_meas]
    exact (ChanMeas.of_figures ((beforeAlignment_aside e s).figures c)).2.1
  · rw [peers]
    rfl
  · rw [peers]
    rfl

/-- Where the closing comes first, it is shown the currents learned as well. -/
theorem stepAlike_periodClosed (h : atPeriodEnd s = true) :
    StepAlike (withLearned s fun c => ((takeEdge e s).meas.chans.get c).iEff) (periodClosed (beforeClose e s)) := by
  obtain ⟨loader, station, chans, wall, amb, -, rests, debounced, entries⟩ := stepAlike_beforeClose q
  refine ⟨loader, station, chans, wall, amb, fun c => ?_, rests, debounced, entries⟩
  have figures := (beforeClose_figures e s c).trans (takeEdge_figures e s h c).symm
  simpa [periodClosed, withLearned] using (ChanMeas.of_figures figures).2.1

/-- The new period of a quiet edge with no detection: the channels, the firing counts and the share record are those of a control
step before the edge, and nothing else has changed (R111, R114, R152). -/
theorem periodBegun_undetected (h : atPeriodEnd s = true) (none : closeDetections s = []) :
    let u := controlStep (if e.closeFirst = true then withLearned s fun c => ((takeEdge e s).meas.chans.get c).iEff else s)
    let p := periodBegun e s
    p.chans = u.chans ∧ p.budget = u.budget ∧ (∀ c, (p.burst.chans.get c).h = (u.burst.chans.get c).h ∧
      (p.burst.chans.get c).r = (u.burst.chans.get c).r) ∧
    p.station = s.station ∧ p.line = s.line ∧ p.cmd = s.cmd ∧ p.fault.conds = s.fault.conds ∧ p.fault.queue = s.fault.queue ∧
    p.fault.locks = s.fault.locks ∧ p.fault.tripCause = s.fault.tripCause ∧ p.halt.record = s.halt.record := by
  have start := beforeClose_untouched q
  have closing := closeAndStep_nil (beforeClose_detections e s |>.trans none) e.closeFirst
  dsimp only
  have begun : periodBegun e s = setIndex 0 (if e.closeFirst = true then controlStep (periodClosed (beforeClose e s))
      else periodClosed (controlStep (beforeClose e s))) := by rw [periodBegun, closing]
  rw [begun]
  have rest : (beforeClose e s).station = s.station ∧ (beforeClose e s).line = s.line ∧ (beforeClose e s).cmd = s.cmd ∧
      (beforeClose e s).fault.conds = s.fault.conds ∧ (beforeClose e s).fault.queue = s.fault.queue ∧
      (beforeClose e s).fault.locks = s.fault.locks ∧ (beforeClose e s).fault.tripCause = s.fault.tripCause ∧
      (beforeClose e s).halt.record = s.halt.record :=
    ⟨start.station, start.line, start.cmd, start.conds, start.queue, start.locks, start.tripCause, start.record⟩
  by_cases first : e.closeFirst = true
  · obtain ⟨chans, budget, fires, -⟩ := (stepAlike_periodClosed q h).controlStep
    rw [if_pos first, if_pos first]
    refine ⟨by simpa using chans, by simpa using budget, fires, ?_⟩
    simpa [periodClosed] using rest
  · obtain ⟨chans, budget, fires, -⟩ := (stepAlike_beforeClose q).controlStep
    rw [if_neg first, if_neg first]
    refine ⟨by simpa [periodClosed] using chans, by simpa [periodClosed] using budget, fires, ?_⟩
    simpa [periodClosed] using rest

end

/-! ## The report instant of a moved demand (R38) -/

theorem demandMoved_iff (s : State) : demandMoved s = true ↔ 64 ≤ ((s.budget.qs : Int) - s.line.lastQ).natAbs := by
  rw [demandMoved, decide_eq_true_iff, absDiff]
  omega

/-- The report instant of a period end that kept the station state. -/
theorem reportMoved_line (s : State) : (demandMoved s = false → (reportMoved s.station.state s).line = s.line) ∧
    (demandMoved s = true → (reportMoved s.station.state s).line.reportTimer = some (s.now + seconds s.loader.image.rInt) ∧
      (s.station.mute = false → s.line.queue = [] → (reportMoved s.station.state s).line.queue = [.report s.reportContent] ∧
        (reportMoved s.station.state s).line.lastQ = s.reportContent.q)) := by
  refine ⟨fun still => by simp [reportMoved, still], fun moved => ?_⟩
  have instant : reportMoved s.station.state s = reportInstant s := by simp [reportMoved, moved]
  rw [instant]
  refine ⟨reportInstant_timer s, fun mute empty => ?_⟩
  rw [reportInstant_alone mute empty]
  exact ⟨rfl, rfl⟩

end Sys2Proof.Machine
end

section
/-! HEATER_OPEN detections at a period end (used for O48): what one does to its channel, and that it leaves the others. -/

namespace Sys2Proof.Machine

/-! ## Conditions -/

theorem State.hasCond_addCond (s : State) (x : Cond) (k : FaultKind) (c : Option Chan) :
    (s.addCond x).hasCond k c = (s.hasCond k c || decide (x.kind = k ∧ x.chan = c)) := by
  simp [State.hasCond]

theorem State.hasCond_of {s t : State} (conds : t.fault.conds = s.fault.conds) (k : FaultKind) (c : Option Chan) :
    t.hasCond k c = s.hasCond k c := by
  rw [State.hasCond, State.hasCond, conds]

/-- The conditions a trip's end removes are those of its channel that end with it (R171). -/
theorem endTripConds_hasCond {k : FaultKind} {y : Option Chan} {x : Chan} (other : ¬(k.endsWithTrip = true ∧ y = some x)) (s : State) :
    (endTripConds x s).hasCond k y = s.hasCond k y := by
  simp only [endTripConds, State.keepConds, State.hasCond, List.any_filter]
  refine congrArg (List.any s.fault.conds) (funext fun z => ?_)
  by_cases h : z.kind = k ∧ z.chan = y
  · obtain ⟨rfl, rfl⟩ := h
    simpa [or_iff_not_imp_left] using other
  · simp [h]

theorem endTripConds_none (x : Chan) (s : State) : (endTripConds x s).hasCond .heaterOpen (some x) = false := by
  simp [endTripConds, State.keepConds, State.hasCond, FaultKind.endsWithTrip]
  grind

/-! ## A stop -/

/-- A stop clears the firing count of its channel, and leaves those of the others and the contactor. -/
theorem stopChan_burst (x : Chan) (st : ChanState) (hold : Option Nat) (s : State) :
    (stopChan x st hold s).burst.contactor = s.burst.contactor ∧
    (((stopChan x st hold s).burst.chans.get x).h = 0 ∧ ((stopChan x st hold s).burst.chans.get x).r = 0) ∧
    ∀ c, c ≠ x → (stopChan x st hold s).burst.chans.get c = s.burst.chans.get c := by
  rcases cutFirst_cases x (stopFiring x (s.modChan x fun ch => ch.stopped st hold)) with ⟨_, h⟩ | ⟨_, h⟩
  · rw [stopChan, h]
    exact ⟨rfl, by simp [stopFiring], fun c hc => by simp [stopFiring, Four.get_set_other _ _ hc]⟩
  · rw [stopChan, h]
    exact ⟨rfl, by simp [stopFiring], fun c hc => by simp [stopFiring, Four.get_set_other _ _ hc]⟩

theorem stopChan_chans (x : Chan) (st : ChanState) (hold : Option Nat) (s : State) :
    (stopChan x st hold s).chans = s.chans.set x ((s.chans.get x).stopped st hold) := by simp [stopChan]

/-! ## The other channels -/

/-- What a detection for another channel leaves of a channel. -/
structure Elsewhere (c : Chan) (s t : State) : Prop where
  now : t.now = s.now
  chan : t.chans.get c = s.chans.get c
  cause : t.fault.tripCause.get c = s.fault.tripCause.get c
  locks : t.fault.locks.get c = s.fault.locks.get c
  cond : ∀ k y, k.endsWithTrip = false ∨ y = some c → t.hasCond k y = s.hasCond k y
  contactor : t.burst.contactor = s.burst.contactor
  fires : (t.burst.chans.get c).h = (s.burst.chans.get c).h ∧ (t.burst.chans.get c).r = (s.burst.chans.get c).r

theorem Elsewhere.refl (c : Chan) (s : State) : Elsewhere c s s := ⟨rfl, rfl, rfl, rfl, fun _ _ _ => rfl, rfl, rfl, rfl⟩

theorem Elsewhere.trans {c : Chan} {s t u : State} (a : Elsewhere c s t) (b : Elsewhere c t u) : Elsewhere c s u :=
  ⟨b.now.trans a.now, b.chan.trans a.chan, b.cause.trans a.cause, b.locks.trans a.locks,
    fun k y h => (b.cond k y h).trans (a.cond k y h), b.contactor.trans a.contactor, b.fires.1.trans a.fires.1, b.fires.2.trans a.fires.2⟩

theorem recordOccurrence_elsewhere (c : Chan) (d : Detection) (cls : FaultClass) (trial due : Bool) (s : State) :
    Elsewhere c s (recordOccurrence d cls trial due s) := by
  obtain ⟨conds, locks, causes, -⟩ := recordOccurrence_marks d cls trial due s
  exact ⟨by simp, by simp, by rw [causes], by rw [locks], fun _ _ _ => State.hasCond_of conds .., by simp, by simp⟩

section
variable {c x : Chan} (ne : c ≠ x)
include ne

theorem modChan_elsewhere (f : Channel → Channel) (s : State) : Elsewhere c s (s.modChan x f) :=
  ⟨rfl, by simp [Four.get_set_other _ _ ne], rfl, rfl, fun _ _ _ => rfl, rfl, rfl, rfl⟩

theorem addCond_elsewhere {k : FaultKind} (hk : k.endsWithTrip = true) (cls : FaultClass) (s : State) :
    Elsewhere c s (s.addCond ⟨k, some x, cls⟩) := by
  refine ⟨rfl, rfl, rfl, rfl, fun j y h => ?_, rfl, rfl, rfl⟩
  have other : ¬(k = j ∧ some x = y) := by
    rintro ⟨rfl, rfl⟩
    rcases h with h | h
    · cases hk.symm.trans h
    · exact ne (Option.some.inj h).symm
  simp [State.hasCond_addCond, other]

theorem stopChan_elsewhere (st : ChanState) (hold : Option Nat) (s : State) : Elsewhere c s (stopChan x st hold s) := by
  obtain ⟨contactor, -, others⟩ := stopChan_burst x st hold s
  refine ⟨by simp, ?_, by simp, by simp, fun _ _ _ => State.hasCond_of (by simp) .., contactor, by rw [others c ne], by rw [others c ne]⟩
  rw [stopChan_chans, Four.get_set_other _ _ ne]

theorem lockChan_elsewhere (k : FaultKind) (s : State) : Elsewhere c s (lockChan k x s) := by
  have listed : Elsewhere c s { s with fault := { s.fault with
      locks := s.fault.locks.set x (joinLock k (joinCause (s.fault.tripCause.get x) (s.fault.locks.get x))),
      tripCause := s.fault.tripCause.set x none } } :=
    ⟨rfl, rfl, by simp [Four.get_set_other _ _ ne], by simp [Four.get_set_other _ _ ne], fun _ _ _ => rfl, rfl, rfl, rfl⟩
  have ended (t : State) : Elsewhere c t (endTripConds x t) :=
    ⟨rfl, rfl, rfl, rfl, fun k y h => endTripConds_hasCond (by rintro ⟨hk, rfl⟩; simp [hk, ne.symm] at h) t, rfl, rfl, rfl⟩
  unfold lockChan
  dsimp only
  split
  · exact listed
  · exact ((listed.trans (ended _)).trans (stopChan_elsewhere ne ..)).trans (modChan_elsewhere ne ..)

theorem tripChan_elsewhere (k : FaultKind) (reclose : Option Nat) (s : State) : Elsewhere c s (tripChan k reclose x s) := by
  have caused : Elsewhere c s { s with fault := { s.fault with tripCause := s.fault.tripCause.set x (some k) } } :=
    ⟨rfl, rfl, by simp [Four.get_set_other _ _ ne], rfl, fun _ _ _ => rfl, rfl, rfl, rfl⟩
  unfold tripChan
  exact (caused.trans (stopChan_elsewhere ne ..)).trans (modChan_elsewhere ne ..)

/-- An occurrence of a counted kind touches its own channel alone (R174). -/
theorem occurCounted_elsewhere {d : Detection} (hd : d.kind.endsWithTrip = true) (s : State) : Elsewhere c s (occurCounted d x s) := by
  unfold occurCounted
  dsimp only
  split
  · exact .refl c s
  · split
    · exact recordOccurrence_elsewhere ..
    · split
      · exact (addCond_elsewhere ne hd ..).trans (recordOccurrence_elsewhere ..)
      · split
        · exact ((modChan_elsewhere ne ..).trans (lockChan_elsewhere ne ..)).trans (recordOccurrence_elsewhere ..)
        · split
          · exact ((modChan_elsewhere ne ..).trans (lockChan_elsewhere ne ..)).trans (recordOccurrence_elsewhere ..)
          · exact (((modChan_elsewhere ne ..).trans (addCond_elsewhere ne hd ..)).trans (tripChan_elsewhere ne ..)).trans
              (recordOccurrence_elsewhere ..)

end

/-! ## The channel itself -/

/-- A channel stopped by an open heater at `now`, which had the trip count `trips` and, with `trial`, was on trial: TRIPPED for 600 s, or
LOCKED during a trial and at the third trip (R174, R178). -/
structure HeaterStopped (now trips : Nat) (trial : Bool) (c : Chan) (t : State) : Prop where
  trip : trial = false → trips < 2 → (t.chans.get c).state = .tripped ∧ (t.chans.get c).trips = trips + 1 ∧
    (t.chans.get c).reclose = some (now + 600000000) ∧ t.fault.tripCause.get c = some .heaterOpen ∧
    t.hasCond .heaterOpen (some c) = true
  lock : (trial = true ∨ 2 ≤ trips) → (t.chans.get c).state = .locked ∧ (t.chans.get c).trips = min (trips + 1) 3 ∧
    (t.chans.get c).reclose = none ∧ (t.chans.get c).trial = none ∧ t.fault.tripCause.get c = none ∧
    .heaterOpen ∈ t.fault.locks.get c ∧ t.hasCond .heaterOpen (some c) = false
  idle : (t.chans.get c).d = 0 ∧ (t.chans.get c).ds = 0 ∧ (t.chans.get c).clean = none ∧ (t.chans.get c).holdExpiry = none
  fires : (t.burst.chans.get c).h = 0 ∧ (t.burst.chans.get c).r = 0

/-- What is read of a channel to say that a heater stopped it. -/
theorem HeaterStopped.of_same {now trips : Nat} {trial : Bool} {c : Chan} {s t : State} (a : HeaterStopped now trips trial c s)
    (chan : t.chans.get c = s.chans.get c) (cause : t.fault.tripCause.get c = s.fault.tripCause.get c)
    (locks : t.fault.locks.get c = s.fault.locks.get c)
    (cond : t.hasCond .heaterOpen (some c) = s.hasCond .heaterOpen (some c))
    (fires : (t.burst.chans.get c).h = (s.burst.chans.get c).h ∧ (t.burst.chans.get c).r = (s.burst.chans.get c).r) :
    HeaterStopped now trips trial c t := by
  obtain ⟨trip, lock, idle, off⟩ := a
  refine ⟨?_, ?_, ?_, fires.1.trans off.1, fires.2.trans off.2⟩
  · rw [chan, cause, cond]
    exact trip
  · rw [chan, cause, locks, cond]
    exact lock
  · rw [chan]
    exact idle

theorem HeaterStopped.notFiring {now trips : Nat} {trial : Bool} {c : Chan} {t : State} (a : HeaterStopped now trips trial c t) :
    (t.chans.get c).state.fires = false := by
  by_cases h : trial = false ∧ trips < 2
  · rw [(a.trip h.1 h.2).1]
    rfl
  · rw [(a.lock (by grind)).1]
    rfl

theorem tripped_stopped {s : State} {c : Chan} (few : (s.chans.get c).trips < 2) :
    HeaterStopped s.now (s.chans.get c).trips false c
      (tripChan .heaterOpen (some (s.now + seconds 600)) c
        ((s.modChan c fun ch => { ch with trips := min ((s.chans.get c).trips + 1) 3 }).addCond ⟨.heaterOpen, some c, .trip⟩)) := by
  have stopped := stopChan_burst c .tripped none
  constructor
  case trip =>
    refine fun _ _ => ⟨?_, ?_, ?_, ?_, ?_⟩
    · simp [tripChan, stopChan_chans, Channel.stopped]
    · simp [tripChan, stopChan_chans, Channel.stopped]
      omega
    · simp [tripChan, stopChan_chans, seconds]
    · simp [tripChan]
    · simp [tripChan, State.hasCond]
  case lock => exact fun h => by simp at h; omega
  case idle => simp [tripChan, stopChan_chans, Channel.stopped]
  case fires => exact (stopped _).2.1

/-- A channel that is not LOCKED yet enters LOCKED (R167, R171). -/
theorem lockChan_chan {k : FaultKind} {c : Chan} {s : State} (unlocked : (s.chans.get c).state ≠ .locked) :
    (lockChan k c s).chans.get c = { (s.chans.get c).stopped .locked none with reclose := none, trial := none } ∧
    (((lockChan k c s).burst.chans.get c).h = 0 ∧ ((lockChan k c s).burst.chans.get c).r = 0) ∧
    (lockChan k c s).hasCond .heaterOpen (some c) = false := by
  have entered : ∃ u : State, u.chans = s.chans ∧ lockChan k c s =
      (stopChan c .locked none (endTripConds c u)).modChan c fun ch => { ch with reclose := none, trial := none } :=
    ⟨{ s with fault := { s.fault with
      locks := s.fault.locks.set c (joinLock k (joinCause (s.fault.tripCause.get c) (s.fault.locks.get c))),
      tripCause := s.fault.tripCause.set c none } }, rfl, if_neg unlocked⟩
  obtain ⟨u, chans, entered⟩ := entered
  rw [entered]
  obtain ⟨-, off, -⟩ := stopChan_burst c .locked none (endTripConds c u)
  refine ⟨by simp [stopChan_chans, chans], off, ?_⟩
  rw [State.hasCond_of (s := endTripConds c u) (by simp), endTripConds_none]

theorem locked_stopped {s : State} {c : Chan} (serves : (s.chans.get c).state.inService = true) (trial : Bool)
    (due : trial = true ∨ 2 ≤ (s.chans.get c).trips) : HeaterStopped s.now (s.chans.get c).trips trial c
      (lockChan .heaterOpen c (s.modChan c fun ch => { ch with trips := min ((s.chans.get c).trips + 1) 3 })) := by
  have unlocked : (s.chans.get c).state ≠ .locked := fun h => by simp [h, ChanState.inService] at serves
  obtain ⟨locks, causes⟩ := lockChan_fault .heaterOpen c
    (s.modChan c fun ch => { ch with trips := min ((s.chans.get c).trips + 1) 3 })
  obtain ⟨chan, off, cond⟩ := lockChan_chan (k := .heaterOpen) (c := c)
    (s := s.modChan c fun ch => { ch with trips := min ((s.chans.get c).trips + 1) 3 }) (by simpa using unlocked)
  rw [State.modChan_chans, Four.get_set_same] at chan
  constructor
  case trip => exact fun h few => by simp [h] at due; omega
  case lock =>
    rw [chan, causes, locks, Four.get_set_same, Four.get_set_same, mem_joinLock]
    exact fun _ => ⟨rfl, rfl, rfl, rfl, rfl, .inl rfl, cond⟩
  case idle =>
    rw [chan]
    exact ⟨rfl, rfl, rfl, rfl⟩
  case fires => exact off

/-- A heater found open while the contactor is closed, on a channel in service (R174, R178). -/
theorem occurCounted_stops {d : Detection} (kind : d.kind = .heaterOpen) {c : Chan} {s : State} (closed : s.burst.contactor = true)
    (new : s.hasCond .heaterOpen (some c) = false) (serves : (s.chans.get c).state.inService = true) :
    HeaterStopped s.now (s.chans.get c).trips (s.chans.get c).trial.isSome c (occurCounted d c s) := by
  have recorded {n : Nat} {b : Bool} {t : State} (h : HeaterStopped s.now n b c t) (cls : FaultClass) (trial : Bool) :
      HeaterStopped s.now n b c (recordOccurrence d cls trial true t) := by
    obtain ⟨-, chan, cause, locks, cond, -, fires⟩ := recordOccurrence_elsewhere c d cls trial true t
    exact h.of_same chan cause locks (cond _ _ (.inr rfl)) fires
  unfold occurCounted
  simp only [kind, closed, new, serves, Bool.true_eq_false, and_false, if_false, Bool.not_false, Bool.not_true, Bool.false_eq_true]
  cases onTrial : (s.chans.get c).trial.isSome with
  | true => exact recorded (locked_stopped serves true (.inl rfl)) ..
  | false =>
    by_cases third : min ((s.chans.get c).trips + 1) 3 = 3
    · rw [if_neg Bool.false_ne_true, if_pos third]
      exact recorded (locked_stopped serves false (.inr (by omega))) ..
    · rw [if_neg Bool.false_ne_true, if_neg third]
      exact recorded (tripped_stopped (by omega)) ..

end Sys2Proof.Machine
end

section
/-! A period end that finds heaters open and no switch stuck (used for O48). -/

namespace Sys2Proof.Machine

/-- Of some detections one is an open heater of the channel, and the others are open heaters of other channels. -/
def OpensOnce (c : Chan) (ds : List Detection) : Prop :=
  ∃ before v after, ds = before ++ ⟨.heaterOpen, some c, v⟩ :: after ∧
    ∀ d ∈ before ++ after, ∃ x w, c ≠ x ∧ d = ⟨.heaterOpen, some x, w⟩

theorem closeDetections_opens {s : State} {c : Chan} (opens : opensAt s c) (sticks : ∀ x, ¬sticksAt s x) :
    OpensOnce c (closeDetections s) := by
  obtain ⟨enabled, due⟩ := opens
  have free (x : Chan) (hx : s.enabled x = true) : (s.meas.chans.get x).stuckDue (s.loader.image.iNom.get x) = false :=
    Bool.eq_false_iff.mpr fun h => sticks x ⟨hx, h⟩
  have listed : c ∈ s.enabledList := List.mem_filter.mpr ⟨Chan.mem_list c, enabled⟩
  have once : s.enabledList.Nodup := List.Nodup.filter _ (by decide)
  obtain ⟨a, b, hab⟩ := List.append_of_mem listed
  have own : c ∉ a ++ b := (List.nodup_cons.mp (List.nodup_middle.mp (hab ▸ once))).1
  have all : ∀ x ∈ a ++ b, s.enabled x = true := fun x hx =>
    (List.mem_filter.mp (hab ▸ by simpa [or_left_comm] using .inr (List.mem_append.mp hx) : x ∈ s.enabledList)).2
  refine ⟨a.flatMap fun x => (s.meas.chans.get x).closeFaults (s.loader.image.iNom.get x) x, some (s.meas.chans.get c).meanCurrent,
    b.flatMap fun x => (s.meas.chans.get x).closeFaults (s.loader.image.iNom.get x) x, ?_, fun d hd => ?_⟩
  · simp [closeDetections, hab, ChanMeas.closeFaults, due, free c enabled]
  · rw [← List.flatMap_append] at hd
    obtain ⟨x, hx, hd⟩ := List.mem_flatMap.mp hd
    simp only [ChanMeas.closeFaults, free x (all x hx), Bool.false_eq_true, if_false, List.append_nil, List.mem_ite_nil_right,
      List.mem_singleton] at hd
    exact ⟨x, _, fun e => own (e ▸ hx), hd.2⟩

/-! ## The closing of the period -/

theorem occurAll_elsewhere {c : Chan} {ds : List Detection} (h : ∀ d ∈ ds, ∃ x w, c ≠ x ∧ d = ⟨.heaterOpen, some x, w⟩) (s : State) :
    Elsewhere c s (occurAll ds s) :=
  occurAll_of_mem (Elsewhere c s) (fun d hd t ht => by
    obtain ⟨x, w, ne, rfl⟩ := h d hd
    exact ht.trans (occurCounted_elsewhere ne rfl t)) (.refl c s)

theorem occurAll_append (a : List Detection) (d : Detection) (b : List Detection) (s : State) :
    occurAll (a ++ d :: b) s = occurAll b (occur d (occurAll a s)) := by simp [occurAll]

section
variable {s : State} {c : Chan} (once : OpensOnce c (closeDetections s))
include once

/-- With the contactor open an open heater is discarded (R174). -/
theorem closePeriod_discards (opened : s.burst.contactor = false) : Elsewhere c s (closePeriod s) := by
  obtain ⟨before, v, after, list, others⟩ := once
  rw [closePeriod_eq, list, occurAll_append]
  have closed : Elsewhere c s (periodClosed s) := ⟨rfl, rfl, rfl, rfl, fun _ _ _ => rfl, rfl, rfl, rfl⟩
  have first := closed.trans (occurAll_elsewhere (fun d hd => others d (List.mem_append_left _ hd)) (periodClosed s))
  have discarded : occur ⟨.heaterOpen, some c, v⟩ (occurAll before (periodClosed s)) = occurAll before (periodClosed s) :=
    if_pos ⟨rfl, first.contactor.trans opened⟩
  rw [discarded]
  exact first.trans (occurAll_elsewhere (fun d hd => others d (List.mem_append_right _ hd)) _)

/-- With the contactor closed it stops a channel in service (R174). -/
theorem closePeriod_stops (closed : s.burst.contactor = true) (new : s.hasCond .heaterOpen (some c) = false)
    (serves : (s.chans.get c).state.inService = true) :
    HeaterStopped s.now (s.chans.get c).trips (s.chans.get c).trial.isSome c (closePeriod s) := by
  obtain ⟨before, v, after, list, others⟩ := once
  rw [closePeriod_eq, list, occurAll_append]
  have ended : Elsewhere c s (periodClosed s) := ⟨rfl, rfl, rfl, rfl, fun _ _ _ => rfl, rfl, rfl, rfl⟩
  have first := ended.trans (occurAll_elsewhere (fun d hd => others d (List.mem_append_left _ hd)) (periodClosed s))
  have stops := occurCounted_stops (d := ⟨.heaterOpen, some c, v⟩) rfl (first.contactor.trans closed) ((first.cond _ _ (.inr rfl)).trans new)
    (by rw [first.chan, serves])
  rw [first.chan, first.now] at stops
  obtain ⟨-, chan, cause, locks, cond, -, fires⟩ := occurAll_elsewhere (fun d hd => others d (List.mem_append_right _ hd))
    (occur ⟨.heaterOpen, some c, v⟩ (occurAll before (periodClosed s)))
  exact stops.of_same chan cause locks (cond _ _ (.inr rfl)) fires

end

/-! ## With the control step -/

/-- A control step leaves a channel that a heater stopped as it is. -/
theorem HeaterStopped.controlStep {now trips : Nat} {trial : Bool} {c : Chan} {s : State} (a : HeaterStopped now trips trial c s) :
    HeaterStopped now trips trial c (controlStep s) := by
  obtain ⟨timers, off, -⟩ := controlStep_chan s c
  obtain ⟨-, -, fires⟩ := controlStep_burst s c
  have quiet := a.notFiring
  obtain ⟨state, d, ds⟩ := off quiet
  simp only [Channel.timers, Prod.mk.injEq] at timers
  obtain ⟨-, hold, reclose, onTrial, clean, count⟩ := timers
  have cond : (Machine.controlStep s).hasCond .heaterOpen (some c) = s.hasCond .heaterOpen (some c) := State.hasCond_of (by simp) ..
  have fault : (Machine.controlStep s).fault = s.fault := by simp
  obtain ⟨trip, lock, ⟨-, -, stopped, unheld⟩, -⟩ := a
  refine ⟨?_, ?_, ⟨d, ds, clean.trans stopped, hold.trans unheld⟩, fires quiet⟩
  · rw [state, count, reclose, cond, fault]
    exact trip
  · rw [state, count, reclose, onTrial, cond, fault]
    exact lock

/-- What an open heater that is discarded leaves of a channel, whatever the control step does. -/
structure HeaterKept (c : Chan) (s t : State) : Prop where
  cond : t.hasCond .heaterOpen (some c) = s.hasCond .heaterOpen (some c)
  timers : (t.chans.get c).timers = (s.chans.get c).timers
  cause : t.fault.tripCause.get c = s.fault.tripCause.get c
  locks : t.fault.locks.get c = s.fault.locks.get c

theorem HeaterKept.trans {c : Chan} {s t u : State} (a : HeaterKept c s t) (b : HeaterKept c t u) : HeaterKept c s u :=
  ⟨b.cond.trans a.cond, b.timers.trans a.timers, b.cause.trans a.cause, b.locks.trans a.locks⟩

theorem Elsewhere.kept {c : Chan} {s t : State} (a : Elsewhere c s t) : HeaterKept c s t :=
  ⟨a.cond _ _ (.inr rfl), by rw [a.chan], a.cause, a.locks⟩

theorem controlStep_kept (c : Chan) (s : State) : HeaterKept c s (controlStep s) :=
  ⟨State.hasCond_of (by simp) .., (controlStep_chan s c).1, by simp, by simp⟩

/-- A channel in service stays in service at a control step. -/
theorem controlStep_inService {s : State} {c : Chan} (serves : (s.chans.get c).state.inService = true) :
    ((controlStep s).chans.get c).state.inService = true := by
  obtain ⟨-, off, fires⟩ := controlStep_chan s c
  cases h : (s.chans.get c).state.fires with
  | false => rw [(off h).1, serves]
  | true => exact inService_of_fires (fires h)

section
variable {s : State} {c : Chan} (once : OpensOnce c (closeDetections s)) (closeFirst : Bool)
include once

theorem closeAndStep_discards (opened : s.burst.contactor = false) : HeaterKept c s (closeAndStep closeFirst s) := by
  unfold closeAndStep
  split
  · exact (closePeriod_discards once opened).kept.trans (controlStep_kept c _)
  · have again : OpensOnce c (closeDetections (controlStep s)) := by rwa [controlStep_detections]
    exact (controlStep_kept c s).trans (closePeriod_discards again ((controlStep_clock s).2.trans opened)).kept

theorem closeAndStep_stops (closed : s.burst.contactor = true) (new : s.hasCond .heaterOpen (some c) = false)
    (serves : (s.chans.get c).state.inService = true) :
    HeaterStopped s.now (s.chans.get c).trips (s.chans.get c).trial.isSome c (closeAndStep closeFirst s) := by
  unfold closeAndStep
  split
  · exact (closePeriod_stops once closed new serves).controlStep
  · have again : OpensOnce c (closeDetections (controlStep s)) := by rwa [controlStep_detections]
    have kept := controlStep_kept c s
    have stops := closePeriod_stops again ((controlStep_clock s).2.trans closed) (kept.cond.trans new) (controlStep_inService serves)
    have timers := kept.timers
    simp only [Channel.timers, Prod.mk.injEq] at timers
    obtain ⟨-, -, -, onTrial, -, count⟩ := timers
    rwa [onTrial, count, (controlStep_frame s).2.1] at stops

end

/-! ## The whole edge -/

theorem Untouched.hasCond {s t : State} (a : Untouched s t) (k : FaultKind) (c : Option Chan) : t.hasCond k c = s.hasCond k c :=
  State.hasCond_of a.conds k c

theorem Untouched.kept {s t : State} (a : Untouched s t) (c : Chan) : HeaterKept c s t :=
  ⟨a.hasCond .., by rw [a.chans], by rw [a.tripCause], by rw [a.locks]⟩

theorem HeaterStopped.untouched {now trips : Nat} {trial : Bool} {c : Chan} {s t : State} (h : HeaterStopped now trips trial c s)
    (a : Untouched s t) : HeaterStopped now trips trial c t :=
  h.of_same (by rw [a.chans]) (by rw [a.tripCause]) (by rw [a.locks]) (a.hasCond ..) (a.fires c)

theorem setIndex_untouched (i : Nat) (s : State) : Untouched s (setIndex i s) :=
  ⟨rfl, rfl, rfl, rfl, rfl, rfl, rfl, rfl, rfl, rfl, rfl, rfl, rfl, rfl, rfl, rfl, rfl, fun _ => ⟨rfl, rfl⟩⟩

section
variable {e : EdgeIn} {s : State} (q : QuietEdge e s) (h : atPeriodEnd s = true) {c : Chan} (once : OpensOnce c (closeDetections s))
include q h once

/-- A quiet period end at which an open heater is discarded (R174). -/
theorem takeEdge_discards (opened : s.burst.contactor = false) : HeaterKept c s (takeEdge e s) := by
  have start := beforeClose_untouched q
  obtain ⟨o, edge, rest, -⟩ := takeEdge_quiet q h
  have closing := closeAndStep_discards (beforeClose_detections e s ▸ once) e.closeFirst (start.contactor.trans opened)
  have all := (((start.kept c).trans closing).trans ((setIndex_untouched 0 _).kept c)).trans (rest.kept c)
  rw [edge]
  exact ⟨(State.hasCond_of (by simp) ..).trans all.cond, by simpa using all.timers, by simpa using all.cause, by simpa using all.locks⟩

/-- A quiet period end at which an open heater stops its channel (R174). -/
theorem takeEdge_stops (closed : s.burst.contactor = true) (new : s.hasCond .heaterOpen (some c) = false)
    (serves : (s.chans.get c).state.inService = true) :
    HeaterStopped s.now (s.chans.get c).trips (s.chans.get c).trial.isSome c (takeEdge e s) ∧ (takeEdge e s).heaterPin c = false := by
  have start := beforeClose_untouched q
  obtain ⟨o, edge, rest, off⟩ := takeEdge_quiet q h
  have stops := closeAndStep_stops (c := c) (beforeClose_detections e s ▸ once) e.closeFirst (start.contactor.trans closed)
    ((start.hasCond ..).trans new) (by rwa [start.chans])
  rw [start.chans, start.now] at stops
  have begun : HeaterStopped s.now (s.chans.get c).trips (s.chans.get c).trial.isSome c (periodBegun e s) :=
    stops.untouched (setIndex_untouched 0 _)
  rw [edge]
  refine ⟨(begun.untouched rest).of_same (by simp) (by simp) (by simp) (State.hasCond_of (by simp) ..) (by simp), ?_⟩
  simpa [State.heaterPin] using off c (.inr begun.notFiring)

end

end Sys2Proof.Machine
end

section
/-! A period end that finds a switch stuck (used for O48): the halt procedure begins, and a second stuck switch is the second cause. -/

namespace Sys2Proof.Machine

/-- The switches `k` have been found stuck: with none the station serves, with one the halt procedure has begun, and with more the
second cause is written (R188, R200, R202, R205). -/
structure Stuck (k : Finset Chan) (t : State) : Prop where
  conds : ∀ d, t.hasCond .switchStuck (some d) = true ↔ d ∈ k
  before : k = ∅ → t.halt.proc = .idle ∧ t.station.state.serves = true
  after : k.Nonempty → t.station.state = .halting ∧ t.halt.proc = .confirming ∧ t.burst.contactor = false ∧
    t.halt.record.valid = true ∧ t.halt.record.first = some .switchStuck ∧
    t.halt.record.second = if 2 ≤ k.card then some .switchStuck else none

theorem Stuck.of_same {k : Finset Chan} {s t : State} (a : Stuck k s)
    (conds : ∀ d, t.hasCond .switchStuck (some d) = s.hasCond .switchStuck (some d)) (station : t.station = s.station)
    (proc : t.halt.proc = s.halt.proc) (record : t.halt.record = s.halt.record) (contactor : t.burst.contactor = s.burst.contactor) :
    Stuck k t := by
  obtain ⟨listed, before, after⟩ := a
  refine ⟨fun d => by rw [conds, listed], ?_, ?_⟩
  · rwa [proc, station]
  · rwa [proc, station, record, contactor]

theorem Stuck.untouched {k : Finset Chan} {s t : State} (a : Stuck k s) (u : Untouched s t) : Stuck k t :=
  a.of_same (fun _ => u.hasCond ..) u.station u.proc u.record u.contactor

theorem Stuck.controlStep {k : Finset Chan} {s : State} (a : Stuck k s) : Stuck k (controlStep s) :=
  a.of_same (fun _ => State.hasCond_of (by simp) ..) (by simp) (by simp) (by simp) (controlStep_clock s).2

theorem Stuck.recorded {k : Finset Chan} {s : State} (a : Stuck k s) (d : Detection) (cls : FaultClass) (trial due : Bool) :
    Stuck k (recordOccurrence d cls trial due s) :=
  a.of_same (fun _ => State.hasCond_of (recordOccurrence_marks ..).1 ..) (by simp) (by simp) (by simp) (by simp)

/-- An open heater has no part in the halt procedure. -/
theorem Stuck.heaterOpen {k : Finset Chan} {s : State} (a : Stuck k s) (x : Chan) (v : Option Int) :
    Stuck k (occur ⟨.heaterOpen, some x, v⟩ s) := by
  obtain ⟨c, ne⟩ : ∃ c : Chan, c ≠ x := by
    cases x
    case c0 => exact ⟨.c1, by decide⟩
    all_goals exact ⟨.c0, by decide⟩
  have other := occurCounted_elsewhere (d := ⟨.heaterOpen, some x, v⟩) ne rfl s
  have same : occur ⟨.heaterOpen, some x, v⟩ s = occurCounted ⟨.heaterOpen, some x, v⟩ x s := rfl
  rw [same]
  exact a.of_same (fun d => other.cond _ _ (.inl rfl)) (by simp) (by simp) (by simp) other.contactor

/-! ## A stuck switch -/

theorem hasCond_stuck (s : State) (c d : Chan) (cls : FaultClass) :
    (s.addCond ⟨.switchStuck, some c, cls⟩).hasCond .switchStuck (some d) = true ↔
      s.hasCond .switchStuck (some d) = true ∨ d = c := by
  simp only [State.hasCond_addCond, Bool.or_eq_true, decide_eq_true_eq, true_and, Option.some.injEq, @eq_comm _ c d]

/-- The first cause: the halt procedure begins (R202). -/
theorem halted_stuck {s : State} (a : Stuck ∅ s) (c : Chan) (v : Option Int) :
    Stuck {c} (enterHalting (recordOccurrence ⟨.switchStuck, some c, v⟩ .halt false true
      (beginHalt .switchStuck (s.addCond ⟨.switchStuck, some c, .halt⟩)))) := by
  obtain ⟨listed, -, -⟩ := a
  have record (t : State) : (enterHalting t).halt.record = t.halt.record := by simp [enterHalting_eq, haltingBlocks, stopAllFiring]
  have opened (t : State) (h : t.burst.contactor = false) : (enterHalting t).burst.contactor = false :=
    Bool.eq_false_iff.mpr fun closed => by simp [(enterHalting_recedes t).contactor closed] at h
  refine ⟨fun d => ?_, fun h => absurd h (Finset.singleton_ne_empty c), fun _ => ⟨by simp, by simp, opened _ (by simp [beginHalt,
    setContactor]), ?_⟩⟩
  · rw [State.hasCond_of (s := s.addCond ⟨.switchStuck, some c, .halt⟩) (by simp), hasCond_stuck, listed]
    simp
  · rw [record]
    simp [beginHalt, setContactor, captureRecord]

/-- A stuck switch joins those found before it (R188, R200). -/
theorem Stuck.switchStuck {k : Finset Chan} {s : State} (a : Stuck k s) (c : Chan) (v : Option Int) :
    Stuck (insert c k) (occur ⟨.switchStuck, some c, v⟩ s) := by
  have same : occur ⟨.switchStuck, some c, v⟩ s = occurHalt ⟨.switchStuck, some c, v⟩ .switchStuck s := rfl
  rw [same, occurHalt]
  by_cases old : c ∈ k
  · rw [if_pos ((a.conds c).mpr old), Finset.insert_eq_of_mem old]
    exact a.recorded ..
  rw [if_neg (mt (a.conds c).mp old)]
  dsimp only
  have added : ∀ d, (s.addCond ⟨.switchStuck, some c, .halt⟩).hasCond .switchStuck (some d) = true ↔ d ∈ insert c k := fun d => by
    rw [hasCond_stuck, a.conds, Finset.mem_insert, or_comm]
  rcases k.eq_empty_or_nonempty with rfl | found
  · obtain ⟨proc, serves⟩ := a.before rfl
    have first : causeTaken s.station.state s.halt = .first := by simp [causeTaken, proc, serves]
    simp only [State.addCond_station, State.addCond_halt, first]
    exact halted_stuck a c v
  · obtain ⟨state, proc, opened, valid, cause, second⟩ := a.after found
    have more : 2 ≤ (insert c k).card := by
      rw [Finset.card_insert_of_notMem old]
      have := found.card_pos
      omega
    by_cases two : 2 ≤ k.card
    · rw [if_pos two] at second
      have late : causeTaken s.station.state s.halt = .notTaken := by simp [causeTaken, proc, second]
      simp only [State.addCond_station, State.addCond_halt, late]
      refine Stuck.recorded ⟨added, fun h => absurd h (Finset.insert_ne_empty c k), fun _ => ?_⟩ ..
      rw [if_pos more]
      exact ⟨state, proc, opened, valid, cause, second⟩
    · rw [if_neg two] at second
      have next : causeTaken s.station.state s.halt = .second := by simp [causeTaken, proc, second]
      simp only [State.addCond_station, State.addCond_halt, next]
      refine Stuck.recorded ⟨fun d => ?_, fun h => absurd h (Finset.insert_ne_empty c k), fun _ => ?_⟩ ..
      · exact added d
      · rw [if_pos more]
        exact ⟨state, proc, opened, valid, cause, rfl⟩

/-- The detections of a period end, one after another. -/
theorem occurAll_stuck {ds : List Detection} (kinds : ∀ d ∈ ds, ∃ x w, d = ⟨.heaterOpen, some x, w⟩ ∨ d = ⟨.switchStuck, some x, w⟩)
    {k : Finset Chan} {s : State} (a : Stuck k s) :
    ∃ j, Stuck j (occurAll ds s) ∧ ∀ x, x ∈ j ↔ x ∈ k ∨ ∃ w, ⟨.switchStuck, some x, w⟩ ∈ ds := by
  induction ds generalizing k s with
  | nil => exact ⟨k, a, by simp⟩
  | cons d ds ih =>
    have later := fun x hx => kinds x (List.mem_cons_of_mem d hx)
    obtain ⟨c, v, rfl | rfl⟩ := kinds d (List.mem_cons_self ..)
    · obtain ⟨j, stuck, members⟩ := ih later (a.heaterOpen c v)
      exact ⟨j, stuck, fun x => by simp [members]⟩
    · obtain ⟨j, stuck, members⟩ := ih later (a.switchStuck c v)
      refine ⟨j, stuck, fun x => ?_⟩
      rw [members]
      by_cases e : x = c
      · subst e
        simp
      · simp [e]

theorem stuck_mem_closeDetections {s : State} {c : Chan} : (∃ w, ⟨.switchStuck, some c, w⟩ ∈ closeDetections s) ↔ sticksAt s c := by
  constructor
  · rintro ⟨w, h⟩
    obtain ⟨x, v, ⟨-, h⟩ | ⟨sticks, h⟩⟩ := mem_closeDetections h
    · cases h
    · cases h
      exact sticks
  · rintro ⟨enabled, due⟩
    refine ⟨some ((s.meas.chans.get c).lastOff.getD 0),
      List.mem_flatMap.mpr ⟨c, List.mem_filter.mpr ⟨Chan.mem_list c, enabled⟩, ?_⟩⟩
    simp [ChanMeas.closeFaults, due]

theorem closePeriod_stuck {s : State} (a : Stuck ∅ s) : ∃ k, Stuck k (closePeriod s) ∧
    ∀ x, x ∈ k ↔ ∃ w, ⟨.switchStuck, some x, w⟩ ∈ closeDetections s := by
  have closed : Stuck ∅ (periodClosed s) := a.of_same (fun _ => rfl) rfl rfl rfl rfl
  obtain ⟨k, stuck, members⟩ := occurAll_stuck (ds := closeDetections s) (fun d hd => by
    obtain ⟨c, v, h | h⟩ := mem_closeDetections hd
    · exact ⟨c, v, .inl h.2⟩
    · exact ⟨c, v, .inr h.2⟩) closed
  exact ⟨k, stuck, fun x => by simp [members]⟩

theorem closeAndStep_stuck {s : State} (a : Stuck ∅ s) (closeFirst : Bool) : ∃ k, Stuck k (closeAndStep closeFirst s) ∧
    ∀ x, x ∈ k ↔ ∃ w, ⟨.switchStuck, some x, w⟩ ∈ closeDetections s := by
  unfold closeAndStep
  split
  · obtain ⟨k, stuck, members⟩ := closePeriod_stuck a
    exact ⟨k, stuck.controlStep, members⟩
  · obtain ⟨k, stuck, members⟩ := closePeriod_stuck a.controlStep
    exact ⟨k, stuck, fun x => by rw [members, controlStep_detections]⟩

/-- A quiet period end of a serving station, with the switches it finds stuck: with any, the halt procedure begins and no output comes
on (R188, R202). -/
theorem takeEdge_stuck {e : EdgeIn} {s : State} (q : QuietEdge e s) (h : atPeriodEnd s = true) (idle : s.halt.proc = .idle)
    (serves : s.station.state.serves = true) (new : ∀ d, s.hasCond .switchStuck (some d) = false) :
    ∃ k, Stuck k (takeEdge e s) ∧ (∀ x, x ∈ k ↔ sticksAt s x) ∧ (k.Nonempty → ∀ d, (takeEdge e s).heaterPin d = false) := by
  have start : Stuck ∅ s := ⟨fun d => by simp [new], fun _ => ⟨idle, serves⟩, fun h => absurd h Finset.not_nonempty_empty⟩
  obtain ⟨k, stuck, members⟩ := closeAndStep_stuck (start.untouched (beforeClose_untouched q)) e.closeFirst
  have begun : Stuck k (periodBegun e s) := stuck.untouched (setIndex_untouched 0 _)
  obtain ⟨o, edge, rest, off⟩ := takeEdge_quiet q h
  rw [edge]
  refine ⟨k, (begun.untouched rest).of_same (fun _ => State.hasCond_of (by simp) ..) (by simp) (by simp) (by simp) (by simp),
    fun x => ?_, fun found d => ?_⟩
  · rw [members, beforeClose_detections, stuck_mem_closeDetections]
  · have halting := (begun.after found).1
    simpa [State.heaterPin] using off d (.inl (by rw [halting]; rfl))

end Sys2Proof.Machine
end

section
/-! The period end: O48. -/

namespace Sys2Proof.Machine

theorem opensAt_iff (s : State) (c : Chan) : opensAt s c ↔ s.enabled c = true ∧ 8 ≤ (s.meas.chans.get c).onHalves ∧
    1 ≤ (s.meas.chans.get c).onCount ∧
    (s.meas.chans.get c).onSum / (s.meas.chans.get c).onCount < s.loader.image.iNom.get c / 4 ∧
    2 ≤ (s.meas.chans.get c).openCount := by
  rw [opensAt, ChanMeas.openDue, decide_eq_true_iff]
  refine and_congr_right fun _ => and_congr_right fun _ => and_congr_right fun counted => ?_
  rw [ChanMeas.meanCurrent, if_pos counted]

theorem sticksAt_iff (s : State) (c : Chan) : sticksAt s c ↔ s.enabled c = true ∧ (s.meas.chans.get c).offTaken = true ∧
    s.loader.image.iNom.get c / 8 < (s.meas.chans.get c).lastOff.getD 0 ∧ 2 ≤ (s.meas.chans.get c).stuckCount := by
  simp only [sticksAt, ChanMeas.stuckDue, decide_eq_true_eq]

/-- The edge ends a period: PERIOD_END and ZERO_CROSS_EDGE are the same (R110, R111). -/
theorem exec_atPeriodEnd {e : EdgeIn} {s : State} (accepted : edgeAccepted (s.advance e.dt) = true)
    (ends : atPeriodEnd (s.advance e.dt) = true) : exec (.periodEnd e) s = .next (takeEdge e (s.advance e.dt)) ∧
      exec (.zeroCrossEdge e) s = .next (takeEdge e (s.advance e.dt)) := by
  change execPeriodEnd e s = _ ∧ execZeroCrossEdge e s = _
  rw [execPeriodEnd, execZeroCrossEdge, accepted, show atPeriodEnd s = true from ends]
  exact ⟨rfl, rfl⟩

section
variable (e : EdgeIn) {s : State} (h : atPeriodEnd s = true)
include h

theorem takeEdge_clock : (takeEdge e s).burst.period = .running ∧ (takeEdge e s).burst.idx = some 0 ∧
    (takeEdge e s).burst.len = alignedLength s.loader.image s.peers.entries ∧
    (takeEdge e s).burst.slot = s.burst.pendingSlot.getD s.burst.slot ∧ (takeEdge e s).burst.pendingSlot = none := by
  have running := (of_decide_eq_true h).1
  have clock := (takeEdge_stands e s h).clock.trans (periodBegun_clock e s).2
  simp only [Burst.clock, Prod.mk.injEq, running] at clock
  exact clock

theorem takeEdge_u : (takeEdge e s).budget.u = usable s.loader.image := by
  rw [takeEdge_budget e s h, closeAndStep_u, (beforeClose_frame e s).2.1]

/-- With the checks and the closing after it, the share record is that of the control step (R111; log 6). -/
theorem takeEdge_stepFirst (checks : e.checksFirst = false) (closing : e.closeFirst = false) :
    (takeEdge e s).budget = (controlStep (applySlot (alignment (startEdge e s)))).budget := by
  rw [takeEdge_budget e s h]
  simp [closeAndStep, beforeClose, beforeAlignment, checks, closing]

theorem takeEdge_figure {c : Chan} (enabled : s.enabled c = true) :
    let m := s.meas.chans.get c
    let m' := (takeEdge e s).meas.chans.get c
    let mean := if 1 ≤ m.onCount then m.onSum / m.onCount else m.iMeas
    m'.iMeas = mean ∧ (8 ≤ m.onCount → m'.iEff = max 1 (min 1000 mean)) ∧ (m.onCount < 8 → m'.iEff = m.iEff) ∧
    m'.onSum = 0 ∧ m'.onCount = 0 ∧ m'.offAsked = false ∧ m'.offTaken = false ∧
    (8 ≤ m.onHalves → 1 ≤ m.onCount → mean < s.loader.image.iNom.get c / 4 → m.openCount < 2 → m'.openCount = m.openCount + 1) ∧
    (8 ≤ m.onHalves → 1 ≤ m.onCount → s.loader.image.iNom.get c / 4 ≤ mean → m'.openCount = 0) ∧
    (∀ v, m.offTaken = true → m.lastOff = some v → s.loader.image.iNom.get c / 8 < v → m.stuckCount < 2 →
      m'.stuckCount = m.stuckCount + 1) ∧
    (∀ v, m.offTaken = true → m.lastOff = some v → v ≤ s.loader.image.iNom.get c / 8 → m'.stuckCount = 0) := by
  obtain ⟨iMeas, iEff, onSum, onCount, offAsked, offTaken, openCount, stuckCount⟩ :=
    ChanMeas.of_figures (takeEdge_closed e h enabled)
  dsimp only
  rw [iMeas, iEff, onSum, onCount, offAsked, offTaken, openCount, stuckCount]
  obtain ⟨learned, kept⟩ := ChanMeas.close_iEff (s.meas.chans.get c) (s.loader.image.iNom.get c)
  refine ⟨rfl, learned, kept, rfl, rfl, rfl, rfl, fun halves counted => (ChanMeas.close_openCount _ _ halves counted).1,
    fun halves counted => (ChanMeas.close_openCount _ _ halves counted).2.1, fun v taken last flows => ?_,
    fun v taken last off => ?_⟩
  · exact (ChanMeas.close_stuckCount _ _ taken).1 (by rwa [last])
  · exact (ChanMeas.close_stuckCount _ _ taken).2.1 (by rwa [last])

/-- A detection sets its count back (R104, R105). -/
theorem takeEdge_counts (c : Chan) : (opensAt s c → ((takeEdge e s).meas.chans.get c).openCount = 0) ∧
    (sticksAt s c → ((takeEdge e s).meas.chans.get c).stuckCount = 0) := by
  refine ⟨fun ⟨enabled, due⟩ => ?_, fun ⟨enabled, due⟩ => ?_⟩
  · obtain ⟨-, -, -, -, -, -, openCount, -⟩ := ChanMeas.of_figures (takeEdge_closed e h enabled)
    simp [openCount, ChanMeas.close, due]
  · obtain ⟨-, -, -, -, -, -, -, stuckCount⟩ := ChanMeas.of_figures (takeEdge_closed e h enabled)
    simp [stuckCount, ChanMeas.close, due]

end

section
variable {e : EdgeIn} {s : State} (q : QuietEdge e s) (h : atPeriodEnd s = true)
include q h

/-- A quiet period end with no detection, up to the line (R38, R111, R152). -/
theorem takeEdge_undetected (none : closeDetections s = []) :
    let u := controlStep (if e.closeFirst = true then withLearned s fun c => ((takeEdge e s).meas.chans.get c).iEff else s)
    let t := takeEdge e s
    let moved := 64 ≤ ((u.budget.qs : Int) - s.line.lastQ).natAbs
    t.chans = u.chans ∧ (∀ c, (t.burst.chans.get c).h = (u.burst.chans.get c).h ∧
      (t.burst.chans.get c).r = (u.burst.chans.get c).r) ∧ t.budget = u.budget ∧
    t.station = s.station ∧ t.cmd = s.cmd ∧ t.fault.conds = s.fault.conds ∧ t.fault.queue = s.fault.queue ∧
    t.fault.locks = s.fault.locks ∧ t.fault.tripCause = s.fault.tripCause ∧ t.halt.record = s.halt.record ∧
    (¬moved → t.line = s.line) ∧
    (moved → t.line.reportTimer = some (s.now + seconds s.loader.image.rInt) ∧ (s.station.mute = false → s.line.queue = [] →
      ∃ r, t.line.queue = [.report r] ∧ r.state = s.station.state ∧ t.line.lastQ = r.q ∧
        r.q = if s.station.state = .running ∨ s.station.state = .isolated then min u.budget.qs 4095 else 0)) := by
  obtain ⟨chans, budget, fires, station, line, cmd, conds, queue, locks, causes, record⟩ := periodBegun_undetected q h none
  obtain ⟨o, edge, rest, -⟩ := takeEdge_quiet q h
  dsimp only
  generalize controlStep _ = u at chans budget fires ⊢
  rw [edge]
  have state : o.station = s.station := rest.station.trans station
  have sent : o.line = s.line := rest.line.trans line
  have share : o.budget = u.budget := rest.budget.trans budget
  have loader : o.loader = s.loader := rest.loader.trans (by simp [periodBegun, (beforeClose_frame e s).2.1])
  have now : o.now = s.now := rest.now.trans (periodBegun_clock e s).1
  have period : o.burst.period = .running := by
    have clock := (periodBegun_clock e s).2
    simp only [Burst.clock, Prod.mk.injEq, (of_decide_eq_true h).1] at clock
    exact rest.period.trans clock.1
  obtain ⟨still, moves⟩ := reportMoved_line o
  rw [state] at still moves
  have moved : demandMoved o = true ↔ 64 ≤ ((u.budget.qs : Int) - s.line.lastQ).natAbs := by rw [demandMoved_iff, share, sent]
  refine ⟨by simpa using rest.chans.trans chans, fun c => ?_, by simpa using share, by simpa using state,
    by simpa using rest.cmd.trans cmd, by simpa using rest.conds.trans conds, by simpa using rest.queue.trans queue,
    by simpa using rest.locks.trans locks, by simpa using rest.tripCause.trans causes, by simpa using rest.record.trans record,
    fun unmoved => ?_, fun moving => ?_⟩
  · obtain ⟨count, remainder⟩ := rest.fires c
    simpa using ⟨count.trans (fires c).1, remainder.trans (fires c).2⟩
  · rw [still (Bool.eq_false_iff.mpr (mt moved.mp unmoved)), sent]
  · obtain ⟨timer, offered⟩ := moves (moved.mpr moving)
    refine ⟨by rw [timer, now, loader], fun mute empty => ?_⟩
    obtain ⟨placed, reported⟩ := offered mute (by rw [sent, empty])
    refine ⟨o.reportContent, placed, congrArg Station.state state, reported, ?_⟩
    have on : o.reportContent.q = if s.station.state.fires = true then min u.budget.qs 4095 else 0 := by
      simp [State.reportContent, State.reported, State.mainsIsLost, period, state, share]
    rw [on]
    cases s.station.state <;> rfl

end

/-! ## The clock and the control step -/

theorem setFlow_advance (s : State) (dt : Nat) : setFlow (s.advance dt) = (setFlow s).advance dt := by
  unfold setFlow
  by_cases on : s.loader.image.flowEnabled = true
  · rw [if_pos on, if_pos (by exact on)]
    rfl
  · rw [if_neg on, if_neg (by exact on)]
    rfl

/-- A control step does not read the clock. -/
theorem controlStep_advance (s : State) (dt : Nat) : controlStep (s.advance dt) = (controlStep s).advance dt := by
  unfold controlStep
  dsimp only
  rw [setFlow_advance]
  by_cases on : (setFlow s).station.state.fires = true
  · rw [if_pos on, if_pos (by exact on)]
    rfl
  · rw [if_neg on, if_neg (by exact on)]
    rfl
/-- Settles O48. -/
theorem periodEndBeginsTheNextPeriod : Obligations.PeriodEndBeginsTheNextPeriod := by
  unfold Obligations.PeriodEndBeginsTheNextPeriod
  intro e s accepted running last img ahead
  have ends : atPeriodEnd (s.advance e.dt) = true := decide_eq_true ⟨running, last⟩
  obtain ⟨byEnd, byEdge⟩ := exec_atPeriodEnd accepted ends
  obtain ⟨period, idx, len, slot, pending⟩ := takeEdge_clock e ends
  obtain ⟨midpoint, pause⟩ := takeEdge_midpoint e ends
  obtain ⟨entries, flow, own⟩ := takeEdge_flow e (s.advance e.dt) ends
  rw [controlStep_advance] at flow own
  have loader : (takeEdge e (s.advance e.dt)).loader = s.loader := by simp
  refine ⟨takeEdge e (s.advance e.dt), byEnd, byEdge, period, idx, fun none => ?_, fun p d hp most => ?_, slot, pending, entries,
    takeEdge_u e ends, takeEdge_stepFirst e ends, midpoint, pause, fun c => takeEdge_figure e ends, flow, own, ?_, loader⟩
  · exact len.trans (alignedLength_none none)
  · exact len.trans (alignedLength_most hp most)
  intro now m opens sticks quiet
  have quietEdge : quiet → QuietEdge e (s.advance e.dt) := fun ⟨checks, watch, test⟩ =>
    ⟨fun c k armed due => checks c k armed (of_decide_eq_true due), watch, test⟩
  have opensAt_of (c : Chan) : opensAt (s.advance e.dt) c ↔ opens c := opensAt_iff _ c
  have sticksAt_of (c : Chan) : sticksAt (s.advance e.dt) c ↔ sticks c := sticksAt_iff _ c
  refine ⟨fun c opening => (takeEdge_counts e ends c).1 ((opensAt_of c).mpr opening),
    fun c stuck => (takeEdge_counts e ends c).2 ((sticksAt_of c).mpr stuck), fun q free c opening => ?_,
    fun c q stuck idle serves new => ?_, fun q closed free => ?_⟩
  · have once := closeDetections_opens ((opensAt_of c).mpr opening) fun x hx => free x ((sticksAt_of x).mp hx)
    refine ⟨fun opened => ?_, fun closed new unTripped unLocked => ?_⟩
    · obtain ⟨cond, timers, cause, locks⟩ := takeEdge_discards (quietEdge q) ends once opened
      simp only [Channel.timers, Prod.mk.injEq] at timers
      obtain ⟨-, -, reclose, -, -, trips⟩ := timers
      exact ⟨cond, trips, reclose, cause, locks⟩
    · have serves : (s.chans.get c).state.inService = true := by
        revert unTripped unLocked
        cases (s.chans.get c).state <;> simp [ChanState.inService]
      obtain ⟨⟨trip, lock, ⟨d, ds, clean, hold⟩, count, remainder⟩, pin⟩ :=
        takeEdge_stops (quietEdge q) ends once closed new serves
      refine ⟨fun onTrial few => trip ?_ few, fun due => lock ?_, d, ds, clean, hold, pin, count, remainder⟩
      · simpa using onTrial
      · exact due.imp_left fun onTrial => by simpa [Option.isSome_iff_ne_none] using onTrial
  · have serving : s.station.state.serves = true := by rcases serves with e | e | e <;> rw [e] <;> rfl
    obtain ⟨k, ⟨conds, -, after⟩, members, off⟩ := takeEdge_stuck (quietEdge q) ends idle serving new
    have found : c ∈ k := (members c).mpr ((sticksAt_of c).mpr stuck)
    obtain ⟨state, proc, contactor, valid, first, second⟩ := after ⟨c, found⟩
    refine ⟨state, proc, valid, first, (conds c).mpr found, contactor, off ⟨c, found⟩, fun alone => ?_, fun d ne other => ?_⟩
    · have only : k = {c} := Finset.eq_singleton_iff_unique_mem.mpr ⟨found, fun x hx => Classical.byContradiction fun ne =>
        alone x ne ((sticksAt_of x).mp ((members x).mp hx))⟩
      rw [second, only]
      rfl
    · have both : d ∈ k := (members d).mpr ((sticksAt_of d).mpr other)
      have two : 2 ≤ k.card := Finset.one_lt_card.mpr ⟨d, both, c, found, ne⟩
      exact ⟨by rw [second, if_pos two], (conds d).mpr both⟩
  · have none : closeDetections (s.advance e.dt) = [] :=
      closeDetections_nil (fun c hc => closed c ((opensAt_of c).mp hc)) fun c hc => free c ((sticksAt_of c).mp hc)
    have same : (if e.closeFirst = true
          then withLearned (s.advance e.dt) fun c => ((takeEdge e (s.advance e.dt)).meas.chans.get c).iEff else s.advance e.dt) =
        (if e.closeFirst = true
          then withLearned s fun c => ((takeEdge e (s.advance e.dt)).meas.chans.get c).iEff else s).advance e.dt := by
      split <;> rfl
    have all := takeEdge_undetected (quietEdge q) ends none
    rw [same, controlStep_advance] at all
    exact all

end Sys2Proof.Machine
end

section
/-! Requests that the command unit takes: what an answer that fits comes to, and the checks of R46 in their order (O23). -/

namespace Sys2Proof.Machine

/-! ## An answer that fits (R36, R47) -/

/-- Where the answer fits, the request is carried out on the answered state. -/
theorem reply_of_fits {f : RxFrame} {s : State} (h : AnswerFits f s) (st : Status) (result : List Byte) (act : State → State) :
    reply f st result act s = act (answered f st result s) := by
  rcases reply_cases f st result act s with ⟨undue | mute, e⟩ | ⟨due, loud, -, e⟩ | ⟨due, loud, full, -⟩
  · rw [e, answered, if_neg (by simp [undue])]
  · rw [e, answered, if_neg (by simp [mute])]
  · rw [e, answered, if_pos ⟨due, loud⟩]
  · rcases h due with mute | room
    · exact absurd (loud.symm.trans mute) (by decide)
    · omega

theorem refuse_of_fits {f : RxFrame} {s : State} (h : AnswerFits f s) (st : Status) : refuse f st s = answered f st [] s :=
  reply_of_fits h st [] id

/-- An answer lies in the outgoing queue and nowhere else. -/
theorem answered_eq (f : RxFrame) (st : Status) (result : List Byte) (s : State) :
    ∃ l, answered f st result s = { s with line := l } := by
  unfold answered
  split
  · exact ⟨_, rfl⟩
  · exact ⟨s.line, rfl⟩

theorem answerFits_shownFor {f : RxFrame} {s : State} (h : AnswerFits f s) (r : Request) (residual : Nat) :
    AnswerFits f (shownFor r residual s) := by
  unfold shownFor
  split <;> exact h

/-- The end of the frame takes nothing out of the room for the answer. -/
theorem answerFits_frameEnded {f : RxFrame} {s : State} (h : AnswerFits f s) (dt : Nat) (wave : List Bool) :
    AnswerFits f (frameEnded dt wave s) := by
  intro due
  refine (h due).imp id fun room => ?_
  have queue : (frameEnded dt wave s).line.queue = s.line.queue := by
    cases ha : s.active <;> simp [frameEnded, Line.dropFrame, ha]
  rwa [queue]

theorem accepts_shownFor {r : Request} {f : RxFrame} {s : State} (h : Accepts r f s) (q : Request) (residual : Nat) :
    Accepts r f (shownFor q residual s) := by
  unfold shownFor
  split
  · exact ⟨h.free, h.permitted, h.idle, h.allowed⟩
  · exact h

/-! ## Taking a frame (R45, R46) -/

/-- A frame that arrives while the unit's input is free is taken. -/
theorem requestEvent_taken {dt : Nat} {wave : List Bool} {want : FrameEnd} {f : RxFrame} {s : State} (h : Arrives dt wave want f s)
    (free : s.cmd.occupied = false) : requestEvent dt wave want s = takeRequest f (frameEnded dt wave s) := by
  have free' : (frameEnded dt wave s).cmd.occupied = false := free
  rw [requestEvent, frameEvent_of_arrives h, dispatchRequest, free', Bool.false_and, if_neg Bool.false_ne_true]

/-- A frame that arrives while a completion is held waits in the slot, unless it is a RESTART (R45). -/
theorem requestEvent_waits {dt : Nat} {wave : List Bool} {want : FrameEnd} {f : RxFrame} {s : State} (h : Arrives dt wave want f s)
    (held : s.cmd.occupied = true) (other : isRestart f = false) : requestEvent dt wave want s =
      { frameEnded dt wave s with line := { (frameEnded dt wave s).line with slot := some f } } := by
  have held' : (frameEnded dt wave s).cmd.occupied = true := held
  rw [requestEvent, frameEvent_of_arrives h, dispatchRequest, held', other]
  rfl

theorem dispatchEnd_of_arrives {dt : Nat} {wave : List Bool} {want : FrameEnd} {f : RxFrame} {s : State}
    (h : Arrives dt wave want f s) (hw : want ≠ .badCrc ∧ want ≠ .own ∧ want ≠ .lost) : dispatchEnd f = want :=
  (dispatched_of_arrives h hw).2.2

/-- A frame too short for a request (R46 step 1). -/
theorem short_of_dispatch {f : RxFrame} (h : dispatchEnd f = .short) : f.payload.length < 2 := by
  have request : requestEnd f = .short := by
    unfold dispatchEnd at h
    (repeat' split at h) <;> first | cases h | exact h
  unfold requestEnd at request
  split at request
  · assumption
  · split at request <;> cases request

theorem isCommand_iff (f : RxFrame) : isCommand f = true ↔ f.c0.toNat / 16 = 3 :=
  decide_eq_true_iff

/-- Only a frame whose code and kind are those of RESTART is taken while a completion is held. -/
theorem isRestart_iff (f : RxFrame) :
    isRestart f = true ↔ f.c0.toNat / 16 = 3 ∧ 2 ≤ f.payload.length ∧ (f.payload.getD 0 0).toNat = 0x19 := by
  rw [isRestart, Bool.and_eq_true, isCommand_iff, decide_eq_true_iff]
  rfl

theorem isRestart_of_short {f : RxFrame} (h : f.payload.length < 2) : isRestart f = false :=
  Bool.eq_false_iff.mpr fun restart => absurd ((isRestart_iff f).mp restart).2.1 (by omega)

theorem isRestart_of_requestOf {f : RxFrame} {r : Request} (h : requestOf f = some r) (other : r ≠ .restart) :
    isRestart f = false := by
  refine Bool.eq_false_iff.mpr fun restart => other ?_
  have code : charAt f.payload 0 = 0x19 := ((isRestart_iff f).mp restart).2.2
  have named := (code_of_requestOf h).1
  rw [code] at named
  exact (Option.some.inj named).symm

/-! ## The checks in their order (R46) -/

/-- A sender that may not command the station (R43). -/
theorem takeRequest_notPermitted {f : RxFrame} {s : State} (len : 2 ≤ f.payload.length) (command : isCommand f = true)
    (barred : permitted s.loader.image f = false) : takeRequest f s = refuse f .notPermitted s := by
  simp [takeRequest, command, barred, Nat.not_lt.mpr len]

/-- The checks that a frame of a permitted sender, or a QUERY, has before it. -/
theorem takeRequest_permitted {f : RxFrame} {s : State} (len : 2 ≤ f.payload.length)
    (may : isCommand f = true → permitted s.loader.image f = true) : takeRequest f s =
      match requestOf f with
      | none => refuse f .badArg s
      | some r =>
        if isCommand f && decide (r ≠ .restart) && s.cmd.flying then refuse f .busy s
        else if !allowed r s.station.state then refuse f .wrongState s
        else carryOut r f s := by
  have passed : (isCommand f && !permitted s.loader.image f) = false := by
    cases hc : isCommand f
    · rfl
    · simp [may hc]
  rw [takeRequest, if_neg (by omega), passed]
  rfl

theorem takeRequest_badCode {f : RxFrame} {s : State} (len : 2 ≤ f.payload.length)
    (may : isCommand f = true → permitted s.loader.image f = true) (unnamed : requestOf f = none) :
    takeRequest f s = refuse f .badArg s := by rw [takeRequest_permitted len may, unnamed]

theorem takeRequest_busy {f : RxFrame} {r : Request} {s : State} (len : 2 ≤ f.payload.length) (command : isCommand f = true)
    (may : permitted s.loader.image f = true) (named : requestOf f = some r) (other : r ≠ .restart) (flying : s.cmd.flying = true) :
    takeRequest f s = refuse f .busy s := by
  rw [takeRequest_permitted len fun _ => may, named]
  simp [command, other, flying]

/-- A request past the checks of sender and unit is carried out in the states that allow it (R46 steps 5 to 7). -/
theorem takeRequest_allowed {f : RxFrame} {r : Request} {s : State} (len : 2 ≤ f.payload.length)
    (may : isCommand f = true → permitted s.loader.image f = true) (named : requestOf f = some r)
    (idle : isCommand f = true → r ≠ .restart → s.cmd.flying = false) : takeRequest f s =
      if !allowed r s.station.state then refuse f .wrongState s else carryOut r f s := by
  rw [takeRequest_permitted len may, named]
  have passed : (isCommand f && decide (r ≠ .restart) && s.cmd.flying) = false := by
    cases hc : isCommand f
    · rfl
    · by_cases hr : r = .restart
      · simp [hr]
      · simp [idle hc hr]
  simp only [passed]
  rfl

/-- A request that the unit accepts is carried out at the end of its frame. -/
theorem exec_accepted {r : Request} {dt : Nat} {wave : List Bool} {f : RxFrame} {s : State} (residual : Nat)
    (h : Arrives dt wave (.request r) f s) (ok : Accepts r f s) : exec (requestInstr r dt residual wave) s =
      .next (carryOut r f (frameEnded dt wave (shownFor r residual s))) := by
  obtain ⟨named, len⟩ := requestOf_of_dispatch (dispatchEnd_of_arrives h (by simp))
  obtain ⟨free, may, idle, allowed⟩ := accepts_shownFor ok r residual
  have allowed' : Machine.allowed r (frameEnded dt wave (shownFor r residual s)).station.state = true := allowed
  rw [exec_request, requestEvent_taken (arrives_shownFor h r residual) free]
  rw [takeRequest_allowed (s := frameEnded dt wave (shownFor r residual s)) len may named idle, allowed']
  rfl

/-- A frame that the unit takes and refuses. -/
theorem exec_refused {r : Request} {dt residual : Nat} {wave : List Bool} {f : RxFrame} {s : State} {st : Status}
    (h : Arrives dt wave (.request r) f s) (free : s.cmd.occupied = false) (fits : AnswerFits f s)
    (refused : ∀ t : State, t.loader = s.loader → t.cmd = s.cmd → t.station = s.station → takeRequest f t = refuse f st t) :
    exec (requestInstr r dt residual wave) s = .next (answered f st [] (frameEnded dt wave (shownFor r residual s))) := by
  have shown : (shownFor r residual s).loader = s.loader ∧ (shownFor r residual s).cmd = s.cmd ∧
      (shownFor r residual s).station = s.station := by
    unfold shownFor
    split <;> exact ⟨rfl, rfl, rfl⟩
  obtain ⟨loader, cmd, station⟩ := shown
  rw [exec_request, requestEvent_taken (arrives_shownFor h r residual) (by rw [cmd]; exact free)]
  rw [refused (frameEnded dt wave (shownFor r residual s)) loader cmd station, refuse_of_fits (answerFits_frameEnded (answerFits_shownFor fits r residual) dt wave)]

/-! ## Channel masks (R52) -/

/-- A mask with a bit above 3, or that leaves no enabled channel, selects nothing. -/
theorem selected_none {f : RxFrame} {s : State}
    (h : 16 ≤ charAt f.payload 2 ∨ ∀ c, s.enabled c = true → maskBit (charAt f.payload 2) c = false) : selected s f = none := by
  unfold selected selection
  split
  · rfl
  · rename_i small
    have none : s.enabledList.filter (maskBit (charAt f.payload 2)) = [] := by
      refine List.filter_eq_nil_iff.mpr fun c hc => ?_
      simpa using (h.resolve_left small) c (List.mem_filter.mp hc).2
    simp only [none]

/-- The commands that carry a channel mask refuse one that selects nothing. -/
theorem carryOut_unselected {r : Request} {f : RxFrame} {s : State} (hr : r = .setPoint ∨ r = .hold ∨ r = .release ∨ r = .resetTrip)
    (h : selected s f = none) : carryOut r f s = refuse f .badArg s := by
  rcases hr with rfl | rfl | rfl | rfl
  · simp only [carryOut, takeSetPoint, h]
  · simp only [carryOut, takeHold, h]
  · simp only [carryOut, takeRelease, h]
  · simp only [carryOut, takeResetTrip, h]

theorem permitted_iff (img : Image) (f : RxFrame) :
    permitted img f = true ↔ img.cmdLo ≤ f.c1.toNat ∧ f.c1.toNat ≤ img.cmdHi := decide_eq_true_iff

/-- The states that allow no command but RESTART, and for LEAK_TEST those that do not fire (R51). -/
theorem not_allowed {r : Request} {st : StationState} (restart : r = .restart → st = .unconfigured ∨ st = .halting)
    (leakTest : r = .leakTest → st ≠ .running ∧ st ≠ .isolated)
    (others : r ≠ .restart → st ≠ .listening ∧ st ≠ .running ∧ st ≠ .isolated ∨ r = .leakTest) (command : r.kind = 3) :
    allowed r st = false := by
  by_cases hr : r = .restart
  · subst hr
    rcases restart rfl with rfl | rfl <;> rfl
  · by_cases hl : r = .leakTest
    · subst hl
      obtain ⟨run, iso⟩ := leakTest rfl
      cases st <;> first | rfl | contradiction
    · obtain ⟨listen, run, iso⟩ := (others hr).resolve_right hl
      have serves : st.serves = false := by cases st <;> first | rfl | contradiction
      cases r <;> first | contradiction | simp [allowed, serves, Request.kind, kindCommand, kindQuery]

/-- Settles O23. -/
theorem refusalsComeInOrder : Obligations.RefusalsComeInOrder := by
  unfold Obligations.RefusalsComeInOrder
  refine ⟨fun dt residual wave f a s held => ?_, fun dt residual wave f s free fits => ?_,
    fun r dt residual wave f s hr h ok fits mask => ?_⟩
  · have occupied : s.cmd.occupied = true := by rw [held]; rfl
    refine ⟨fun h => ?_, fun h other => ?_, fun r h other => ?_⟩
    · have short := short_of_dispatch (dispatchEnd_of_arrives h (by simp))
      exact congrArg _ (requestEvent_waits h occupied (isRestart_of_short short))
    · refine congrArg _ (requestEvent_waits h occupied (Bool.eq_false_iff.mpr fun restart => other ?_))
      obtain ⟨command, -, code⟩ := (isRestart_iff f).mp restart
      exact ⟨code, command⟩
    · have named := (requestOf_of_dispatch (dispatchEnd_of_arrives h (by simp))).1
      have occupied' : (shownFor r residual s).cmd.occupied = true := by unfold shownFor; split <;> exact occupied
      rw [exec_request, requestEvent_waits (arrives_shownFor h r residual) occupied' (isRestart_of_requestOf named other)]
  · have fits' := answerFits_frameEnded fits dt wave
    refine ⟨fun h => ?_, fun h => ?_, fun r h => ?_⟩
    · have short := short_of_dispatch (dispatchEnd_of_arrives h (by simp))
      refine congrArg _ ((requestEvent_taken h free).trans ?_)
      rw [takeRequest, if_pos short]
    · obtain ⟨unnamed, len⟩ := requestOf_of_badCode (dispatchEnd_of_arrives h (by simp))
      refine ⟨fun command barred => congrArg Host.Outcome.next ?_, fun may => congrArg Host.Outcome.next ?_⟩
      · rw [requestEvent_taken h free, takeRequest_notPermitted (s := frameEnded dt wave s) len ((isCommand_iff f).mpr command)
          (Bool.eq_false_iff.mpr fun may => barred ((permitted_iff _ f).mp may)), refuse_of_fits fits']
      · rw [requestEvent_taken h free, takeRequest_badCode (s := frameEnded dt wave s) len
          (fun command => (permitted_iff _ f).mpr (may ((isCommand_iff f).mp command))) unnamed, refuse_of_fits fits']
    · obtain ⟨named, len⟩ := requestOf_of_dispatch (dispatchEnd_of_arrives h (by simp))
      refine ⟨fun command barred => ?_, fun command may other flying => ?_, fun may idle restart leakTest others kind => ?_⟩
      · refine exec_refused h free fits fun t loader _ _ => ?_
        refine takeRequest_notPermitted len ((isCommand_iff f).mpr command) (Bool.eq_false_iff.mpr fun may => barred ?_)
        rw [loader] at may
        exact (permitted_iff _ f).mp may
      · refine exec_refused h free fits fun t loader cmd _ => ?_
        refine takeRequest_busy len ((isCommand_iff f).mpr command) ?_ named other (by rw [cmd]; exact flying)
        rw [loader]
        exact (permitted_iff _ f).mpr may
      · refine exec_refused h free fits fun t loader cmd station => ?_
        rw [takeRequest_allowed len (fun command => by
          rw [loader]; exact (permitted_iff _ f).mpr (may ((isCommand_iff f).mp command))) named
          (fun command other => by rw [cmd]; exact idle ((isCommand_iff f).mp command) other), station,
          not_allowed restart leakTest others kind]
        rfl
  · rw [exec_accepted residual h ok, carryOut_unselected hr, refuse_of_fits]
    · exact answerFits_frameEnded (answerFits_shownFor fits r residual) dt wave
    · refine selected_none (mask.imp id fun none c on => none c ?_)
      revert on
      unfold shownFor
      split <;> exact id

end Sys2Proof.Machine
end

section
/-! Commands on selected channels: SET_POINT (O25), HOLD and RELEASE (O26). -/

namespace Sys2Proof.Machine

/-! ## One operation for each selected channel -/

theorem Four.get_foldl_set {α : Type} (new : Chan → α → α) {cs : List Chan} (once : cs.Nodup) (x : Four α) (c : Chan) :
    (cs.foldl (fun x d => x.set d (new d (x.get d))) x).get c = if c ∈ cs then new c (x.get c) else x.get c := by
  induction cs generalizing x with
  | nil => simp
  | cons d cs ih =>
    obtain ⟨absent, once⟩ := List.nodup_cons.mp once
    rw [List.foldl_cons, ih once]
    by_cases h : c = d
    · subst h
      simp [absent]
    · simp [h]

/-- An operation that changes what a state `build` shows of one channel, done for each channel of a selection. -/
theorem each_selected {α : Type} (build : Four α → State) (new : Chan → α → α) {f : Chan → State → State}
    (one : ∀ c x, f c (build x) = build (x.set c (new c (x.get c)))) (p : Chan → Bool) (x : Four α) :
    (build x).each (Chan.list.filter p) f = build (.of fun c => if p c = true then new c (x.get c) else x.get c) := by
  have folded (cs : List Chan) (x : Four α) :
      (build x).each cs f = build (cs.foldl (fun x c => x.set c (new c (x.get c))) x) := by
    induction cs generalizing x with
    | nil => rfl
    | cons c cs ih => exact (congrArg (fun s : State => s.each cs f) (one c x)).trans (ih _)
  rw [folded]
  refine congrArg build (Four.ext_get fun c => ?_)
  rw [Four.get_foldl_set new (List.Nodup.filter _ (by decide)), Four.get_of]
  simp [List.mem_filter, Chan.mem_list c]

theorem Four.of_get {α : Type} (x : Four α) : Four.of x.get = x := rfl

theorem Four.map_set {α β : Type} (x : Four α) (c : Chan) (a : α) (g : α → β) : (x.set c a).map g = (x.map g).set c (g a) := by
  cases c <;> rfl

/-- The channels a well-formed mask selects are the picked ones (R52). -/
theorem selected_some {f : RxFrame} {s : State} (h : Selects f s) : selected s f = some (Chan.list.filter (picked f s)) := by
  obtain ⟨small, c, hc⟩ := h
  have both : s.enabledList.filter (maskBit (charAt f.payload 2)) = Chan.list.filter (picked f s) := by
    rw [State.enabledList, List.filter_filter]
    exact List.filter_congr fun c _ => Bool.and_comm ..
  have some : c ∈ Chan.list.filter (picked f s) := List.mem_filter.mpr ⟨Chan.mem_list c, hc⟩
  rw [selected, selection, if_neg (by omega), both]
  split
  · rename_i none
    rw [none] at some
    cases some
  · rfl

/-- A request other than RESET_TRIP that the unit accepts, with room for its answer. -/
theorem exec_plain {r : Request} {dt : Nat} {wave : List Bool} {f : RxFrame} {s : State} (residual : Nat) (other : r ≠ .resetTrip)
    (h : Arrives dt wave (.request r) f s) (ok : Accepts r f s) :
    exec (requestInstr r dt residual wave) s = .next (carryOut r f (frameEnded dt wave s)) := by
  rw [exec_accepted residual h ok, shownFor, if_neg other]

/-! ## SET_POINT (R53) -/

theorem each_putSetpoint (t : Int) (p : Chan → Bool) (s : State) : s.each (Chan.list.filter p) (putSetpoint t) =
    { s with chans := .of fun c => if p c = true then { s.chans.get c with tSet := t } else s.chans.get c } :=
  each_selected (fun x => { s with chans := x }) (fun _ ch => { ch with tSet := t }) (fun _ _ => rfl) p s.chans

/-- Settles O25. -/
theorem setPointSetsSelectedSetpoints : Obligations.SetPointSetsSelectedSetpoints := by
  unfold Obligations.SetPointSetsSelectedSetpoints
  intro dt wave f s h ok fits sel v img taken
  have fits' := answerFits_frameEnded fits dt wave
  have chosen : selected (frameEnded dt wave s) f = some (Chan.list.filter (picked f s)) := selected_some (s := frameEnded dt wave s) sel
  have plain : exec (.setPoint dt wave) s = .next (takeSetPoint f (frameEnded dt wave s)) := exec_plain 0 (by simp) h ok
  refine ⟨fun invalid => ?_, fun valid => ?_⟩
  · rw [plain, takeSetPoint, chosen]
    exact congrArg _ ((if_pos invalid).trans (refuse_of_fits fits' _))
  · have nearest : (clampInt img.tLow img.tHigh v = v) ↔ img.tLow ≤ v ∧ v ≤ img.tHigh := by
      unfold clampInt
      split
      · omega
      · split <;> omega
    have status : (if clampInt img.tLow img.tHigh v = v then Status.ok else .clamped) =
        if img.tLow ≤ v ∧ v ≤ img.tHigh then Status.ok else .clamped := by simp only [nearest]
    rw [plain, takeSetPoint, chosen]
    refine congrArg _ ((if_neg valid).trans ((reply_of_fits fits' _ _ _).trans ?_))
    rw [each_putSetpoint]
    obtain ⟨l, hl⟩ := answered_eq f (if img.tLow ≤ v ∧ v ≤ img.tHigh then .ok else .clamped)
      (packChars [⟨12, tempField (some taken)⟩, ⟨4, 0⟩]) (frameEnded dt wave s)
    rw [hl]
    have hl' : answered f (if clampInt img.tLow img.tHigh v = v then .ok else .clamped)
      (packChars [⟨12, tempField (some taken)⟩, ⟨4, 0⟩]) (frameEnded dt wave s) = { frameEnded dt wave s with line := l } :=
      status ▸ hl
    exact congrArg (fun u : State => { u with
      chans := .of fun c => if picked f s c = true then { u.chans.get c with tSet := taken } else u.chans.get c }) hl'

/-! ## HOLD (R54) -/

/-- What a HOLD changes of a channel: its record, its output and firing count, and what the sequencer was told of it. -/
structure Heater where
  chan : Channel
  burst : ChanBurst
  meas : ChanMeas

/-- A state with its heaters replaced. -/
def withHeaters (s : State) (x : Four Heater) : State :=
  { s with chans := x.map (·.chan), burst := { s.burst with chans := x.map (·.burst) },
           meas := { s.meas with chans := x.map (·.meas) } }

/-- The heaters of a state. -/
def heaters (s : State) : Four Heater := .of fun c => ⟨s.chans.get c, s.burst.chans.get c, s.meas.chans.get c⟩

/-- A heater in service that is held until `expiry`; `begins` at the moment at which a period began (R54, R117, R145). -/
def Heater.held (x : Heater) (now expiry : Nat) (begins : Bool) : Heater :=
  if x.chan.state.inService = false then x
  else if x.chan.state = .hold then { x with chan := { x.chan with holdExpiry := some expiry } }
  else
    { chan := x.chan.stopped .hold (some expiry)
      burst := if begins = true ∧ x.burst.out = true then ⟨0, 0, false, some ⟨false, now⟩⟩ else { x.burst with h := 0, r := 0 }
      meas := if begins = true ∧ x.burst.out = true then x.meas.untell else x.meas }

/-- The stop of a channel, as a change of its heater (R115, R117, R145). -/
theorem stopChan_heater (c : Chan) (hold : Option Nat) (s : State) (x : Four Heater) :
    stopChan c .hold hold (withHeaters s x) = withHeaters s (x.set c
      { chan := (x.get c).chan.stopped .hold hold
        burst := if s.atPeriodStart = true ∧ (x.get c).burst.out = true then ⟨0, 0, false, some ⟨false, s.now⟩⟩
          else { (x.get c).burst with h := 0, r := 0 }
        meas := if s.atPeriodStart = true ∧ (x.get c).burst.out = true then (x.get c).meas.untell else (x.get c).meas }) := by
  have begins : (stopFiring c ((withHeaters s x).modChan c fun ch => ch.stopped .hold hold)).atPeriodStart = s.atPeriodStart := rfl
  have out : ((stopFiring c ((withHeaters s x).modChan c fun ch => ch.stopped .hold hold)).burst.chans.get c).out =
      (x.get c).burst.out := by simp [stopFiring, withHeaters]
  rcases cutFirst_cases c (stopFiring c ((withHeaters s x).modChan c fun ch => ch.stopped .hold hold)) with ⟨cut, e⟩ | ⟨uncut, e⟩
  · rw [begins, out] at cut
    rw [stopChan, e]
    simp [withHeaters, stopFiring, Four.map_set, cut, State.modBurst, State.modChan]
    cases c <;> rfl
  · rw [begins, out] at uncut
    rw [stopChan, e]
    simp only [withHeaters, stopFiring, Four.map_set, if_neg uncut, State.modBurst, State.modChan, Four.get_map]
    cases c <;> rfl

theorem holdChan_heater (expiry : Nat) (c : Chan) (s : State) (x : Four Heater) :
    holdChan expiry c (withHeaters s x) = withHeaters s (x.set c ((x.get c).held s.now expiry s.atPeriodStart)) := by
  have state : ((withHeaters s x).chans.get c).state = (x.get c).chan.state := by simp [withHeaters]
  have self : withHeaters s (x.set c (x.get c)) = withHeaters s x := by rw [four_set_get_self]
  have stopped := stopChan_heater c (some expiry) s x
  unfold holdChan Heater.held
  rw [state]
  cases hs : (x.get c).chan.state
  case hold =>
    simp only [ChanState.inService, State.modChan, withHeaters, Four.map_set, Four.get_map]
    cases c <;> rfl
  case tripped | locked => exact self.symm
  all_goals simp [ChanState.inService, stopped]

theorem each_holdChan (expiry : Nat) (p : Chan → Bool) (s : State) : s.each (Chan.list.filter p) (holdChan expiry) =
    withHeaters s (.of fun c => if p c = true then ((heaters s).get c).held s.now expiry s.atPeriodStart else (heaters s).get c) :=
  each_selected (withHeaters s) (fun _ x => x.held s.now expiry s.atPeriodStart) (fun c x => holdChan_heater expiry c s x) p
    (heaters s)

theorem withHeaters_eq {s : State} {x : Four Heater} {chans : Four Channel} {burst : Four ChanBurst} {meas : Four ChanMeas}
    (hc : ∀ c, (x.get c).chan = chans.get c) (hb : ∀ c, (x.get c).burst = burst.get c) (hm : ∀ c, (x.get c).meas = meas.get c) :
    withHeaters s x =
      { s with chans := chans, burst := { s.burst with chans := burst }, meas := { s.meas with chans := meas } } := by
  have ec : x.map (·.chan) = chans := Four.ext_get fun c => by rw [Four.get_map, hc]
  have eb : x.map (·.burst) = burst := Four.ext_get fun c => by rw [Four.get_map, hb]
  have em : x.map (·.meas) = meas := Four.ext_get fun c => by rw [Four.get_map, hm]
  rw [withHeaters, ec, eb, em]

theorem atPeriodStart_iff (s : State) :
    s.atPeriodStart = true ↔ s.burst.period = .running ∧ s.burst.idx = some 0 ∧ s.burst.lastEdge = some s.now := decide_eq_true_iff

/-! ## RELEASE (R55) -/

theorem each_startChoice (p : Chan → Bool) (s : State) : s.each (Chan.list.filter p) startChoice =
    { s with chans := .of fun c => if p c = true then startRecord s c (s.chans.get c) else s.chans.get c } :=
  each_selected (fun x => { s with chans := x }) (startRecord s) (fun _ _ => rfl) p s.chans

/-- HOLD on a mask that selects channels, where its answer fits (R54). -/
theorem takeHold_selected {f : RxFrame} {s : State} (fits : AnswerFits f s) (sel : Selects f s) :
    let asked := charAt f.payload 3
    let minutes := min asked s.loader.image.holdMax
    let takers := Chan.list.filter fun c => picked f s c && (s.chans.get c).state.inService
    takeHold f s =
      if asked = 0 then answered f .badArg [] s
      else if takers = [] then answered f .wrongState [] s
      else (answered f (if asked ≤ s.loader.image.holdMax then .ok else .clamped) [BitVec.ofNat 8 minutes] s).each takers
        (holdChan (s.now + minutes * 60000000)) := by
  intro asked minutes takers
  have both : (Chan.list.filter (picked f s)).filter (fun c => (s.chans.get c).state.inService) = takers := by
    rw [List.filter_filter]
    exact List.filter_congr fun c _ => Bool.and_comm ..
  have micros : seconds (60 * minutes) = minutes * 60000000 := by simp only [seconds]; omega
  have carried := reply_of_fits fits (if asked ≤ s.loader.image.holdMax then .ok else .clamped) (oneChar minutes)
    fun t => t.each takers (holdChan (t.now + seconds (60 * minutes)))
  have now : (answered f (if asked ≤ s.loader.image.holdMax then .ok else .clamped) (oneChar minutes) s).now = s.now := by
    obtain ⟨l, e⟩ := answered_eq f (if asked ≤ s.loader.image.holdMax then .ok else .clamped) (oneChar minutes) s
    rw [e]
  rw [now, micros] at carried
  simp only [takeHold, selected_some sel, refuse_of_fits fits, both]
  rw [← micros] at carried
  simp only [asked, minutes] at carried ⊢
  rw [carried, micros]
  rfl

/-- Settles O26. -/
theorem holdAndReleaseMoveSelectedChannels : Obligations.HoldAndReleaseMoveSelectedChannels := by
  unfold Obligations.HoldAndReleaseMoveSelectedChannels
  refine ⟨fun dt wave f s h ok fits sel => ?_, fun dt wave f s h ok fits sel => ?_⟩
  · intro asked minutes takes expiry enters cut
    have plain : exec (.hold dt wave) s = .next (takeHold f (frameEnded dt wave s)) := exec_plain 0 (by simp) h ok
    have taken := takeHold_selected (s := frameEnded dt wave s) (answerFits_frameEnded fits dt wave) sel
    refine ⟨fun zero => ?_, fun positive untaken => ?_, fun positive ⟨c, hc⟩ => ?_⟩
    · rw [plain, taken, if_pos zero]
    · have empty : Chan.list.filter takes = [] := List.filter_eq_nil_iff.mpr fun c _ => by simp [untaken c]
      rw [plain, taken, if_neg positive]
      exact congrArg _ (if_pos empty)
    · have taker : Chan.list.filter takes ≠ [] := List.ne_nil_of_mem (List.mem_filter.mpr ⟨Chan.mem_list c, hc⟩)
      rw [plain, taken, if_neg positive]
      refine congrArg _ ((if_neg taker).trans ?_)
      have begins : (frameEnded dt wave s).atPeriodStart = true ↔
        s.burst.period = .running ∧ s.burst.idx = some 0 ∧ s.burst.lastEdge = some (s.now + dt) := atPeriodStart_iff _
      have one (c : Chan) :
          (if takes c = true then (Heater.mk (s.chans.get c) (s.burst.chans.get c) (s.meas.chans.get c)).held (s.now + dt) expiry
              (frameEnded dt wave s).atPeriodStart
            else Heater.mk (s.chans.get c) (s.burst.chans.get c) (s.meas.chans.get c)) =
          { chan := if takes c = false then s.chans.get c
              else if (s.chans.get c).state = .hold then { s.chans.get c with holdExpiry := some expiry }
              else (s.chans.get c).stopped .hold (some expiry)
            burst := if cut c then ⟨0, 0, false, some ⟨false, s.now + dt⟩⟩
              else if enters c then { s.burst.chans.get c with h := 0, r := 0 } else s.burst.chans.get c
            meas := if cut c then (s.meas.chans.get c).untell else s.meas.chans.get c } := by
        by_cases ht : takes c = true
        · have serves : (s.chans.get c).state.inService = true := (Bool.and_eq_true_iff.mp ht).2
          by_cases hold : (s.chans.get c).state = .hold
          · simp [Heater.held, hold, cut, enters, ht, ChanState.inService]
          · simp [Heater.held, serves, hold, cut, enters, ht, begins, and_comm]
        · simp [cut, enters, ht]
      show (answered f (if asked ≤ s.loader.image.holdMax then .ok else .clamped) [BitVec.ofNat 8 minutes]
        (frameEnded dt wave s)).each (Chan.list.filter takes) (holdChan expiry) = _
      have line := answered_eq f (if asked ≤ s.loader.image.holdMax then .ok else .clamped) [BitVec.ofNat 8 minutes]
        (frameEnded dt wave s)
      generalize answered f (if asked ≤ s.loader.image.holdMax then .ok else .clamped) [BitVec.ofNat 8 minutes]
        (frameEnded dt wave s) = u at line
      obtain ⟨l, rfl⟩ := line
      refine (each_holdChan ..).trans (withHeaters_eq (fun c => ?_) (fun c => ?_) (fun c => ?_))
      all_goals rw [Four.get_of, Four.get_of, heaters, Four.get_of]
      · exact congrArg Heater.chan (one c)
      · exact congrArg Heater.burst (one c)
      · exact congrArg Heater.meas (one c)
  · intro leaves mask
    have plain : exec (.release dt wave) s = .next (takeRelease f (frameEnded dt wave s)) := exec_plain 0 (by simp) h ok
    have both : (Chan.list.filter (picked f s)).filter (fun c => decide ((s.chans.get c).state = .hold)) =
        Chan.list.filter leaves := by
      rw [List.filter_filter]
      exact List.filter_congr fun c _ => Bool.and_comm ..
    have taken : takeRelease f (frameEnded dt wave s) =
        (answered f .ok [BitVec.ofNat 8 mask] (frameEnded dt wave s)).each (Chan.list.filter leaves) startChoice := by
      rw [takeRelease, selected_some (s := frameEnded dt wave s) sel]
      refine (reply_of_fits (answerFits_frameEnded fits dt wave) ..).trans ?_
      exact congrArg (fun cs => (answered f .ok [BitVec.ofNat 8 (maskOf cs)] (frameEnded dt wave s)).each cs startChoice) both
    obtain ⟨l, hl⟩ := answered_eq f .ok [BitVec.ofNat 8 mask] (frameEnded dt wave s)
    rw [hl, each_startChoice] at taken
    refine ⟨_, plain.trans (congrArg _ taken), fun c left => ?_, fun c stays => ?_, ?_⟩
    · rw [Four.get_of, if_pos left]
      exact startRecord_started { s with now := s.now + dt } c (s.chans.get c)
    · rw [Four.get_of, if_neg (by simp [stays])]
      rfl
    · rw [hl]
      rfl

end Sys2Proof.Machine
end

section
/-! RESET_TRIP (O27). -/

namespace Sys2Proof.Machine

/-! ## The channels cleared (R184, R185) -/

/-- What clearing a channel changes of it: its record, trip cause and lock list, and whether its OVERCURRENT and HEATER_OPEN conditions
have ended. -/
structure Clearing where
  chan : Channel
  cause : Option FaultKind
  locks : List FaultKind
  ended : Bool

/-- The conditions of the channels that are cleared end with the trip (R174; log 17). -/
def Clearing.keeps (x : Four Clearing) (y : Cond) : Bool :=
  !(y.kind.endsWithTrip && (y.chan.map fun c => (x.get c).ended).getD false)

/-- A state with some of its channels cleared. -/
def withClearing (s : State) (x : Four Clearing) : State :=
  { s with chans := x.map (·.chan)
           fault := { s.fault with tripCause := x.map (·.cause), locks := x.map (·.locks),
                                   conds := s.fault.conds.filter (Clearing.keeps x) } }

/-- The channels of a state, none cleared yet. -/
def uncleared (s : State) : Four Clearing := .of fun c => ⟨s.chans.get c, s.fault.tripCause.get c, s.fault.locks.get c, false⟩

theorem withClearing_uncleared (s : State) : withClearing s (uncleared s) = s := by
  have all : s.fault.conds.filter (Clearing.keeps (uncleared s)) = s.fault.conds :=
    List.filter_eq_self.mpr fun y _ => by cases hc : y.chan <;> simp [Clearing.keeps, uncleared, hc]
  rw [withClearing, all]
  rfl

/-- A channel cleared: a lock removed, or a trip ended with the trial that may follow it (R184, R185). -/
def Clearing.clear (s : State) (c : Chan) (x : Clearing) : Clearing :=
  if x.chan.state = .locked then
    ⟨startRecord s c { x.chan with trips := 0, trial := none, clean := none }, x.cause, [], true⟩
  else
    ⟨startRecord s c { x.chan with
        reclose := none, trial := if (x.cause.map FaultKind.endsWithTrip).getD false then some (s.now + seconds 30) else x.chan.trial },
      none, x.locks, true⟩

/-- The conditions left when those of one more channel end. -/
theorem keeps_set (conds : List Cond) (x : Four Clearing) (c : Chan) (a : Clearing) (ended : a.ended = true) :
    (conds.filter (Clearing.keeps x)).filter (fun y => !(y.kind.endsWithTrip && decide (y.chan = some c))) =
      conds.filter (Clearing.keeps (x.set c a)) := by
  rw [List.filter_filter]
  refine List.filter_congr fun y _ => ?_
  cases hc : y.chan with
  | none => simp [Clearing.keeps, hc]
  | some d =>
    by_cases h : d = c
    · subst h
      simp [Clearing.keeps, hc, ended]
      grind
    · simp [Clearing.keeps, hc, h]

theorem clearChan_clearing (c : Chan) (s : State) (x : Four Clearing) :
    clearChan c (withClearing s x) = withClearing s (x.set c ((x.get c).clear s c)) := by
  have state : ((withClearing s x).chans.get c).state = (x.get c).chan.state := by simp [withClearing]
  have conds := keeps_set s.fault.conds x c ((x.get c).clear s c) (by unfold Clearing.clear; split <;> rfl)
  unfold clearChan
  rw [state]
  split
  · rename_i locked
    have cleared : (x.get c).clear s c = _ := if_pos locked
    rw [cleared] at conds ⊢
    simp only [unlockChan, endTripConds, State.keepConds, startChoice, State.modChan, withClearing, Four.map_set, ← conds]
    cases c <;> rfl
  · rename_i tripped
    have cleared : (x.get c).clear s c = _ := if_neg tripped
    rw [cleared] at conds ⊢
    simp only [endTrip, trialFollows, endTripConds, State.keepConds, startChoice, State.modChan, withClearing, Four.map_set, ← conds]
    cases c <;> rfl

/-- The clearing of the channels that `p` picks. -/
def clearing (s : State) (p : Chan → Bool) : Four Clearing :=
  .of fun c => if p c = true then ((uncleared s).get c).clear s c else (uncleared s).get c

theorem each_clearChan (p : Chan → Bool) (s : State) :
    s.each (Chan.list.filter p) clearChan = withClearing s (clearing s p) := by
  have e := each_selected (withClearing s) (fun c x => x.clear s c) (fun c x => clearChan_clearing c s x) p (uncleared s)
  rwa [withClearing_uncleared] at e

theorem clearing_get_other {s : State} {p : Chan → Bool} {c : Chan} (h : p c = false) :
    (clearing s p).get c = ⟨s.chans.get c, s.fault.tripCause.get c, s.fault.locks.get c, false⟩ := by
  simp [clearing, uncleared, h]

theorem clearing_get_locked {s : State} {p : Chan → Bool} {c : Chan} (h : p c = true) (locked : (s.chans.get c).state = .locked) :
    (clearing s p).get c =
      ⟨startRecord s c { s.chans.get c with trips := 0, trial := none, clean := none }, s.fault.tripCause.get c, [], true⟩ := by
  simp [clearing, uncleared, h, Clearing.clear, locked]

theorem clearing_get_tripped {s : State} {p : Chan → Bool} {c : Chan} (h : p c = true) (other : (s.chans.get c).state ≠ .locked) :
    (clearing s p).get c =
      ⟨startRecord s c { s.chans.get c with
          reclose := none
          trial := if ((s.fault.tripCause.get c).map FaultKind.endsWithTrip).getD false = true then some (s.now + seconds 30)
            else (s.chans.get c).trial },
        none, s.fault.locks.get c, true⟩ := by
  simp [clearing, uncleared, h, Clearing.clear, other]

theorem clearing_ended (s : State) (p : Chan → Bool) (c : Chan) : ((clearing s p).get c).ended = p c := by
  cases h : p c with
  | false => rw [clearing_get_other h]
  | true =>
    by_cases locked : (s.chans.get c).state = .locked
    · rw [clearing_get_locked h locked]
    · rw [clearing_get_tripped h locked]

theorem keeps_clearing (s : State) (p : Chan → Bool) (x : Cond) : Clearing.keeps (clearing s p) x = true ↔
    ¬∃ c, p c = true ∧ x.chan = some c ∧ (x.kind = .overcurrent ∨ x.kind = .heaterOpen) := by
  have kinds : x.kind.endsWithTrip = true ↔ x.kind = .overcurrent ∨ x.kind = .heaterOpen := by cases x.kind <;> decide
  cases hc : x.chan with
  | none => simp [Clearing.keeps, hc]
  | some d =>
    rw [Clearing.keeps, hc, Option.map_some, Option.getD_some, clearing_ended, Bool.not_eq_true', ← Bool.not_eq_true,
      Bool.and_eq_true, kinds]
    refine not_congr ⟨fun ⟨kind, picked⟩ => ⟨d, picked, rfl, kind⟩, fun ⟨c, picked, same, kind⟩ => ?_⟩
    cases same
    exact ⟨kind, picked⟩

/-! ## The earth-leakage lock (R186) -/

/-- What clearing the channels that `p` picks makes of the state: the last lock list that held EARTH_LEAKAGE takes the condition with it
and closes the contactor. -/
structure Cleared (p : Chan → Bool) (s t : State) : Prop where
  chans : t.chans = (clearing s p).map (·.chan)
  causes : t.fault.tripCause = (clearing s p).map (·.cause)
  locks : t.fault.locks = (clearing s p).map (·.locks)
  conds : ∀ x, x ∈ t.fault.conds ↔ x ∈ s.fault.conds ∧
    ¬(∃ c, p c = true ∧ x.chan = some c ∧ (x.kind = .overcurrent ∨ x.kind = .heaterOpen)) ∧
    ¬(x.kind = .earthLeakage ∧ x.chan = none ∧ s.earthLock = true ∧ t.earthLock = false)
  burst : t.burst = { s.burst with
    contactor := if s.earthLock = true ∧ t.earthLock = false then true else s.burst.contactor }
  rest : { t with chans := s.chans, burst := s.burst, fault := s.fault } = s
  fault : { t.fault with conds := s.fault.conds, tripCause := s.fault.tripCause, locks := s.fault.locks } = s.fault

theorem clearChans_cleared (p : Chan → Bool) (s : State) : Cleared p s (clearChans (Chan.list.filter p) s) := by
  have conds (x : Cond) : x ∈ (withClearing s (clearing s p)).fault.conds ↔ x ∈ s.fault.conds ∧
      ¬(∃ c, p c = true ∧ x.chan = some c ∧ (x.kind = .overcurrent ∨ x.kind = .heaterOpen)) := by
    rw [← keeps_clearing s p x]
    exact List.mem_filter
  simp only [clearChans, each_clearChan]
  split
  · rename_i ends
    obtain ⟨was, is⟩ := Bool.and_eq_true_iff.mp ends
    have is : (endEarthLock (withClearing s (clearing s p))).earthLock = false := (Bool.not_eq_true' _).mp is
    refine ⟨rfl, rfl, rfl, fun x => ?_, ?_, rfl, rfl⟩
    · have cleared : x ∈ (endEarthLock (withClearing s (clearing s p))).fault.conds ↔
          x ∈ (withClearing s (clearing s p)).fault.conds ∧ ¬(x.kind = .earthLeakage ∧ x.chan = none) :=
        List.mem_filter.trans (by rw [Bool.not_eq_true', decide_eq_false_iff_not])
      rw [cleared, conds, was, is]
      simp [and_assoc]
    · rw [if_pos ⟨was, is⟩]
      rfl
  · rename_i stays
    have stays : ¬(s.earthLock = true ∧ (withClearing s (clearing s p)).earthLock = false) := by simpa using stays
    refine ⟨rfl, rfl, rfl, fun x => ?_, ?_, rfl, rfl⟩
    · rw [conds]
      exact ⟨fun ⟨was, other⟩ => ⟨was, other, fun ends => stays ends.2.2⟩, fun ⟨was, other, _⟩ => ⟨was, other⟩⟩
    · rw [if_neg stays]
      rfl

/-! ## The causes (R183) -/

/-- The causes of a channel that is TRIPPED or LOCKED are absent: no OVERTEMP is active, and for a lock neither is its cause in the lock
list (R183). -/
theorem causesAbsent_eq {s : State} {c : Chan} (out : (s.chans.get c).state.inService = false)
    (kinds : ∀ k, s.fault.tripCause.get c = some k → k = .overcurrent ∨ k = .overtemp ∨ k = .heaterOpen) :
    causesAbsent s c = (!s.hasCond .overtemp (some c) &&
      (decide ((s.chans.get c).state = .tripped) ||
        ((!(s.fault.locks.get c).contains .earthLeakage || !s.comparator) &&
          (!(s.fault.locks.get c).contains .leakTestFail || !s.hasCond .leakTestFail none)))) := by
  unfold causesAbsent
  cases hot : s.hasCond .overtemp (some c) with
  | true => rfl
  | false =>
    have state : (s.chans.get c).state = .tripped ∨ (s.chans.get c).state = .locked := by
      revert out
      cases (s.chans.get c).state <;> simp [ChanState.inService]
    rcases state with tripped | locked
    · simp only [tripped]
      cases cause : s.fault.tripCause.get c with
      | none => rfl
      | some k => rcases kinds k cause with rfl | rfl | rfl <;> simp [causeAbsent, hot]
    · simp only [locked]
      induction s.fault.locks.get c with
      | nil => rfl
      | cons k l ih =>
        simp only [Bool.not_false, Bool.true_and] at ih ⊢
        rw [List.all_cons, ih]
        cases k <;> simp [causeAbsent, hot] <;> grind

/-- The thresholds of the leakage codes (R214). -/
theorem leakThreshold_eq (code : Nat) : leakThreshold code = if code = 0 then 30 else if code = 1 then 100 else 300 := by
  unfold leakThreshold
  split <;> simp_all

/-- RESET_TRIP on a mask that selects channels, where its answer fits (R56). -/
theorem takeResetTrip_selected {f : RxFrame} {s : State} (fits : AnswerFits f s) (sel : Selects f s) {clears refuses : Chan → Bool}
    (hc : ∀ c, clears c = (picked f s c && !(s.chans.get c).state.inService && causesAbsent s c))
    (hr : ∀ c, refuses c = (picked f s c && !(s.chans.get c).state.inService && !causesAbsent s c)) :
    takeResetTrip f s = clearChans (Chan.list.filter clears)
      (answered f (if Chan.list.filter refuses = [] then .ok else .causePresent)
        [BitVec.ofNat 8 (16 * maskOf (Chan.list.filter refuses) + maskOf (Chan.list.filter clears))] s) := by
  have narrowed (q : Chan → Bool) : ((Chan.list.filter (picked f s)).filter fun c => !(s.chans.get c).state.inService).filter q =
      Chan.list.filter fun c => picked f s c && !(s.chans.get c).state.inService && q c := by
    rw [List.filter_filter, List.filter_filter]
    exact List.filter_congr fun c _ => by rw [Bool.and_comm, Bool.and_comm (q c), ← Bool.and_assoc]
  have cleared := List.filter_congr (l := Chan.list) fun c _ => hc c
  have refused := List.filter_congr (l := Chan.list) fun c _ => hr c
  rw [takeResetTrip, selected_some sel]
  simp only [narrowed, cleared, refused]
  exact reply_of_fits fits ..

/-- Settles O27. -/
theorem resetTripClearsAbsentCauses : Obligations.ResetTripClearsAbsentCauses := by
  unfold Obligations.ResetTripClearsAbsentCauses
  intro dt residual wave f s h ok fits sel kinds code threshold out absent clears refuses mask status
  have fits' : AnswerFits f (frameEnded dt wave (s.showResidual residual)) :=
    answerFits_frameEnded (s := s.showResidual residual) fits dt wave
  have sound (c : Chan) (hc : out c = true) : absent c = causesAbsent (frameEnded dt wave (s.showResidual residual)) c := by
    have stopped : (s.chans.get c).state.inService = false := by simpa using (Bool.and_eq_true_iff.mp hc).2
    have comparator : (!(frameEnded dt wave (s.showResidual residual)).comparator) = decide (residual ≤ threshold) := by
      rw [State.comparator, ← decide_not]
      exact decide_eq_decide.mpr (not_lt.trans (by rw [leakThreshold_eq]; rfl))
    rw [causesAbsent_eq (s := frameEnded dt wave (s.showResidual residual)) stopped (kinds c), comparator]
    rfl
  have hclears (c : Chan) : clears c = (out c && causesAbsent (frameEnded dt wave (s.showResidual residual)) c) := by
    cases hc : out c with
    | false => simp [clears, hc]
    | true => simp [clears, hc, sound c hc]
  have hrefuses (c : Chan) : refuses c = (out c && !causesAbsent (frameEnded dt wave (s.showResidual residual)) c) := by
    cases hc : out c with
    | false => simp [refuses, hc]
    | true => simp [refuses, hc, sound c hc]
  have taken : exec (.resetTrip dt residual wave) s = .next (clearChans (Chan.list.filter clears)
      (answered f status [BitVec.ofNat 8 mask] (frameEnded dt wave (s.showResidual residual)))) :=
    (exec_accepted residual h ok).trans (congrArg _ (takeResetTrip_selected fits' sel hclears hrefuses))
  obtain ⟨l, hl⟩ := answered_eq f status [BitVec.ofNat 8 mask] (frameEnded dt wave (s.showResidual residual))
  have cleared := clearChans_cleared clears (answered f status [BitVec.ofNat 8 mask] (frameEnded dt wave (s.showResidual residual)))
  refine ⟨_, taken, ?_⟩
  generalize clearChans (Chan.list.filter clears)
    (answered f status [BitVec.ofNat 8 mask] (frameEnded dt wave (s.showResidual residual))) = t at *
  obtain ⟨chans, causes, locks, conds, burst, rest, fault⟩ := cleared
  rw [hl] at chans causes locks conds burst fault rest
  refine ⟨fun c kept => ?_, fun c hc tripped => ?_, fun c hc locked => ?_, conds, burst, rest.trans hl.symm, fault⟩
  all_goals rw [chans, causes, locks, Four.get_map, Four.get_map, Four.get_map]
  · rw [clearing_get_other kept]
    exact ⟨rfl, rfl, rfl⟩
  · have trial : ((s.fault.tripCause.get c).map FaultKind.endsWithTrip).getD false = true ↔
        s.fault.tripCause.get c = some .overcurrent ∨ s.fault.tripCause.get c = some .heaterOpen := by
      cases s.fault.tripCause.get c with
      | none => simp
      | some k => cases k <;> simp [FaultKind.endsWithTrip]
    rw [clearing_get_tripped hc fun locked => by cases tripped.symm.trans locked]
    refine ⟨rfl, rfl, ?_⟩
    rw [← if_congr trial (Eq.refl (some (s.now + dt + seconds 30))) (Eq.refl (s.chans.get c).trial)]
    exact startRecord_started { s with now := s.now + dt } c _
  · rw [clearing_get_locked hc (by exact locked)]
    exact ⟨rfl, rfl, startRecord_started { s with now := s.now + dt } c _⟩

end Sys2Proof.Machine
end

section
/-! Deferred commands and RESLOT (O28), and the requests that read: the fault queue and the identity (O31), a channel and the station
(O32), the halt record and a peer entry (O33). -/

namespace Sys2Proof.Machine

/-! ## Deferred commands and RESLOT (R48, R57 to R59) -/

/-- A request answered with one status and result whose work lies outside the line. -/
theorem exec_answered {r : Request} {dt : Nat} {wave : List Bool} {f : RxFrame} {s : State} (residual : Nat) (other : r ≠ .resetTrip)
    (h : Arrives dt wave (.request r) f s) (ok : Accepts r f s) (fits : AnswerFits f s) {st : Status} {result : List Byte}
    {act : State → State} (taken : carryOut r f (frameEnded dt wave s) = reply f st result act (frameEnded dt wave s)) :
    exec (requestInstr r dt residual wave) s = .next (act (answered f st result (frameEnded dt wave s))) := by
  rw [exec_plain residual other h ok, taken, reply_of_fits (answerFits_frameEnded fits dt wave)]

/-- Settles O28. -/
theorem deferredCommandsAndReslotStart : Obligations.DeferredCommandsAndReslotStart := by
  unfold Obligations.DeferredCommandsAndReslotStart
  constructor
  · intro dt wave f s fits flight
    refine ⟨fun h ok present => ?_, fun h ok lost => ?_, fun h ok => ?_⟩
    · have taken : carryOut .leakTest f (frameEnded dt wave s) = reply f .deferred []
          (fun s => startLeakTest (putInFlight .leakTest f s)) (frameEnded dt wave s) :=
        if_neg (Bool.eq_false_iff.mp (decide_eq_false present))
      obtain ⟨l, hl⟩ := answered_eq f .deferred [] (frameEnded dt wave s)
      refine (exec_answered 0 (by simp) h ok fits taken).trans (congrArg Host.Outcome.next ?_)
      rw [hl]
      rfl
    · have taken : carryOut .leakTest f (frameEnded dt wave s) = reply f .wrongState [] id (frameEnded dt wave s) :=
        if_pos (decide_eq_true lost)
      exact exec_answered 0 (by simp) h ok fits taken
    · obtain ⟨l, hl⟩ := answered_eq f .deferred [] (frameEnded dt wave s)
      refine (exec_answered (act := fun s => startMeasure (putInFlight .measure f s)) 0 (by simp) h ok fits rfl).trans
        (congrArg Host.Outcome.next ?_)
      rw [hl]
      rfl
  · intro dt wave f s h ok fits due
    have taken := exec_answered (act := startReslot) (result := []) (st := .ok) 0 (by simp) h ok fits rfl
    obtain ⟨l, hl⟩ := answered_eq f .ok [] (frameEnded dt wave s)
    rw [hl] at taken ⊢
    exact ⟨fun listening => taken.trans (congrArg _ (if_pos listening)), fun other => taken.trans (congrArg _ (if_neg other))⟩

/-! ## Fields read back (R210, R213) -/

/-- The fields are read back one behind the other from the bit `off` on (R210). -/
def ReadBack (x : List Byte) : Nat → List Field → Prop
  | _, [] => True
  | off, f :: fs => fieldAt x off f.width = f.value % 2 ^ f.width ∧ ReadBack x (off + f.width) fs

theorem packChars_readBack (fs : List Field) (whole : widthOf fs % 8 = 0) : ReadBack (packChars fs) 0 fs := by
  have behind (pre post : List Field) (whole : widthOf (pre ++ post) % 8 = 0) :
      ReadBack (packChars (pre ++ post)) (widthOf pre) post := by
    induction post generalizing pre with
    | nil => trivial
    | cons f post ih =>
      have next := ih (pre ++ [f])
      rw [List.append_assoc, show widthOf (pre ++ [f]) = widthOf pre + f.width by simp [widthOf_eq]] at next
      exact ⟨fieldAt_packChars pre post f whole, next whole⟩
  exact behind [] fs whole

theorem flag_mod (b : Bool) : flag b % 2 = flag b := by cases b <;> rfl

theorem chanField_mod (c : Option Chan) : chanField c % 8 = chanField c := by
  cases c with
  | none => rfl
  | some c => cases c <;> rfl

theorem FaultKind.code_mod (k : FaultKind) : k.code % 32 = k.code := by cases k <;> rfl
theorem FaultClass.code_mod (k : FaultClass) : k.code % 4 = k.code := by cases k <;> rfl
theorem ChanState.code_mod (k : ChanState) : k.code % 8 = k.code := by cases k <;> rfl
theorem TempSource.code_mod (k : TempSource) : k.code % 8 = k.code := by cases k <;> rfl
theorem StationState.code_mod (k : StationState) : k.code % 8 = k.code := by cases k <;> rfl
theorem FlowStatus.code_mod (k : FlowStatus) : k.code % 4 = k.code := by cases k <;> rfl
theorem AgeState.code_mod (k : AgeState) : k.code % 4 = k.code := by cases k <;> rfl

theorem haltCauseCode_mod (k : Option HaltCause) : haltCauseCode k % 16 = haltCauseCode k := by
  cases k with
  | none => rfl
  | some k => cases k <;> rfl

theorem tempField_mod (t : Option Int) : tempField t % 4096 = tempField t := by
  cases t with
  | none => rfl
  | some t => simp only [tempField]; omega

/-- The layout of a fault record (R213). -/
theorem recordChars_holds (r : FaultRecord) : HoldsRecord r (recordChars r) := by
  have read := packChars_readBack [⟨5, r.kind.code⟩, ⟨3, chanField r.chan⟩, ⟨2, r.cls.code⟩, ⟨1, flag r.trial⟩, ⟨8, r.count⟩,
    ⟨12, tempField r.value⟩, ⟨24, r.first⟩, ⟨24, r.latest⟩, ⟨1, 0⟩] (by simp [widthOf])
  simp only [ReadBack, Nat.reduceAdd, Nat.reducePow, Nat.zero_add, FaultKind.code_mod, chanField_mod, FaultClass.code_mod, flag_mod,
    tempField_mod] at read
  obtain ⟨kind, chan, cls, trial, count, value, first, latest, -⟩ := read
  exact ⟨by simp [recordChars, widthOf], ⟨kind, chan, cls, trial⟩, count, value, first, latest⟩

/-! ## The fault queue and the identity (R61, R66, R67) -/

/-- Settles O31. -/
theorem faultPopAndIdentAnswer : Obligations.FaultPopAndIdentAnswer := by
  unfold Obligations.FaultPopAndIdentAnswer
  refine ⟨fun dt wave f s h ok fits => ⟨fun empty => ?_, fun r behind oldest => ?_⟩,
    fun dt wave f s fits => ⟨fun h ok => ⟨fun empty => ?_, fun r behind oldest => ?_⟩, fun h ok => ?_⟩⟩
  · have none : (frameEnded dt wave s).fault.queue = [] := empty
    refine exec_answered (act := id) 0 (by simp) h ok fits ?_
    rw [carryOut, takeFaultPop, none]
    rfl
  · have head : (frameEnded dt wave s).fault.queue = r :: behind := oldest
    refine ⟨recordChars r, recordChars_holds r, ?_⟩
    have taken := exec_answered (act := popFault) (st := .ok) (result := recordChars r) 0 (by simp) h ok fits
      (by rw [carryOut, takeFaultPop, head])
    obtain ⟨l, hl⟩ := answered_eq f .ok (recordChars r) (frameEnded dt wave s)
    rw [hl] at taken ⊢
    rw [← show s.fault.queue.tail = behind by rw [oldest]; rfl]
    exact taken
  · have none : (frameEnded dt wave s).fault.queue = [] := empty
    refine exec_answered (act := id) 0 (by simp) h ok fits ?_
    rw [carryOut, takeReadFaultHead, none]
    rfl
  · have head : (frameEnded dt wave s).fault.queue = r :: behind := oldest
    refine ⟨recordChars r, recordChars_holds r, exec_answered (act := id) 0 (by simp) h ok fits ?_⟩
    rw [carryOut, takeReadFaultHead, head]
    rfl
  · have read := packChars_readBack [⟨8, 0x3A⟩, ⟨8, 0x01⟩, ⟨16, s.loader.crc.toNat⟩, ⟨8, s.loader.image.id⟩,
      ⟨12, s.loader.image.position⟩, ⟨3, s.loader.image.feeder⟩, ⟨1, flag s.loader.clamped⟩] (by simp [widthOf])
    have crc : s.loader.crc.toNat % 65536 = s.loader.crc.toNat := Nat.mod_eq_of_lt s.loader.crc.isLt
    simp only [ReadBack, Nat.reduceAdd, Nat.reducePow, Nat.zero_add, Nat.reduceMod, flag_mod, crc] at read
    obtain ⟨family, revision, crc, own, position, feeder, clamped, -⟩ := read
    exact ⟨identChars s, by simp [identChars, widthOf], exec_answered (act := id) 0 (by simp) h ok fits rfl, family, revision, crc, own, position, feeder,
      clamped⟩

/-! ## A channel and the station (R62, R63, R194) -/

/-- The greatest level of a list of kinds, from a start value. -/
theorem foldl_level (l : List FaultKind) (m : Nat) :
    (∀ k ∈ l, k.level ≤ l.foldl (fun m k => max m k.level) m) ∧ m ≤ l.foldl (fun m k => max m k.level) m ∧
    (l.foldl (fun m k => max m k.level) m = m ∨ ∃ k ∈ l, k.level = l.foldl (fun m k => max m k.level) m) := by
  induction l generalizing m with
  | nil => simp
  | cons k l ih =>
    obtain ⟨most, start, taken⟩ := ih (max m k.level)
    rw [List.foldl_cons]
    refine ⟨fun j hj => ?_, by omega, ?_⟩
    · rcases List.mem_cons.mp hj with rfl | hj
      · omega
      · exact most j hj
    · rcases taken with first | ⟨j, hj, level⟩
      · rcases le_total m k.level with h | h
        · exact .inr ⟨k, List.mem_cons_self .., by omega⟩
        · exact .inl (by omega)
      · exact .inr ⟨j, List.mem_cons_of_mem k hj, level⟩

theorem mem_locks_iff (x : Four (List FaultKind)) (k : FaultKind) : k ∈ x.toList.flatten ↔ ∃ c, k ∈ x.get c := by
  simp only [Four.toList, List.flatten_cons, List.flatten_nil, List.append_nil, List.mem_append]
  constructor
  · rintro (h | h | h | h)
    · exact ⟨.c0, h⟩
    · exact ⟨.c1, h⟩
    · exact ⟨.c2, h⟩
    · exact ⟨.c3, h⟩
  · rintro ⟨c, h⟩
    cases c
    · exact .inl h
    · exact .inr (.inl h)
    · exact .inr (.inr (.inl h))
    · exact .inr (.inr (.inr h))

/-- The highest active level is the greatest of the conditions and of the lock lists, and 0 with none (R194). -/
theorem highestLevel_greatest (s : State) :
    (∀ x ∈ s.fault.conds, x.kind.level ≤ s.highestLevel) ∧ (∀ c, ∀ k ∈ s.fault.locks.get c, k.level ≤ s.highestLevel) ∧
    (s.highestLevel ≠ 0 → (∃ x ∈ s.fault.conds, x.kind.level = s.highestLevel) ∨
      ∃ c, ∃ k ∈ s.fault.locks.get c, k.level = s.highestLevel) := by
  obtain ⟨most, -, taken⟩ := foldl_level (s.fault.conds.map (·.kind) ++ s.fault.locks.toList.flatten) 0
  refine ⟨fun x hx => most _ (List.mem_append_left _ (List.mem_map_of_mem hx)),
    fun c k hk => most k (List.mem_append_right _ ((mem_locks_iff _ k).mpr ⟨c, hk⟩)), fun some => ?_⟩
  obtain ⟨k, hk, level⟩ := taken.resolve_left some
  rcases List.mem_append.mp hk with cond | lock
  · obtain ⟨x, hx, rfl⟩ := List.mem_map.mp cond
    exact .inl ⟨x, hx, level⟩
  · obtain ⟨c, hc⟩ := (mem_locks_iff _ k).mp lock
    exact .inr ⟨c, k, hc, level⟩

theorem shownTemp_own {s : State} {c : Chan} {a : Accepted} (on : s.enabled c = true) (good : (s.meas.wall.get c).cond = none)
    (accepted : (s.meas.wall.get c).accepted = some a) : shownTemp s c = (some a.value, .own) := by
  simp [shownTemp, State.ownTemp, SensorState.temp, on, good, accepted]

theorem shownTemp_other {s : State} {c : Chan}
    (h : s.enabled c = false ∨ (s.meas.wall.get c).cond ≠ none ∨ (s.meas.wall.get c).accepted = none) : shownTemp s c =
      if (s.chans.get c).state = .substitute then ((s.chans.get c).ctlTemp, (s.chans.get c).ctlSrc) else (none, .none) := by
  have invalid : s.ownTemp c = none := by
    rcases h with off | bad | empty
    · simp [State.ownTemp, off]
    · simp [State.ownTemp, SensorState.temp, Option.isSome_iff_ne_none.mpr bad]
    · simp [State.ownTemp, SensorState.temp, empty]
  rw [shownTemp, invalid]

theorem chanOf_num (c : Chan) : chanOf c.num = some c := by cases c <;> rfl

theorem chanOf_some {n : Nat} {c : Chan} (h : chanOf n = some c) : c.num = n := by
  unfold chanOf at h
  split at h <;> cases h <;> rfl

theorem chanOf_high {n : Nat} (h : 3 < n) : chanOf n = none := by
  cases hc : chanOf n with
  | none => rfl
  | some c =>
    have num := chanOf_some hc
    cases c <;> simp only [Chan.num] at num <;> omega

/-- Settles O32. -/
theorem readChannelAndStationShow : Obligations.ReadChannelAndStationShow := by
  unfold Obligations.ReadChannelAndStationShow
  refine ⟨fun s => ⟨fun c => ?_, highestLevel_greatest s⟩, fun dt wave f s h ok fits => ?_, fun dt wave f s h ok fits => ?_⟩
  · refine ⟨fun a on good accepted => shownTemp_own on good accepted, fun invalid => ?_⟩
    rw [shownTemp_other invalid]
    exact ⟨fun borrows => if_pos borrows, fun other => if_neg other⟩
  · intro n
    refine ⟨fun wrong => exec_answered (act := id) 0 (by simp) h ok fits ?_, fun c num on => ?_⟩
    · have off (c : Chan) (hc : chanOf n = some c) : s.enabled c = false := by
        refine wrong.elim (fun high => ?_) fun off => off c (chanOf_some hc)
        rw [chanOf_high high] at hc
        cases hc
      rw [carryOut, takeReadChannel]
      split
      · rename_i c hc
        exact if_neg (by rw [show (frameEnded dt wave s).enabled c = false from off c hc]; decide)
      · rfl
    · have chan : chanOf (charAt f.payload 2) = some c := (congrArg chanOf num).symm.trans (chanOf_num c)
      have taken : carryOut .readChannel f (frameEnded dt wave s) =
          answerOnly f .ok (channelChars (frameEnded dt wave s) c) (frameEnded dt wave s) := by
        rw [carryOut, takeReadChannel, chan]
        exact if_pos on
      have read : ReadBack (channelChars (frameEnded dt wave s) c) 0 [⟨3, (s.chans.get c).state.code⟩,
        ⟨3, (shownTemp s c).2.code⟩, ⟨2, (s.chans.get c).trips⟩, ⟨12, tempField (shownTemp s c).1⟩,
        ⟨12, tempField (some (s.chans.get c).tSet)⟩, ⟨11, (s.chans.get c).d⟩, ⟨11, (s.chans.get c).ds⟩,
        ⟨10, (s.meas.chans.get c).iEff⟩, ⟨8, holdMinutes (frameEnded dt wave s) (s.chans.get c)⟩] :=
        packChars_readBack _ (by simp [widthOf])
      simp only [ReadBack, Nat.reduceAdd, Nat.reducePow, Nat.zero_add, ChanState.code_mod, TempSource.code_mod, tempField_mod]
        at read
      obtain ⟨state, src, trips, temp, setpoint, d, ds, iEff, minutes, -⟩ := read
      refine ⟨channelChars (frameEnded dt wave s) c, by simp [channelChars, widthOf],
        exec_answered (act := id) 0 (by simp) h ok fits taken, state, src, trips, temp, setpoint, d, ds, iEff,
        fun e hold expiry => ?_, fun other => ?_⟩
      · rw [minutes, holdMinutes, hold, expiry]
        rfl
      · rw [minutes, holdMinutes]
        split
        · exact absurd ‹_› other
        · rfl
  · have line := frameEnded_line (dt := dt) (wave := wave) (active_of_arrives h)
    have lineErr : (frameEnded dt wave s).line.lineErr = s.line.lineErr := by simp [line, Line.dropFrame]
    have overrun : (frameEnded dt wave s).line.overrun = s.line.overrun := by simp [line, Line.dropFrame]
    have read : ReadBack (stationChars (frameEnded dt wave s)) 0 [⟨3, s.station.state.code⟩, ⟨1, 0⟩, ⟨1, flag s.loader.clamped⟩,
      ⟨1, flag (frameEnded dt wave s).line.lineErr⟩, ⟨1, flag (frameEnded dt wave s).line.overrun⟩, ⟨1, flag s.mainsIsLost⟩,
      ⟨12, s.budget.u⟩, ⟨16, min s.budget.s 65535⟩, ⟨12, s.budget.a⟩, ⟨11, s.budget.k⟩, ⟨3, s.burst.slot⟩, ⟨6, s.phase⟩,
      ⟨2, s.peers.flow.code⟩, ⟨1, flag s.peers.ownInput⟩, ⟨3, s.highestLevel⟩, ⟨6, 0⟩] :=
      packChars_readBack _ (by simp [widthOf])
    have sum : min s.budget.s 65535 % 65536 = min s.budget.s 65535 := by omega
    simp only [ReadBack, Nat.reduceAdd, Nat.reducePow, Nat.zero_add, StationState.code_mod, FlowStatus.code_mod, flag_mod, sum,
      lineErr, overrun] at read
    obtain ⟨state, -, clamped, err, overrun, lost, u, s', a, k, slot, phase, flow, own, level, -⟩ := read
    refine ⟨stationChars (frameEnded dt wave s), by simp [stationChars, widthOf],
      exec_answered (act := id) 0 (by simp) h ok fits rfl, state, clamped, err, overrun, lost, u, s', a, k, slot,
      fun i running index => ?_, fun other => ?_, flow, own, level⟩
    · rw [phase, State.phase, State.phase?, if_pos running, index]
      rfl
    · rw [phase, State.phase, State.phase?, if_neg other]
      rfl

/-! ## The halt record and a peer entry (R64, R65) -/

theorem haltPart_high {r : HaltRecord} {n : Nat} (h : 4 < n) : haltPart r n = none := by
  obtain ⟨m, rfl⟩ : ∃ m, n = m + 1 := ⟨n - 1, by omega⟩
  rw [haltPart, chanOf_high (by omega)]
  rfl

/-- The whole seconds since a peer's last frame, up to the age at which its entry is removed (R65; log 32). -/
theorem peerSeconds_eq {s : State} {p : Peer} (young : (s.now - p.last) / 1000000 ≤ 30 * s.loader.image.rInt) :
    peerSeconds s p = (s.now - p.last) / 1000000 := Nat.min_eq_left young

/-- Settles O33. -/
theorem readHaltAndPeerShow : Obligations.ReadHaltAndPeerShow := by
  unfold Obligations.ReadHaltAndPeerShow
  refine ⟨fun dt wave f s h ok fits => ?_, fun dt wave f s h ok fits => ?_⟩
  · intro n r
    have taken (x : List Byte) (part : haltPart r n = some x) :
        carryOut .readHalt f (frameEnded dt wave s) = answerOnly f .ok x (frameEnded dt wave s) := by
      have part : haltPart (frameEnded dt wave s).halt.record (charAt f.payload 2) = some x := part
      rw [carryOut, takeReadHalt, part]
    refine ⟨fun high => exec_answered (act := id) 0 (by simp) h ok fits ?_, fun zero => ?_, fun c num => ?_⟩
    · have none : haltPart (frameEnded dt wave s).halt.record (charAt f.payload 2) = none := haltPart_high high
      rw [carryOut, takeReadHalt, none]
      rfl
    · have read := packChars_readBack [⟨1, flag r.valid⟩, ⟨4, haltCauseCode r.first⟩, ⟨4, haltCauseCode r.second⟩, ⟨24, r.uptime⟩,
        ⟨12, r.qs⟩, ⟨12, r.a⟩, ⟨7, 0⟩] (by simp [widthOf])
      simp only [ReadBack, Nat.reduceAdd, Nat.reducePow, Nat.zero_add, flag_mod, haltCauseCode_mod] at read
      obtain ⟨valid, first, second, uptime, qs, a, -⟩ := read
      exact ⟨haltChars r, by simp [haltChars, widthOf],
        exec_answered (act := id) 0 (by simp) h ok fits (taken _ (by rw [zero]; rfl)), valid, first, second, uptime, qs, a⟩
    · have read := packChars_readBack [⟨3, (r.chans.get c).state.code⟩, ⟨12, tempField (r.chans.get c).temp⟩,
        ⟨11, (r.chans.get c).d⟩, ⟨11, (r.chans.get c).ds⟩, ⟨3, 0⟩] (by simp [widthOf])
      simp only [ReadBack, Nat.reduceAdd, Nat.reducePow, Nat.zero_add, ChanState.code_mod, tempField_mod] at read
      obtain ⟨state, temp, d, ds, -⟩ := read
      have part : haltPart r n = some (haltChanChars (r.chans.get c)) := by rw [num, haltPart, chanOf_num]; rfl
      exact ⟨haltChanChars (r.chans.get c), by simp [haltChanChars, widthOf],
        exec_answered (act := id) 0 (by simp) h ok fits (taken _ part), state, temp, d, ds⟩
  · intro index part
    have inRange (low : index ≤ 15) (two : part ≤ 1) : carryOut .readPeer f (frameEnded dt wave s) =
        match s.peers.entries[index]? with
        | none => answerOnly f .empty [] (frameEnded dt wave s)
        | some p => answerOnly f .ok ((peerPart (frameEnded dt wave s) p part).getD []) (frameEnded dt wave s) :=
      if_neg (by omega)
    have taken {p : Peer} {x : List Byte} (low : index ≤ 15) (two : part ≤ 1) (entry : s.peers.entries[index]? = some p)
        (shown : peerPart (frameEnded dt wave s) p part = some x) :
        carryOut .readPeer f (frameEnded dt wave s) = answerOnly f .ok x (frameEnded dt wave s) := by
      rw [inRange low two, entry]
      exact congrArg (fun shown : Option (List Byte) => answerOnly f .ok (shown.getD []) (frameEnded dt wave s)) shown
    refine ⟨fun wrong => exec_answered (act := id) 0 (by simp) h ok fits (if_pos wrong), fun low two beyond => ?_,
      fun p low entry => ⟨fun first => ?_, fun second => ?_⟩⟩
    · refine exec_answered (act := id) 0 (by simp) h ok fits ?_
      rw [inRange low two, List.getElem?_eq_none beyond]
      rfl
    · have read := packChars_readBack [⟨8, p.id⟩, ⟨12, p.position⟩, ⟨3, p.feeder⟩, ⟨4, p.weight⟩, ⟨3, p.state.code⟩, ⟨2, p.flow.code⟩,
        ⟨1, flag p.ownInput⟩, ⟨3, p.level⟩, ⟨3, p.slot⟩, ⟨2, p.age.code⟩, ⟨9, peerSeconds (frameEnded dt wave s) p⟩, ⟨6, 0⟩]
        (by simp [widthOf])
      simp only [ReadBack, Nat.reduceAdd, Nat.reducePow, Nat.zero_add, StationState.code_mod, FlowStatus.code_mod, AgeState.code_mod,
        flag_mod] at read
      obtain ⟨own, position, feeder, weight, state, flow, input, level, slot, age, seconds, -⟩ := read
      refine ⟨_, ?_, exec_answered (act := id) 0 (by simp) h ok fits (taken low (by omega) entry (by rw [first]; rfl)), own, position,
        feeder, weight, state, flow, input, level, slot, age, fun young => ?_⟩
      · simp [widthOf]
      · rw [seconds, peerSeconds_eq (s := frameEnded dt wave s) young]
        rfl
    · have read := packChars_readBack [⟨8, p.id⟩, ⟨12, p.q⟩, ⟨12, p.a⟩, ⟨12, tempField p.entry⟩, ⟨12, tempField p.exit⟩,
        ⟨1, flag p.delta.isSome⟩, ⟨6, deltaField p.delta⟩, ⟨1, 0⟩] (by simp [widthOf])
      simp only [ReadBack, Nat.reduceAdd, Nat.reducePow, Nat.zero_add, tempField_mod, flag_mod] at read
      obtain ⟨own, q, a, entry', exit, known, delta, -⟩ := read
      refine ⟨_, ?_, exec_answered (act := id) 0 (by simp) h ok fits (taken low second.le entry (by rw [second]; rfl)), own, q, a,
        entry', exit, fun v hv => ?_, fun unknown => ?_⟩
      · simp [widthOf]
      · rw [known, delta, hv]
        exact ⟨rfl, rfl⟩
      · rw [known, delta, unknown]
        exact ⟨rfl, rfl⟩

end Sys2Proof.Machine
end

section
/-! The first cause of a halt (R202, R203): the state a halt procedure begins with, and STOP_STATION (O29). -/

namespace Sys2Proof.Machine

/-! ## The entry to HALTING (R147, R203) -/

/-- A heater whose channel fires is taken to OFF (R147). -/
def Heater.toOff (x : Heater) : Heater :=
  if x.chan.state.fires = true then
    { x with chan := { x.chan with state := .off, ramp := none, d := 0, ds := 0, clean := none }, burst := { x.burst with h := 0, r := 0 } }
  else x

theorem firingToOff_heaters (s : State) : firingToOff s = withHeaters s (.of fun c => ((heaters s).get c).toOff) := by
  have one (c : Chan) (x : Four Heater) :
      (if ((withHeaters s x).chans.get c).state.fires then chanToOff c (withHeaters s x) else withHeaters s x) =
        withHeaters s (x.set c (x.get c).toOff) := by
    have state : ((withHeaters s x).chans.get c).state = (x.get c).chan.state := by simp [withHeaters]
    unfold Heater.toOff
    rw [state]
    split
    · simp only [chanToOff, stopFiring, State.modChan, State.modBurst, withHeaters, Four.map_set, Four.get_map]
      cases c <;> rfl
    · rw [four_set_get_self]
  exact each_selected (withHeaters s) (fun _ x => x.toOff) one (fun _ => true) (heaters s)

/-- The channels that fire are in OFF, and the others as they were (R147). -/
theorem firingToOff_chan (s : State) (c : Chan) : (firingToOff s).chans.get c =
    if (s.chans.get c).state.fires = true then
      { s.chans.get c with state := .off, ramp := none, d := 0, ds := 0, clean := none }
    else s.chans.get c := by
  simp only [firingToOff_heaters, withHeaters, Four.get_map, Four.get_of, heaters, Heater.toOff]
  split <;> rfl

/-- A chain of blocks at the entry to HALTING: what each holds (R115, R203). -/
theorem haltingBlocks_chans (s : State) : (haltingBlocks s).chans = (firingToOff s).chans := by simp [haltingBlocks]

theorem haltingBlocks_halt (s : State) : (haltingBlocks s).halt = s.halt := by simp [haltingBlocks]

theorem haltingBlocks_burst (s : State) : (haltingBlocks s).burst.slotTimer = none ∧
    ∀ c, ((haltingBlocks s).burst.chans.get c).h = 0 ∧ ((haltingBlocks s).burst.chans.get c).r = 0 :=
  ⟨rfl, fun c => by simp [haltingBlocks, stopAllFiring]⟩

/-! ## The first cause (R202) -/

/-- The halt procedure begun by a detection (R202, R203). -/
def haltBegun (d : Detection) (cause : HaltCause) (s : State) : State :=
  enterHalting (recordOccurrence d .halt false true (beginHalt cause (s.addCond ⟨d.kind, d.chan, .halt⟩)))

/-- In LISTENING, RUNNING and ISOLATED a new HALT-class occurrence begins the halt procedure (R188, R200). -/
theorem occurHalt_first {d : Detection} {cause : HaltCause} {s : State} (new : s.hasCond d.kind d.chan = false)
    (idle : s.halt.proc = .idle) (serves : s.station.state.serves = true) : occurHalt d cause s = haltBegun d cause s := by
  have first : causeTaken s.station.state s.halt = .first := by simp [causeTaken, idle, serves]
  rw [occurHalt, if_neg (ne_true_of_eq_false new)]
  simp only [State.addCond_station, State.addCond_halt, first]
  rfl

section
variable (d : Detection) (cause : HaltCause) (s : State)

@[simp] theorem haltBegun_frame :
    (haltBegun d cause s).now = s.now ∧ (haltBegun d cause s).pins = s.pins ∧ (haltBegun d cause s).loader = s.loader ∧
    (haltBegun d cause s).peers = s.peers ∧ (haltBegun d cause s).budget = s.budget := by
  simp [haltBegun]

theorem haltBegun_station : (haltBegun d cause s).station =
    { s.station with state := .halting, listenTimer := none, isolationTimer := none } := by
  simp [haltBegun, enterHalting_eq, haltingBlocks]

/-- The halt record is captured and the confirmation time begins (R201, R204). -/
theorem haltBegun_halt : (haltBegun d cause s).halt =
    { s.halt with
      proc := .confirming, mode := confirmMode s, checks := .const .none, compRead := false, currentSeen := false,
      leakSeen := false, record := captureRecord s cause } := by
  simp only [haltBegun, enterHalting_eq, haltingBlocks_halt, reportInstant_frame, abortLeakTest_frame, recordOccurrence_frame]
  rfl

theorem haltBegun_marks : (haltBegun d cause s).fault.conds = s.fault.conds ++ [⟨d.kind, d.chan, .halt⟩] ∧
    (haltBegun d cause s).fault.locks = s.fault.locks ∧ (haltBegun d cause s).fault.tripCause = s.fault.tripCause ∧
    (haltBegun d cause s).fault.watch = s.fault.watch := by
  simp [haltBegun]

theorem haltBegun_chan (c : Chan) : (haltBegun d cause s).chans.get c =
    if (s.chans.get c).state.fires = true then
      { s.chans.get c with state := .off, ramp := none, d := 0, ds := 0, clean := none }
    else s.chans.get c := by
  simp only [haltBegun, enterHalting_eq, haltingBlocks_chans, reportInstant_frame, abortLeakTest_frame, firingToOff_chan,
    recordOccurrence_frame, beginHalt_frame, State.addCond_chans]

/-- Outputs off and contactor open at once, and nothing left to fire (R115, R202). -/
theorem haltBegun_burst : (∀ c, ((haltBegun d cause s).burst.chans.get c).out = false ∧
      ((haltBegun d cause s).burst.chans.get c).h = 0 ∧ ((haltBegun d cause s).burst.chans.get c).r = 0) ∧
    (haltBegun d cause s).burst.contactor = false ∧ (haltBegun d cause s).burst.slotTimer = none := by
  have begun := beginHalt_off cause (s.addCond ⟨d.kind, d.chan, .halt⟩)
  have recedes := enterHalting_recedes (recordOccurrence d .halt false true (beginHalt cause (s.addCond ⟨d.kind, d.chan, .halt⟩)))
  have entered (t : State) : (enterHalting t).burst = (haltingBlocks t).burst := by simp [enterHalting_eq]
  refine ⟨fun c => ⟨?_, ?_⟩, ?_, ?_⟩
  · refine Bool.eq_false_iff.mpr fun on => ?_
    have on := recedes.out c on
    simp [begun.1 c] at on
  · rw [haltBegun, entered]
    exact (haltingBlocks_burst _).2 c
  · refine Bool.eq_false_iff.mpr fun closed => ?_
    have closed := recedes.contactor closed
    simp [begun.2] at closed
  · rw [haltBegun, entered]
    exact (haltingBlocks_burst _).1

end

/-- Outside RUNNING and ISOLATED a REPORT shows the station state and no demand (R39). -/
theorem reportContent_halting {s : State} (halting : s.station.state = .halting) :
    s.reportContent.state = .halting ∧ s.reportContent.q = 0 ∧ s.reportContent.a = 0 :=
  ⟨halting, reported_idle (by rw [halting]; rfl) _, reported_idle (by rw [halting]; rfl) _⟩

/-- The entry to HALTING with no leak test in progress and a place for its REPORT (R203). -/
theorem enterHalting_untested {s : State} (idle : s.meas.leakTest = .idle) (loud : s.station.mute = false)
    (unreported : s.line.queue.any OutFrame.isReport = false) (room : s.line.queue.length < 4) : (enterHalting s).cmd = s.cmd ∧
    ∃ report, (enterHalting s).line.queue = s.line.queue ++ [.report report] ∧
      report.state = .halting ∧ report.q = 0 ∧ report.a = 0 := by
  have none : abortLeakTest (haltingBlocks s) = haltingBlocks s := if_pos (by simpa [haltingBlocks] using idle)
  have line : (haltingBlocks s).line = s.line := by simp [haltingBlocks]
  have mute : (haltingBlocks s).station.mute = s.station.mute := by simp [haltingBlocks]
  have state : (haltingBlocks s).station.state = .halting := by simp [haltingBlocks]
  rw [enterHalting_eq, none]
  refine ⟨by simp [haltingBlocks], _, ?_, reportContent_halting (s := { haltingBlocks s with
    halt := { (haltingBlocks s).halt with proc := .confirming } }) state⟩
  refine (congrArg Line.queue (reportInstant_appends (mute.trans loud) (by simpa [line] using unreported)
    (by simpa [line] using room))).trans ?_
  exact congrArg (fun l : Line => l.queue ++ _) line

/-- The notice of a due occurrence that finds no notice and a place in the queue (R195, R196). -/
theorem recordOccurrence_places {d : Detection} {cls : FaultClass} {trial : Bool} {s : State} (loud : s.station.mute = false)
    (pending : s.fault.pendingNotice = none) (placed : s.fault.placed ≠ some .queued)
    (unnoticed : s.line.queue.any OutFrame.isNotice = false) (room : s.line.queue.length < 4) :
    (recordOccurrence d cls trial true s).line = { s.line with
      queue := s.line.queue ++ [.notice ⟨⟨d.kind, d.chan, cls⟩, s.station.state, s.budget.qs, s.budget.a⟩] } ∧
    (recordOccurrence d cls trial true s).fault.placed = some .queued := by
  have settled : recordOccurrence d cls trial true s =
      noticeRow ⟨d.kind, d.chan, cls⟩ (raiseEntry ⟨d.kind, d.chan, cls⟩ (writeQueue d cls trial s)) := by
    show settleNotice _ _ = _
    rw [settleNotice, if_neg (by simpa using loud)]
  rw [settled, noticeRow_offers (by exact pending) (by exact placed),
    offerNotice_places (by simpa using loud) (by simpa using unnoticed) (by simpa using room)]
  exact ⟨rfl, rfl⟩

/-! ## STOP_STATION (R60) -/

/-- The queue with the answer to a frame, where it was empty. -/
theorem answered_queue {f : RxFrame} {st : Status} {result : List Byte} {s : State} (empty : s.line.queue = [])
    (loud : s.station.mute = false) : (answered f st result s).line.queue =
      if answerDue s.loader.image f = true then [.answer (answerTo f st result)] else [] := by
  unfold answered
  by_cases due : answerDue s.loader.image f = true
  · rw [if_pos ⟨due, loud⟩, if_pos due]
    simp [Line.append, empty]
  · rw [if_neg fun h => due h.1, if_neg due, empty]

/-- The queue of a halt procedure that begins with at most an answer in the queue: the notice of its cause, and the REPORT of the change
of state (R195, R203). -/
theorem haltBegun_queue {d : Detection} {cause : HaltCause} {s : State} (loud : s.station.mute = false)
    (pending : s.fault.pendingNotice = none) (placed : s.fault.placed ≠ some .queued) (untested : s.meas.leakTest = .idle)
    (unnoticed : s.line.queue.any OutFrame.isNotice = false) (unreported : s.line.queue.any OutFrame.isReport = false)
    (room : s.line.queue.length < 3) :
    (haltBegun d cause s).cmd = s.cmd ∧ (haltBegun d cause s).fault.placed = some .queued ∧
    ∃ report, (haltBegun d cause s).line.queue = s.line.queue ++
        [.notice ⟨⟨d.kind, d.chan, .halt⟩, s.station.state, s.budget.qs, s.budget.a⟩, .report report] ∧
      report.state = .halting ∧ report.q = 0 ∧ report.a = 0 := by
  obtain ⟨line, queued⟩ := recordOccurrence_places (d := d) (cls := .halt) (trial := false)
    (s := beginHalt cause (s.addCond ⟨d.kind, d.chan, .halt⟩)) (by simpa using loud) (by simpa using pending)
    (by simpa using placed) (by simpa using unnoticed) (by simpa using Nat.lt_succ_of_lt room)
  have begun : (beginHalt cause (s.addCond ⟨d.kind, d.chan, .halt⟩)).line.queue = s.line.queue := by simp
  obtain ⟨cmd, report, entered, content⟩ := enterHalting_untested
    (s := recordOccurrence d .halt false true (beginHalt cause (s.addCond ⟨d.kind, d.chan, .halt⟩)))
    (by simp only [recordOccurrence_frame]; exact untested) (by simpa using loud)
    (by rw [line]; simpa [OutFrame.isReport] using unreported)
    (by rw [line]; simp only [begun, List.length_append, List.length_singleton]; omega)
  refine ⟨by simpa [haltBegun] using cmd, by simpa [haltBegun] using queued, report, ?_, content⟩
  rw [haltBegun, entered, line]
  simp

/-- Settles O29. -/
theorem stopStationBeginsHalt : Obligations.StopStationBeginsHalt := by
  unfold Obligations.StopStationBeginsHalt
  intro dt wave f s h ok empty loud idle new pending placed untested now
  have queue : (frameEnded dt wave s).line.queue = [] := by
    rw [frameEnded_line (active_of_arrives h)]
    exact (Line.hear_queue s.line wave).trans empty
  have serves : s.station.state.serves = true := ok.allowed
  have fits : AnswerFits f s := fun _ => .inr (by simp [empty])
  have answers := answered_queue (f := f) (st := .ok) (result := []) queue loud
  obtain ⟨l, hl⟩ := answered_eq f .ok [] (frameEnded dt wave s)
  have taken : exec (.stopStation dt wave) s =
      .next (haltBegun ⟨.operatorStop, none, none⟩ .operatorStop { frameEnded dt wave s with line := l }) := by
    refine (exec_answered (act := occur ⟨.operatorStop, none, none⟩) 0 (by simp) h ok fits rfl).trans ?_
    rw [hl]
    exact congrArg _ (occurHalt_first new idle serves)
  rw [hl] at answers
  obtain ⟨cmd, queued, report, line, halting, q, a⟩ := haltBegun_queue (d := ⟨.operatorStop, none, none⟩) (cause := .operatorStop)
    (s := { frameEnded dt wave s with line := l }) loud pending (by rw [show (frameEnded dt wave s).fault.placed = none from placed]; simp) untested (by rw [answers]; split <;> rfl)
    (by rw [answers]; split <;> rfl) (by rw [answers]; split <;> simp)
  obtain ⟨now', pins, loader, peers, budget⟩ := haltBegun_frame ⟨.operatorStop, none, none⟩ .operatorStop
    { frameEnded dt wave s with line := l }
  obtain ⟨conds, locks, causes, -⟩ := haltBegun_marks ⟨.operatorStop, none, none⟩ .operatorStop
    { frameEnded dt wave s with line := l }
  obtain ⟨off, contactor, slotTimer⟩ := haltBegun_burst ⟨.operatorStop, none, none⟩ .operatorStop
    { frameEnded dt wave s with line := l }
  have station := haltBegun_station ⟨.operatorStop, none, none⟩ .operatorStop { frameEnded dt wave s with line := l }
  have chan := haltBegun_chan ⟨.operatorStop, none, none⟩ .operatorStop { frameEnded dt wave s with line := l }
  have halt := haltBegun_halt ⟨.operatorStop, none, none⟩ .operatorStop { frameEnded dt wave s with line := l }
  refine ⟨_, taken, now', station, off, contactor, slotTimer, fun c fires => ?_, fun c fires => ?_, ?_⟩
  · rw [(chan c).trans (if_pos fires)]
    exact ⟨rfl, rfl, rfl, rfl⟩
  · exact (chan c).trans (if_neg (ne_true_of_eq_false fires))
  · rw [halt]
    refine ⟨rfl, rfl, rfl, rfl, rfl, rfl, rfl, rfl, rfl, rfl, fun c on => ?_, ⟨_, report, line, halting, q, a, fun own low high => ?_,
      fun other => ?_⟩, conds, queued, loader, cmd, peers, budget, pins, locks, causes⟩
    · rw [captureRecord, Four.get_of, captureChan]
      exact if_pos on
    · rw [answers]
      exact if_pos (decide_eq_true ⟨low, high, own⟩)
    · rw [answers]
      exact if_neg fun due => other (of_decide_eq_true due).2.2

end Sys2Proof.Machine
end

section
/-! The mid-point of a half-cycle (O44), and what it shares with later parts: the completion of a deferred command, check requests, and
an operation done for each of some channels as one of them sees it. -/

namespace Sys2Proof.Machine

/-! ## The completion of a deferred command (R49) -/

section
variable {name : Deferred} {asker reqNo : Byte} {due : Bool} {s : State} (st : Status) (result : List Byte)
  (flying : s.cmd = .inFlight name asker reqNo due)
include flying

theorem completeDeferred_discarded (h : due = false ∨ s.station.mute = true) :
    completeDeferred name st result s = { s with cmd := .empty } := by
  rcases h with h | h <;> simp [completeDeferred, flying, h]

theorem completeDeferred_queued (h : due = true) (loud : s.station.mute = false) (room : s.line.queue.length < 4) :
    completeDeferred name st result s =
      { s with line := { s.line with queue := s.line.queue ++ [.answer ⟨asker, reqNo, st, result⟩] }, cmd := .empty } := by
  simp [completeDeferred, flying, h, loud, Line.hasRoom, room, Line.append]

theorem completeDeferred_held (h : due = true) (loud : s.station.mute = false) (full : 4 ≤ s.line.queue.length) :
    completeDeferred name st result s = { s with cmd := .held ⟨asker, reqNo, st, result⟩ } := by
  simp [completeDeferred, flying, h, loud, Line.hasRoom, not_lt.mpr full]

end

/-! ## Operations done for each of some channels, as one channel sees them -/

/-- What every operation for another channel keeps is kept where the channel has no turn. -/
theorem State.each_never {R : State → State → Prop} (refl : ∀ s, R s s) (trans : ∀ {s t u}, R s t → R t u → R s u)
    {f : Chan → State → State} {c : Chan} (others : ∀ x, x ≠ c → ∀ s, R s (f x s)) {cs : List Chan} (absent : c ∉ cs) (s : State) :
    R s (s.each cs f) := by
  refine State.each_inv (R s) (fun x hx t ht => trans ht (others x ?_ t)) (refl s)
  rintro rfl
  exact absent hx

/-- What every operation for another channel keeps is kept by all before the channel's own turn, and by all after it. -/
theorem State.each_once {R : State → State → Prop} (refl : ∀ s, R s s) (trans : ∀ {s t u}, R s t → R t u → R s u)
    {f : Chan → State → State} {c : Chan} (others : ∀ x, x ≠ c → ∀ s, R s (f x s)) {cs : List Chan} (once : cs.Nodup) (mem : c ∈ cs)
    (s : State) : ∃ u, R s u ∧ R (f c u) (s.each cs f) := by
  have rest {cs : List Chan} (absent : c ∉ cs) (s : State) : R s (s.each cs f) := State.each_never refl trans others absent s
  obtain ⟨before, after, rfl⟩ := List.append_of_mem mem
  obtain ⟨-, once, apart⟩ := List.nodup_append.mp once
  refine ⟨s.each before f, rest (fun h => apart c h c (List.mem_cons_self ..) rfl) s, ?_⟩
  have split : s.each (before ++ c :: after) f = (f c (s.each before f)).each after f := by
    simp only [State.each, List.foldl_append, List.foldl_cons]
  exact split ▸ rest (List.nodup_cons.mp once).1 _

theorem State.mem_enabledList {s : State} {c : Chan} : c ∈ s.enabledList ↔ s.enabled c = true := by
  simp [State.enabledList, List.mem_filter, Chan.mem_list c]

theorem State.enabledList_nodup (s : State) : s.enabledList.Nodup := List.Nodup.filter _ (by decide)

/-! ## Current requests (R88, R100, R204) -/

/-- A state with the channels' samples and checks replaced. -/
def withChecks (s : State) (x : Four (ChanMeas × CheckState)) : State :=
  { s with meas := { s.meas with chans := x.map (·.1) }, halt := { s.halt with checks := x.map (·.2) } }

/-- The channels' samples and checks. -/
def checks (s : State) : Four (ChanMeas × CheckState) := .of fun c => (s.meas.chans.get c, s.halt.checks.get c)

/-- A check request made for every channel whose check is as `p` says. -/
theorem each_asked {s : State} (p : CheckState → Bool) (r : CheckReq) {f : Chan → State → State}
    (one : ∀ c x, f c (withChecks s x) = if p (x.get c).2 = true then
      { ((withChecks s x).modMeas c fun m => { m with reqCheck := r }) with
        halt := { (withChecks s x).halt with checks := (withChecks s x).halt.checks.set c .requested } }
      else withChecks s x) :
    s.each Chan.list f = { s with
      meas := { s.meas with chans := .of (fun c =>
        if p (s.halt.checks.get c) = true then { s.meas.chans.get c with reqCheck := r } else s.meas.chans.get c) }
      halt := { s.halt with checks := .of (fun c =>
        if p (s.halt.checks.get c) = true then .requested else s.halt.checks.get c) } } := by
  have each := each_selected (withChecks s)
    (fun _ x => if p x.2 = true then ({ x.1 with reqCheck := r }, CheckState.requested) else x) (f := f) (fun c x => by
      rw [one c x]
      split
      · simp only [withChecks, State.modMeas, Four.map_set, Four.get_map]
      · rw [four_set_get_self]) (fun _ => true) (checks s)
  refine (congrArg (fun cs => s.each cs f) (by rfl)).trans (each.trans ?_)
  have get (c : Chan) : (checks s).get c = (s.meas.chans.get c, s.halt.checks.get c) := Four.get_of ..
  simp only [withChecks, get, if_true]
  congr 2 <;> refine Four.ext_get fun c => ?_
  all_goals
    rw [Four.get_map, Four.get_of, Four.get_of]
    split <;> rfl

theorem each_midRequest (s : State) :
    s.each s.enabledList (fun c s => s.modMeas c fun m => m.midRequest (s.burst.chans.get c).out) =
      { s with meas := { s.meas with chans := .of (fun c =>
        if s.enabled c = true then (s.meas.chans.get c).midRequest (s.burst.chans.get c).out else s.meas.chans.get c) } } :=
  each_selected (fun x => { s with meas := { s.meas with chans := x } }) (fun c m => m.midRequest (s.burst.chans.get c).out)
    (fun _ _ => rfl) s.enabled s.meas.chans

theorem readForHalt_eq (s : State) : readForHalt s = { s with halt := { s.halt with
    compRead := true, leakSeen := if s.halt.compRead = false then s.comparator else s.halt.leakSeen } } := by
  unfold readForHalt
  cases read : s.halt.compRead
  · rfl
  · simp only [← read, if_true]
    rw [if_neg (by simp [read])]

theorem askChecks_eq (s : State) :
    let wanted := fun c : Chan => s.halt.proc = .checking ∧ s.halt.checks.get c = .wanted
    askChecks s = { s with
      meas := { s.meas with chans := .of (fun c =>
        if wanted c then { s.meas.chans.get c with reqCheck := .bound } else s.meas.chans.get c) }
      halt := { s.halt with
        checks := .of fun c => if wanted c then .requested else s.halt.checks.get c
        compRead := s.halt.compRead || Chan.list.any fun c => decide (wanted c)
        leakSeen := if s.halt.compRead = false ∧ (∃ c ∈ Chan.list, wanted c) then s.comparator else s.halt.leakSeen } } := by
  intro wanted
  unfold askChecks
  by_cases h : s.halt.proc = .checking ∧ checkWanted s = true
  · obtain ⟨checking, some⟩ := h
    have any : (Chan.list.any fun c => decide (wanted c)) = true := by simpa [wanted, checking, checkWanted] using some
    have each := each_asked (s := readForHalt s) (fun k => decide (k = .wanted)) .bound
      (f := fun c s => if s.halt.checks.get c = .wanted then
        { (s.modMeas c fun m => { m with reqCheck := .bound }) with
          halt := { s.halt with checks := s.halt.checks.set c .requested } }
        else s) (fun c x => by simp [withChecks])
    rw [if_pos ⟨checking, some⟩]
    refine each.trans ?_
    rw [readForHalt_eq, any, Bool.or_true]
    simp only [wanted, checking, true_and, decide_eq_true_eq]
    have seen : ∃ c ∈ Chan.list, s.halt.checks.get c = .wanted := by simpa [checkWanted] using some
    simp only [seen, and_true]
  · have unwanted (c : Chan) : ¬wanted c := fun ⟨checking, hc⟩ =>
      h ⟨checking, List.any_eq_true.mpr ⟨c, Chan.mem_list c, decide_eq_true hc⟩⟩
    have none : (Chan.list.any fun c => decide (wanted c)) = false := by simp [unwanted]
    rw [if_neg h, none]
    simp only [Bool.or_false, unwanted, if_false, and_false, exists_false, Four.of_get]

/-- All that the leakage unit keeps. -/
def Meas.leakage (m : Meas) : Nat × Bool × LeakTest × Bool := (m.leakCount, m.leakPresent, m.leakTest, m.leakPause)

theorem startNext_leakage (s : State) : (startNext s).meas.leakage = s.meas.leakage := by
  unfold startNext
  (repeat' split) <;> rfl

theorem startRequested_leakage (s : State) : (startRequested s).meas.leakage = s.meas.leakage := by
  unfold startRequested
  split
  · split
    · refine (startNext_leakage _).trans ?_
      unfold putBack
      (repeat' split) <;> rfl
    · rfl
  · exact startNext_leakage s

/-! ## The comparator (R106 to R108) -/

theorem comparator_eq (s : State) : s.comparator =
    decide ((if s.loader.image.leakCode = 0 then 30 else if s.loader.image.leakCode = 1 then 100 else 300) < s.pins.residual) := by
  rw [State.comparator, leakThreshold_eq]

/-- What the entry to LOCKED by `k` makes of a channel: `s` before it, `t` after it. -/
structure LockedBy (k : FaultKind) (c : Chan) (s t : State) : Prop where
  state : (t.chans.get c).state = .locked
  listed : k ∈ t.fault.locks.get c
  stopped : (s.chans.get c).state ≠ .locked →
    (t.chans.get c).d = 0 ∧ (t.chans.get c).ds = 0 ∧ (t.burst.chans.get c).h = 0 ∧ (t.burst.chans.get c).r = 0

theorem lockChan_locked (k : FaultKind) (c : Chan) (s : State) : LockedBy k c s (lockChan k c s) := by
  have listed : k ∈ (lockChan k c s).fault.locks.get c := by
    rw [(lockChan_fault k c s).1, Four.get_set_same, mem_joinLock]
    exact .inl rfl
  by_cases locked : (s.chans.get c).state = .locked
  · refine ⟨?_, listed, fun h => absurd locked h⟩
    simp [lockChan, locked]
  · obtain ⟨chan, fires, -⟩ := lockChan_chan (k := k) locked
    exact ⟨by rw [chan]; rfl, listed, fun _ => ⟨by rw [chan]; rfl, by rw [chan]; rfl, fires⟩⟩

/-- Every enabled channel is locked, and the others stand (R180, R182). -/
theorem lockAll_locked {k : FaultKind} {c : Chan} {s : State} (enabled : s.enabled c = true) : LockedBy k c s (lockAll k s) := by
  obtain ⟨u, before, after⟩ := State.each_once (R := Elsewhere c) (.refl c) .trans (fun x hx => lockChan_elsewhere (Ne.symm hx) k)
    s.enabledList_nodup (State.mem_enabledList.mpr enabled) s
  obtain ⟨state, listed, stopped⟩ := lockChan_locked k c u
  refine ⟨by rw [lockAll, after.chan, state], by rw [lockAll, after.locks]; exact listed, fun unlocked => ?_⟩
  rw [lockAll, after.chan, after.fires.1, after.fires.2]
  exact stopped (by rw [before.chan]; exact unlocked)

theorem lockAll_disabled {k : FaultKind} {c : Chan} {s : State} (disabled : s.enabled c = false) : Elsewhere c s (lockAll k s) :=
  State.each_never (R := Elsewhere c) (.refl c) .trans (fun x hx => lockChan_elsewhere (Ne.symm hx) k)
    (fun h => by simp [State.mem_enabledList.mp h] at disabled) s

/-- A lock of a channel whose output is off tells the sequencer nothing. -/
theorem lockChan_meas {k : FaultKind} {c : Chan} {s : State} (off : (s.burst.chans.get c).out = false) :
    (lockChan k c s).meas = s.meas := by
  have uncut (u : State) (same : (u.burst.chans.get c).out = false) : cutFirst c u = u := by simp [cutFirst, same]
  unfold lockChan stopChan
  dsimp only
  split
  · rfl
  · rw [uncut _ (by simpa [stopFiring] using off)]
    simp [stopFiring]

/-- With the outputs off, locking every channel leaves them off, an open contactor open and the sequencer untold. -/
theorem lockAll_off {k : FaultKind} {s : State} (off : ∀ c, (s.burst.chans.get c).out = false) :
    (lockAll k s).meas = s.meas ∧ Recedes s.burst (lockAll k s).burst := by
  refine State.each_inv (fun t => t.meas = s.meas ∧ Recedes s.burst t.burst) ?_ ⟨rfl, .of_eq rfl⟩
  rintro c - t ⟨meas, recedes⟩
  have still : (t.burst.chans.get c).out = false := Bool.eq_false_iff.mpr fun on => by
    exact absurd (recedes.out c on) (by simp [off c])
  exact ⟨(lockChan_meas still).trans meas, recedes.trans (lockChan_recedes k c t)⟩

/-- What a new EARTH_LEAKAGE does at once: outputs off, contactor open, every enabled channel locked (R180). -/
structure EarthLocked (s t : State) : Prop where
  meas : t.meas = { s.meas with chans := .of fun c => { s.meas.chans.get c with reqOn := false } }
  contactor : t.contactorPin = false
  off : ∀ c, t.heaterPin c = false
  cond : t.hasCond .earthLeakage none = true
  locked : ∀ c, s.enabled c = true → LockedBy .earthLeakage c s t
  others : ∀ c, s.enabled c = false → t.chans.get c = s.chans.get c ∧ t.fault.locks.get c = s.fault.locks.get c
  watch : t.fault.watch = s.fault.watch.or (some 0)

/-- A watch that runs is not started again. -/
theorem startWatch_eq (s : State) : startWatch s = { s with fault := { s.fault with watch := s.fault.watch.or (some 0) } } := by
  unfold startWatch
  split
  · rename_i h
    simp [h]
  · rename_i n h
    rw [h, Option.some_or, ← h]

theorem lockAll_watch (k : FaultKind) (s : State) : (lockAll k s).fault.watch = s.fault.watch :=
  State.each_inv (fun t => t.fault.watch = s.fault.watch) (fun c _ t ht => by
    refine Eq.trans ?_ ht
    unfold lockChan
    dsimp only
    split <;> simp [endTripConds]) rfl

theorem occurEarth_locks {d : Detection} {s : State} (new : s.hasCond .earthLeakage none = false) :
    EarthLocked s (occurEarth d s) := by
  obtain ⟨meas, recedes⟩ := lockAll_off (k := .earthLeakage) (s := setContactor false (outputsOff s)) (outputsOff_out s)
  have locked (c : Chan) := lockAll_locked (k := .earthLeakage) (c := c) (s := setContactor false (outputsOff s))
  have others (c : Chan) := lockAll_disabled (k := .earthLeakage) (c := c) (s := setContactor false (outputsOff s))
  have stands := lockAll_watch .earthLeakage (setContactor false (outputsOff s))
  have taken : occurEarth d s = recordOccurrence d .lock false true
      (startWatch ((lockAll .earthLeakage (setContactor false (outputsOff s))).addCond ⟨.earthLeakage, none, .lock⟩)) := by
    simp [occurEarth, new]
  generalize lockAll .earthLeakage (setContactor false (outputsOff s)) = u at *
  obtain ⟨conds, locks, -, watch⟩ := recordOccurrence_marks d .lock false true (startWatch (u.addCond ⟨.earthLeakage, none, .lock⟩))
  rw [← taken] at conds locks watch
  have chans : (occurEarth d s).chans = u.chans := by simp [taken, startWatch_eq]
  have burst : (occurEarth d s).burst = u.burst := by simp [taken, startWatch_eq]
  rw [startWatch_eq] at conds locks watch
  constructor
  case meas =>
    have same : (occurEarth d s).meas = u.meas := by simp [taken, startWatch_eq]
    rw [same, meas]
    rfl
  case contactor =>
    rw [State.contactorPin, burst]
    exact Bool.eq_false_iff.mpr fun closed => by cases recedes.contactor closed
  case off =>
    intro c
    rw [State.heaterPin, burst]
    exact Bool.eq_false_iff.mpr fun on => by simpa [outputsOff_out, setContactor] using recedes.out c on
  case cond =>
    rw [State.hasCond, conds]
    simp
  case locked =>
    intro c enabled
    obtain ⟨state, listed, stopped⟩ := locked c enabled
    refine ⟨chans ▸ state, locks ▸ listed, fun unlocked => ?_⟩
    rw [chans, burst]
    exact stopped unlocked
  case others => exact fun c disabled => ⟨chans ▸ (others c disabled).chan, locks ▸ (others c disabled).locks⟩
  case watch => rw [watch]; exact congrArg (Option.or · _) stands

/-- A repeat of EARTH_LEAKAGE starts the watch and is written to the queue (R180, R181). -/
theorem occurEarth_repeat {d : Detection} {s : State} (old : s.hasCond .earthLeakage none = true) : occurEarth d s = { s with
    fault := { s.fault with watch := s.fault.watch.or (some 0), queue := queueAfter s.fault.queue s.uptime d .lock false } } := by
  rw [occurEarth, if_pos old, startWatch_eq]
  rfl

/-- The mid-point that is due, before its requests: the residual current is shown (R100). -/
def atMidpoint (e residual : Nat) (s : State) : State :=
  { s with now := max s.now e, pins := { s.pins with residual := residual }, meas := { s.meas with midpoint := none } }

theorem exec_halfCycleMidpoint {e : Nat} {s : State} (residual : Nat) (due : s.meas.midpoint = some e) :
    exec (.halfCycleMidpoint residual) s = .next (sampleLeakage (midRequests (atMidpoint e residual s))) := by
  refine congrArg Host.Outcome.next ?_
  rw [midpoint, due]
  rfl

/-- What the mid-point's requests leave as it was. -/
theorem midRequests_leaves (e residual : Nat) (s : State) :
    let u := midRequests (atMidpoint e residual s)
    u.meas.leakage = s.meas.leakage ∧ (u.fault = s.fault ∧ u.line = s.line ∧ u.cmd = s.cmd ∧ u.chans = s.chans) ∧
      (u.station = s.station ∧ u.loader = s.loader ∧ u.peers = s.peers ∧ u.budget = s.budget) ∧
      u.now = max s.now e ∧ u.pins.residual = residual := by
  have leakage : (midRequests (atMidpoint e residual s)).meas.leakage = s.meas.leakage := by
    rw [midRequests, startRequested_leakage, askChecks_eq, each_midRequest]
    rfl
  exact ⟨leakage, by simp [atMidpoint]⟩

/-- The state in which the mid-point's requests are served, as O44 writes it. -/
theorem midRequests_eq (e residual : Nat) (s : State) :
    let threshold := if s.loader.image.leakCode = 0 then 30 else if s.loader.image.leakCode = 1 then 100 else 300
    let wanted := fun c : Chan => s.halt.proc = .checking ∧ s.halt.checks.get c = .wanted
    let asked := fun c : Chan =>
      let m := s.meas.chans.get c
      let half := if s.enabled c = false then m
        else if m.told = true then { m with reqOn := (s.burst.chans.get c).out }
        else if m.offAsked = true then m
        else { m with reqOff := true, offAsked := true }
      if wanted c then { half with reqCheck := .bound } else half
    midRequests (atMidpoint e residual s) = startRequested { s with
      now := max s.now e
      pins := { s.pins with residual := residual }
      meas := { s.meas with midpoint := none, chans := .of asked }
      halt := { s.halt with
        checks := .of fun c => if wanted c then .requested else s.halt.checks.get c
        compRead := s.halt.compRead || Chan.list.any fun c => decide (wanted c)
        leakSeen := if s.halt.compRead = false ∧ (∃ c ∈ Chan.list, wanted c) then decide (threshold < residual)
          else s.halt.leakSeen } } := by
  intro threshold wanted asked
  have half (c : Chan) : (if wanted c then
      { (if s.enabled c = true then (s.meas.chans.get c).midRequest (s.burst.chans.get c).out else s.meas.chans.get c) with
        reqCheck := .bound }
      else (if s.enabled c = true then (s.meas.chans.get c).midRequest (s.burst.chans.get c).out else s.meas.chans.get c)) =
      asked c := by
    simp only [asked, ChanMeas.midRequest]
    cases s.enabled c <;> rfl
  rw [midRequests]
  refine congrArg startRequested ((congrArg askChecks (each_midRequest _)).trans ((askChecks_eq _).trans ?_))
  rw [comparator_eq, ← funext half]
  simp only [Four.get_of]
  rfl

/-- Settles O44: the requests are those of `midRequests_eq`, served by `startRequested_served`; then the comparator. -/
theorem midpointAsksSamplesAndCountsLeakage : Obligations.MidpointAsksSamplesAndCountsLeakage := by
  unfold Obligations.MidpointAsksSamplesAndCountsLeakage
  intro e residual s due now code threshold wanted asked requested
  obtain ⟨leakage, ⟨fault, line, cmd, chans⟩, ⟨station, loader, peers, budget⟩, clock, current⟩ := midRequests_leaves e residual s
  refine ⟨midRequests (atMidpoint e residual s), midRequests_eq e residual s ▸ startRequested_served requested, ?_⟩
  have taken := exec_halfCycleMidpoint residual due
  generalize midRequests (atMidpoint e residual s) = u at leakage fault line cmd chans station loader peers budget clock current taken ⊢
  intro counted
  have exceeds : u.comparator = true ↔ threshold < residual := by rw [comparator_eq, current, loader, decide_eq_true_iff]
  simp only [Meas.leakage, Prod.mk.injEq] at leakage
  obtain ⟨count, present, test, pause⟩ := leakage
  have enabled (c : Chan) : u.enabled c = s.enabled c := by rw [State.enabled, loader]; rfl
  have cond (k : FaultKind) : u.hasCond k none = s.hasCond k none := State.hasCond_of (by rw [fault]) ..
  rw [taken]
  clear taken
  refine ⟨fun idle paused => ?_, fun idle running => ?_, fun quiet => ?_, fun n asker reqNo due driving passes flying => ?_⟩
  · rw [sampleLeakage, test.trans idle, pause.trans paused]
    rfl
  · have sampled : sampleLeakage u = leakSample u := by
      rw [sampleLeakage, test.trans idle, pause.trans running]
      rfl
    rw [sampled]
    refine ⟨fun low => ?_, fun high few => ?_, fun high three => ?_, fun high two old => ?_, fun high two new => ?_⟩
    · rw [leakSample, if_neg (by rw [exceeds]; omega)]
    · rw [leakSample, if_pos (exceeds.mpr high), if_pos (by omega), count]
      simp only [counted, present]
    · rw [leakSample, if_pos (exceeds.mpr high), if_neg (by omega), if_neg (by omega)]
    · rw [leakSample, if_pos (exceeds.mpr high), if_neg (by omega), if_pos (by omega)]
      refine congrArg Host.Outcome.next ((occurEarth_repeat (d := ⟨.earthLeakage, none, none⟩)
        (s := counted 3 true) ((cond _).trans old)).trans ?_)
      simp only [counted, fault, State.uptime]
    · rw [leakSample, if_pos (exceeds.mpr high), if_neg (by omega), if_pos (by omega)]
      obtain ⟨meas, contactor, off, marked, locked, others, watch⟩ :=
        occurEarth_locks (d := ⟨.earthLeakage, none, none⟩) (s := counted 3 true) ((cond _).trans new)
      obtain ⟨-, fnow, -, floader, fstation, fcmd, fpeers, fbudget, fhalt, -⟩ :=
        occurEarth_frame ⟨.earthLeakage, none, none⟩ (counted 3 true)
      refine ⟨_, rfl, fnow.trans clock, meas, contactor, off, marked, fun c hc => ?_, fun c hc => ?_, ?_, fstation.trans station,
        floader.trans loader, fpeers.trans peers, fbudget.trans budget, fhalt, fcmd.trans cmd⟩
      · obtain ⟨state, listed, stopped⟩ := locked c ((enabled c).trans hc)
        exact ⟨state, listed, fun unlocked => stopped (by rw [show (counted 3 true).chans = u.chans from rfl, chans]; exact unlocked)⟩
      · obtain ⟨chan, locks⟩ := others c ((enabled c).trans hc)
        exact ⟨chan.trans (congrArg (Four.get · c) chans), locks.trans (congrArg (fun x : FaultUnit => x.locks.get c) fault)⟩
      · exact watch.trans (congrArg (fun x : FaultUnit => x.watch.or (some 0)) fault)
  · refine congrArg Host.Outcome.next ?_
    rcases quiet with waiting | ⟨testing, low⟩
    · unfold sampleLeakage
      rw [test.trans waiting]
    · unfold sampleLeakage
      rw [test]
      cases h : s.meas.leakTest with
      | idle => exact absurd h testing
      | waiting => rfl
      | driving n => exact if_neg (by rw [exceeds]; omega)
  · intro answer passed
    have passing : sampleLeakage u = passLeakTest u := by
      rw [sampleLeakage, test.trans driving]
      exact if_pos (exceeds.mpr passes)
    have flying' : (endLeakTest u).cmd = .inFlight .leakTest asker reqNo due := cmd.trans flying
    rw [passing, passLeakTest]
    have cleared (v : State) (e : v.fault = s.fault) :
        Host.Outcome.next (ρ := Refusal) (φ := Fault) (v.clearCond .leakTestFail none) = .next { v with fault := passed.fault } := by
      refine congrArg Host.Outcome.next ?_
      simp only [State.clearCond, State.keepConds, e, passed, decide_not]
    have loudly (mute : s.station.mute = false) : (endLeakTest u).station.mute = false := (congrArg Station.mute station).trans mute
    have queue : (endLeakTest u).line = s.line := line
    refine ⟨fun silent => ?_, fun due mute room => ?_, fun due mute full => ?_⟩
    · rw [completeDeferred_discarded _ _ flying' (silent.imp id (congrArg Station.mute station).trans)]
      exact cleared _ fault
    · rw [completeDeferred_queued _ _ flying' due (loudly mute) (queue ▸ room), queue]
      exact cleared _ fault
    · rw [completeDeferred_held _ _ flying' due (loudly mute) (queue ▸ full)]
      exact cleared _ fault

end Sys2Proof.Machine
end

section
/-! What settled notices make of the outgoing queue, in one relation (`Noticing`) that composes: notices come and are replaced, and a
REPORT may give way to one; nothing else of the queue moves (used for O42 and O49). -/

namespace Sys2Proof.Machine

/-! ## The queue but for what its notices say -/

/-- A frame but for a notice's content. -/
def OutFrame.mask : OutFrame → Option OutFrame
  | .notice _ => none
  | f => some f

/-- The queue but for its notices' content. -/
def masked (q : List OutFrame) : List (Option OutFrame) := q.map OutFrame.mask

theorem mask_answer {f : OutFrame} {a : AnswerContent} : f.mask = some (.answer a) ↔ f = .answer a := by
  cases f <;> simp [OutFrame.mask]

theorem mask_replaced (c : NoticeContent) (f : OutFrame) : (if f.isNotice = true then .notice c else f).mask = f.mask := by
  cases f <;> rfl

theorem masked_replaceNotice (c : NoticeContent) (q : List OutFrame) : masked (replaceNotice c q) = masked q := by
  rw [masked, replaceNotice, List.map_map]
  exact List.map_congr_left fun f _ => mask_replaced c f

theorem masked_append (q r : List OutFrame) : masked (q ++ r) = masked q ++ masked r := List.map_append

theorem masked_length (q : List OutFrame) : (masked q).length = q.length := List.length_map _

theorem mem_masked {q : List OutFrame} {a : AnswerContent} : some (.answer a) ∈ masked q ↔ .answer a ∈ q := by
  simp only [masked, List.mem_map, mask_answer, exists_eq_right]

theorem masked_noticed {q : List OutFrame} : q.any OutFrame.isNotice = true ↔ none ∈ masked q := by
  simp only [masked, List.any_eq_true, List.mem_map]
  exact exists_congr fun f => and_congr_right fun _ => by cases f <;> simp [OutFrame.isNotice, OutFrame.mask]

/-! ## The relation -/

/-- A notice is pending or in the queue. -/
def Noted (s : State) : Prop := s.fault.pendingNotice.isSome = true ∨ s.line.queue.any OutFrame.isNotice = true

/-- What the first notice makes of a queue: it is appended, takes the place of a REPORT, or finds a notice before it or no place. -/
def FirstNotice (q q' : List OutFrame) : Prop :=
  masked q' = masked q ∨ (q.length < 4 ∧ masked q' = masked q ++ [none]) ∨
    (4 ≤ q.length ∧ masked q' = masked (dropReport q) ++ [none])

/-- Notices settled one after another: a mute station's queue stands; once a notice is pending or in the queue, only contents change. -/
structure Noticing (s t : State) : Prop where
  mute : t.station.mute = s.station.mute
  silent : s.station.mute = true → t.line.queue = s.line.queue
  noted : s.station.mute = false → Noted s → Noted t ∧ masked t.line.queue = masked s.line.queue
  fresh : s.station.mute = false → (t.line.queue = s.line.queue ∧ (Noted t → Noted s)) ∨
    (Noted t ∧ FirstNotice s.line.queue t.line.queue)

/-- All that the relation reads. -/
def noticeView (s : State) : Bool × List OutFrame × Option NoticeContent := (s.station.mute, s.line.queue, s.fault.pendingNotice)

theorem Noticing.of_view {s t : State} (e : noticeView t = noticeView s) : Noticing s t := by
  simp only [noticeView, Prod.mk.injEq] at e
  obtain ⟨mute, queue, pending⟩ := e
  have noted : Noted t ↔ Noted s := by rw [Noted, Noted, queue, pending]
  exact ⟨mute, fun _ => queue, fun _ n => ⟨noted.mpr n, by rw [queue]⟩, fun _ => .inl ⟨queue, noted.mp⟩⟩

theorem Noticing.refl (s : State) : Noticing s s := .of_view rfl

theorem Noticing.trans {s t u : State} (a : Noticing s t) (b : Noticing t u) : Noticing s u where
  mute := b.mute.trans a.mute
  silent m := (b.silent (a.mute.trans m)).trans (a.silent m)
  noted m n := by
    obtain ⟨nt, qt⟩ := a.noted m n
    obtain ⟨nu, qu⟩ := b.noted (a.mute.trans m) nt
    exact ⟨nu, qu.trans qt⟩
  fresh m := by
    rcases a.fresh m with ⟨same, back⟩ | ⟨nt, first⟩
    · rcases b.fresh (a.mute.trans m) with ⟨same', back'⟩ | ⟨nu, first⟩
      · exact .inl ⟨same'.trans same, back ∘ back'⟩
      · exact .inr ⟨nu, same ▸ first⟩
    · obtain ⟨nu, qu⟩ := b.noted (a.mute.trans m) nt
      refine .inr ⟨nu, ?_⟩
      rw [FirstNotice, qu]
      exact first

theorem Noticing.from_view {s t u : State} (a : Noticing t u) (e : noticeView t = noticeView s) : Noticing s u :=
  (Noticing.of_view e).trans a

theorem Noticing.each {f : Chan → State → State} (h : ∀ c s, Noticing s (f c s)) (cs : List Chan) (s : State) :
    Noticing s (s.each cs f) := by
  induction cs generalizing s with
  | nil => exact .refl s
  | cons c cs ih => exact (h c s).trans (ih (f c s))

/-- What replaces contents in a queue that has a notice, or with one pending. -/
theorem Noticing.of_masked {s t : State} (mute : t.station.mute = s.station.mute) (loud : s.station.mute = false) (after : Noted t)
    (same : masked t.line.queue = masked s.line.queue) : Noticing s t :=
  ⟨mute, fun m => absurd (m.symm.trans loud) (by decide), fun _ _ => ⟨after, same⟩, fun _ => .inr ⟨after, .inl same⟩⟩

/-! ## An occurrence (R195, R196) -/

/-- What of the fault unit a lock or a trip leaves as it was: queue, watch and notices. -/
def FaultUnit.notes (f : FaultUnit) : List FaultRecord × Option Nat × List Occ × Option Placed × Option NoticeContent :=
  (f.queue, f.watch, f.awaiting, f.placed, f.pendingNotice)

theorem lockChan_notes (k : FaultKind) (c : Chan) (s : State) : (lockChan k c s).fault.notes = s.fault.notes := by
  unfold lockChan
  dsimp only
  split <;> simp [endTripConds, FaultUnit.notes]

theorem lockAll_notes (k : FaultKind) (s : State) : (lockAll k s).fault.notes = s.fault.notes :=
  State.each_inv (fun t => t.fault.notes = s.fault.notes) (fun c _ t ht => (lockChan_notes k c t).trans ht) rfl

theorem noticeView_of_notes {s t : State} (mute : t.station.mute = s.station.mute) (queue : t.line.queue = s.line.queue)
    (notes : t.fault.notes = s.fault.notes) : noticeView t = noticeView s := by
  simp only [FaultUnit.notes, Prod.mk.injEq] at notes
  obtain ⟨-, -, -, -, pending⟩ := notes
  rw [noticeView, noticeView, mute, queue, pending]

/-- Contents replaced in a queue that has a notice. -/
theorem replaced_noticing {s : State} (loud : s.station.mute = false) (c : NoticeContent)
    (noticed : s.line.queue.any OutFrame.isNotice = true) {t : State} (mute : t.station.mute = s.station.mute)
    (queue : t.line.queue = replaceNotice c s.line.queue) : Noticing s t := by
  have same : masked t.line.queue = masked s.line.queue := by rw [queue, masked_replaceNotice]
  exact .of_masked mute loud (.inr (masked_noticed.mpr (same ▸ masked_noticed.mp noticed))) same

theorem keepPending_noticing {s : State} (loud : s.station.mute = false) (c : NoticeContent) : Noticing s (keepPending c s) :=
  .of_masked rfl loud (.inl rfl) rfl

/-- A notice appended to `q`, which is the queue or the queue without its REPORT. -/
theorem appendNotice_noted (q : List OutFrame) (c : NoticeContent) (s : State) : Noted (placeNotice (q ++ [.notice c]) s) :=
  .inr (by simp [placeNotice, OutFrame.isNotice])

theorem offerNotice_noticing {s : State} (loud : s.station.mute = false) (pending : s.fault.pendingNotice = none) (c : NoticeContent) :
    Noticing s (offerNotice c s) := by
  unfold offerNotice
  rw [if_neg (ne_true_of_eq_false loud)]
  by_cases noticed : s.line.queue.any OutFrame.isNotice = true
  · rw [if_pos noticed]
    split
    · exact keepPending_noticing loud c
    · exact replaced_noticing loud c noticed rfl rfl
  rw [if_neg noticed]
  have unnoted : ¬Noted s := fun n => n.elim (by simp [pending]) noticed
  have first {t : State} (mute : t.station.mute = s.station.mute) (after : Noted t) (h : FirstNotice s.line.queue t.line.queue) :
      Noticing s t :=
    ⟨mute, fun m => absurd (m.symm.trans loud) (by decide), fun _ n => absurd n unnoted, fun _ => .inr ⟨after, h⟩⟩
  by_cases room : s.line.queue.length < 4
  · rw [if_pos (by exact decide_eq_true room)]
    exact first rfl (appendNotice_noted ..) (.inr (.inl ⟨room, masked_append ..⟩))
  rw [if_neg (by simpa [Line.hasRoom] using room)]
  split
  · exact first rfl (appendNotice_noted ..) (.inr (.inr ⟨not_lt.mp room, masked_append ..⟩))
  · exact keepPending_noticing loud c

theorem awaitNotice_noticing (o : Occ) (s : State) : Noticing s (awaitNotice o s) := .of_view rfl

theorem noticeRow_noticing {s : State} (loud : s.station.mute = false) (o : Occ) : Noticing s (noticeRow o s) := by
  have placed {q : NoticeContent} (h : s.placedContent = some q) : s.line.queue.any OutFrame.isNotice = true := by
    unfold State.placedContent at h
    split at h
    · exact List.any_eq_true.mpr ⟨_, queuedNotice_mem h, rfl⟩
    · cases h
  have raised (p : NoticeContent) : Noticing s { s with fault := { s.fault with pendingNotice := some p } } :=
    .of_masked rfl loud (.inl rfl) rfl
  unfold noticeRow
  split
  · rename_i p q hp hq
    (repeat' split)
    · exact raised _
    · exact replaced_noticing loud _ (placed hq) rfl rfl
    · exact (keepPending_noticing loud _).trans (awaitNotice_noticing ..)
    · exact awaitNotice_noticing ..
  · (repeat' split)
    · exact raised _
    · exact (keepPending_noticing loud _).trans (awaitNotice_noticing ..)
    · exact awaitNotice_noticing ..
  · rename_i q hp hq
    (repeat' split)
    · exact replaced_noticing loud _ (placed hq) rfl rfl
    · exact (offerNotice_noticing loud hp _).trans (awaitNotice_noticing ..)
    · exact awaitNotice_noticing ..
  · rename_i hp hq
    exact offerNotice_noticing loud hp _

theorem settleNotice_noticing (o : Occ) (s : State) : Noticing s (settleNotice o s) := by
  unfold settleNotice
  split
  · exact .refl s
  · rename_i loud
    exact (noticeRow_noticing (s := raiseEntry o s) (Bool.eq_false_iff.mpr loud) o).from_view rfl

theorem recordOccurrence_noticing (d : Detection) (cls : FaultClass) (trial due : Bool) (s : State) :
    Noticing s (recordOccurrence d cls trial due s) := by
  have written : Noticing s (writeQueue d cls trial s) := .of_view rfl
  unfold recordOccurrence
  dsimp only
  split
  · exact written.trans (settleNotice_noticing ..)
  · exact written

theorem occurNote_noticing (d : Detection) (s : State) : Noticing s (occurNote d s) := by
  unfold occurNote
  split
  · exact recordOccurrence_noticing ..
  · exact (recordOccurrence_noticing ..).from_view (by rfl)

/-! ## What it says of a queue -/

theorem dropReport_length_ge {l : Line} (bounded : QueueBounded l) : l.queue.length ≤ (dropReport l.queue).length + 1 := by
  have parts := List.length_eq_length_filter_add (l := l.queue) OutFrame.isReport
  have few := bounded.reports
  rw [dropReport]
  omega

section
variable {s t : State} (n : Noticing s t)
include n

/-- The three ways in which the queue moves, mute or not. -/
theorem Noticing.queue_cases : FirstNotice s.line.queue t.line.queue := by
  cases mute : s.station.mute with
  | true => exact .inl (by rw [n.silent mute])
  | false =>
    rcases n.fresh mute with ⟨same, -⟩ | ⟨-, first⟩
    · exact .inl (by rw [same])
    · exact first

/-- An answer in the queue stays there. -/
theorem Noticing.answer_mem {a : AnswerContent} (h : .answer a ∈ s.line.queue) : .answer a ∈ t.line.queue := by
  have h' := mem_masked.mpr h
  rw [← mem_masked]
  rcases n.queue_cases with e | ⟨-, e⟩ | ⟨-, e⟩ <;> rw [e]
  · exact h'
  · exact List.mem_append_left _ h'
  · exact List.mem_append_left _ (mem_masked.mpr (List.mem_filter.mpr ⟨h, rfl⟩))

/-- The queue grows by one frame at most. -/
theorem Noticing.length_le : t.line.queue.length ≤ s.line.queue.length + 1 := by
  rw [← masked_length, ← masked_length s.line.queue]
  rcases n.queue_cases with e | ⟨-, e⟩ | ⟨-, e⟩ <;> rw [e]
  · exact Nat.le_succ _
  · simp
  · have := List.length_filter_le (fun f : OutFrame => !f.isReport) s.line.queue
    simp only [masked_length, List.length_append, List.length_singleton, dropReport]
    omega

/-- A full queue stays full. -/
theorem Noticing.full (bounded : QueueBounded s.line) (h : 4 ≤ s.line.queue.length) : 4 ≤ t.line.queue.length := by
  rw [← masked_length] at h ⊢
  have kept := dropReport_length_ge bounded
  rcases n.queue_cases with e | ⟨-, e⟩ | ⟨-, e⟩ <;> rw [e]
  · exact h
  · simp only [List.length_append]
    omega
  · simp only [masked_length, List.length_append, List.length_singleton] at h ⊢
    omega

end

end Sys2Proof.Machine
end

section
/-! A mains loss (O49). -/

namespace Sys2Proof.Machine

/-- What ends a leak test with WRONG_STATE leaves and does (R57, R108, R49): `t` is `s` with the test ended, the leakage count 0 if a test
was in progress, and the completion placed. -/
structure TestAborted (s t : State) : Prop where
  rest : t = { s with line := t.line, cmd := t.cmd, meas := { s.meas with
    leakTest := .idle, leakCount := t.meas.leakCount, leakPause := t.meas.leakPause } }
  count : t.meas.leakCount = if s.meas.leakTest = .idle then s.meas.leakCount else 0
  quiet : s.meas.leakTest = .idle → t = s
  silent : ∀ asker reqNo due, s.meas.leakTest ≠ .idle → s.cmd = .inFlight .leakTest asker reqNo due →
    due = false ∨ s.station.mute = true → t.cmd = .empty ∧ t.line = s.line
  queued : ∀ asker reqNo, s.meas.leakTest ≠ .idle → s.cmd = .inFlight .leakTest asker reqNo true →
    s.station.mute = false → s.line.queue.length < 4 →
    t.cmd = .empty ∧ t.line = { s.line with queue := s.line.queue ++ [.answer ⟨asker, reqNo, .wrongState, []⟩] }
  held : ∀ asker reqNo, s.meas.leakTest ≠ .idle → s.cmd = .inFlight .leakTest asker reqNo true →
    s.station.mute = false → 4 ≤ s.line.queue.length → t.cmd = .held ⟨asker, reqNo, .wrongState, []⟩ ∧ t.line = s.line

theorem completeDeferred_rest (name : Deferred) (st : Status) (result : List Byte) (s : State) :
    completeDeferred name st result s =
      { s with line := (completeDeferred name st result s).line, cmd := (completeDeferred name st result s).cmd } := by
  rcases completeDeferred_cases name st result s with e | ⟨_, _, _, -, ⟨-, e⟩ | ⟨-, -, -, e⟩ | ⟨-, -, -, e⟩⟩ <;> rw [e]

theorem abortLeakTest_aborted (s : State) : TestAborted s (abortLeakTest s) := by
  by_cases idle : s.meas.leakTest = .idle
  · have same : abortLeakTest s = s := if_pos idle
    rw [same]
    refine ⟨?_, (if_pos idle).symm, fun _ => rfl, ?_, ?_, ?_⟩
    · simp only [← idle]
    · exact fun _ _ _ h => absurd idle h
    · exact fun _ _ h => absurd idle h
    · exact fun _ _ h => absurd idle h
  · have ended : abortLeakTest s = completeDeferred .leakTest .wrongState [] (endLeakTest s) := if_neg idle
    have rest := completeDeferred_rest .leakTest .wrongState [] (endLeakTest s)
    rw [ended]
    constructor
    case rest =>
      rw [show (completeDeferred .leakTest .wrongState [] (endLeakTest s)).meas = (endLeakTest s).meas by rw [rest]]
      exact rest
    case count => rw [if_neg idle, rest]; rfl
    case quiet => exact fun h => absurd h idle
    case silent =>
      intro asker reqNo due _ flying h
      rw [completeDeferred_discarded (s := endLeakTest s) _ _ flying h]
      exact ⟨rfl, rfl⟩
    case queued =>
      intro asker reqNo _ flying loud room
      rw [completeDeferred_queued (s := endLeakTest s) _ _ flying rfl loud room]
      exact ⟨rfl, rfl⟩
    case held =>
      intro asker reqNo _ flying loud full
      rw [completeDeferred_held (s := endLeakTest s) _ _ flying rfl loud full]
      exact ⟨rfl, rfl⟩

/-! ## The halt unit at the loss (R204) -/

theorem outstanding_iff (k : CheckState) : k.outstanding = true ↔ k = .afterEdge ∨ k = .wanted ∨ k = .requested := by
  cases k <;> simp [CheckState.outstanding]

/-- Every outstanding check asked at once, before the arbiter takes the first of them. -/
theorem askAllCrystal_eq (s : State) : askAllCrystal s = startRequested { s with
    meas := { s.meas with chans := .of (fun c => if (s.halt.checks.get c).outstanding = true
      then { s.meas.chans.get c with reqCheck := .crystal (s.now + 10000) } else s.meas.chans.get c) }
    halt := { s.halt with
      checks := .of (fun c => if (s.halt.checks.get c).outstanding = true then .requested else s.halt.checks.get c)
      compRead := true
      leakSeen := if s.halt.compRead = false then s.comparator else s.halt.leakSeen } } := by
  have each := each_asked (s := readForHalt s) CheckState.outstanding (.crystal (s.now + 10000))
    (f := fun c s => if (s.halt.checks.get c).outstanding then askCrystal c s else s)
    (fun c x => by simp [withChecks, askCrystal])
  rw [askAllCrystal]
  refine congrArg startRequested (each.trans ?_)
  rw [readForHalt_eq]

/-- What the halt unit makes of a mains loss: `u` before the arbiter takes a request, `t` after it. -/
structure HaltLost (s u t : State) : Prop where
  rest : u = { s with meas := { s.meas with chans := u.meas.chans }, halt := u.halt }
  unasked : s.halt.proc ≠ .checking → t = u
  asked : s.halt.proc = .checking → RequestsServed u t
  chans : ∀ c, u.meas.chans.get c = if s.halt.proc = .checking ∧ (s.halt.checks.get c).outstanding = true
    then { s.meas.chans.get c with reqCheck := .crystal (s.now + 10000) } else s.meas.chans.get c
  mode : s.halt.proc = .confirming → (∃ i, s.halt.mode = .halfCycles i) → u.halt.mode = .crystal (s.now + 100000)
  halt : s.halt.proc ≠ .confirming → u.halt = { s.halt with
    checks := .of fun c => if s.halt.proc = .checking ∧ (s.halt.checks.get c).outstanding = true then .requested
      else s.halt.checks.get c
    compRead := s.halt.compRead || decide (s.halt.proc = .checking)
    leakSeen := if s.halt.proc = .checking ∧ s.halt.compRead = false then s.comparator else s.halt.leakSeen }

theorem haltAtLoss_lost (s : State) : ∃ u, HaltLost s u (haltAtLoss s) := by
  by_cases checking : s.halt.proc = .checking
  · have taken : haltAtLoss s = askAllCrystal s := by simp [haltAtLoss, checking]
    rw [taken, askAllCrystal_eq]
    refine ⟨_, rfl, fun h => absurd checking h, fun _ => startRequested_served _, fun c => ?_, fun h => ?_, fun _ => ?_⟩
    · simp only [checking, true_and, Four.get_of]
    · cases checking.symm.trans h
    · simp [checking]
  · by_cases crystal : s.halt.proc = .confirming ∧ ∃ i, s.halt.mode = .halfCycles i
    · obtain ⟨confirming, i, mode⟩ := crystal
      have taken : haltAtLoss s = { s with halt := { s.halt with mode := .crystal (s.now + 100000) } } := by
        simp [haltAtLoss, confirming, mode]
      exact ⟨_, rfl, fun _ => taken, fun h => absurd h checking, fun c => by simp [checking], fun _ _ => rfl,
        fun h => absurd confirming h⟩
    · have taken : haltAtLoss s = s := by
        unfold haltAtLoss
        split
        · rename_i i confirming mode
          exact absurd ⟨confirming, i, mode⟩ crystal
        · exact absurd ‹_› checking
        · rfl
      refine ⟨s, rfl, fun _ => taken, fun h => absurd h checking, fun c => by simp [checking],
        fun h i => absurd ⟨h, i⟩ crystal, fun _ => ?_⟩
      simp only [checking, false_and, if_false, decide_false, Bool.or_false]
      rfl

/-! ## The loss (R112) -/

/-- What the mains loss makes of the blocks ahead of the leak test. -/
def lossSamples (s : State) : State := abandonSamples (clearPhases (abandonPeriod (discardChecks (outputsOff s))))

theorem lossSamples_burst (s : State) (c : Chan) :
    (lossSamples s).burst.chans.get c = ⟨0, (s.burst.chans.get c).r, false, none⟩ := by
  unfold lossSamples abandonSamples clearPhases abandonPeriod discardChecks outputsOff ChanBurst.drive
  simp only [Four.get_map]
  split
  · rename_i off
    rw [off]
  · rfl

theorem lossSamples_meas (s : State) (c : Chan) : (lossSamples s).meas.chans.get c = (s.meas.chans.get c).abandon := by
  unfold lossSamples abandonSamples clearPhases abandonPeriod discardChecks outputsOff
  simp only [Four.get_map]
  rfl

/-- The loss up to the halt unit: the notice of MAINS_LOST is the fault unit's last work. -/
theorem loseMains_eq (s : State) : loseMains s = haltAtLoss (occurNote ⟨.mainsLost, none, none⟩
    { zeroShare (stopWatch (abortLeakTest (lossSamples s))) with
      burst := { (abortLeakTest (lossSamples s)).burst with period := .lost } }) := rfl

theorem occurNote_cond (d : Detection) (s : State) : (occurNote d s).hasCond d.kind d.chan = true := by
  unfold occurNote
  split
  · rename_i old
    rw [State.hasCond_of (recordOccurrence_marks ..).1, old]
  · rw [State.hasCond_of (recordOccurrence_marks ..).1]
    simp [State.hasCond]

theorem occurNote_watch (d : Detection) (s : State) : (occurNote d s).fault.watch = s.fault.watch := by
  unfold occurNote
  split <;> simp

/-- Settles O49. -/
theorem mainsLossAbandonsThePeriod : Obligations.MainsLossAbandonsThePeriod := by
  unfold Obligations.MainsLossAbandonsThePeriod
  intro n residual s timer present now code threshold outstanding
  have taken : exec (.mainsLost residual) s = .next (loseMains ((s.showResidual residual).reach n)) := by
    refine congrArg Host.Outcome.next ?_
    rw [mainsEnds, timer]
    exact if_neg present
  rw [loseMains_eq] at taken
  obtain ⟨rest, count, quiet, silent, queued, held⟩ :=
    abortLeakTest_aborted (lossSamples ((s.showResidual residual).reach n))
  generalize abortLeakTest (lossSamples ((s.showResidual residual).reach n)) = a at *
  obtain ⟨line, cmd, leakCount, pause, rfl⟩ : ∃ line cmd leakCount pause,
      a = { lossSamples ((s.showResidual residual).reach n) with line := line, cmd := cmd, meas :=
        { (lossSamples ((s.showResidual residual).reach n)).meas with
          leakTest := .idle, leakCount := leakCount, leakPause := pause } } := ⟨_, _, _, _, rest⟩
  obtain rfl : leakCount = 0 := count.trans (ite_self 0)
  clear rest count
  generalize hp : ({ zeroShare (stopWatch _) with burst := _ } : State) = p at taken
  obtain ⟨-, vnow, vpins, vloader, vstation, vcmd, vpeers, vmeas, vburst, vbudget, vchans, vhalt, -⟩ :=
    occurNote_frame ⟨.mainsLost, none, none⟩ p
  have noticing := occurNote_noticing ⟨.mainsLost, none, none⟩ p
  have cond := occurNote_cond ⟨.mainsLost, none, none⟩ p
  have watch := occurNote_watch ⟨.mainsLost, none, none⟩ p
  generalize occurNote ⟨.mainsLost, none, none⟩ p = v at *
  subst hp
  obtain ⟨u, urest, unasked, asked, uchans, mode, halt⟩ := haltAtLoss_lost v
  generalize haltAtLoss v = t at *
  obtain ⟨chans, h, rfl⟩ : ∃ chans h, u = { v with meas := { v.meas with chans := chans }, halt := h } := ⟨_, _, urest⟩
  have vhalt : v.halt = s.halt := vhalt
  have vnow : v.now = now := vnow
  rw [vhalt] at unasked asked uchans mode halt
  rw [vnow] at uchans mode
  have due (c : Chan) : outstanding c ↔ s.halt.proc = .checking ∧ (s.halt.checks.get c).outstanding = true := by
    rw [outstanding_iff]
  have exceeds : v.comparator = decide (threshold < residual) := by rw [comparator_eq, vloader, vpins]; rfl
  have burst {α : Type} (f : Burst → α) := congrArg f vburst
  have meas {α : Type} (f : Meas → α) := congrArg f vmeas
  refine ⟨_, t, taken, unasked, asked, vnow, vpins, fun c => ?_, burst (·.period), burst (·.idx),
    burst (·.mainsTimer), burst (·.slot), burst (·.len), burst (·.pendingSlot), burst (·.slotTimer), burst (·.contactor),
    fun c => ?_, ?_, meas (·.convEnd), meas (·.roundOn), meas (·.remaining), meas (·.leakCount), meas (·.leakPresent),
    meas (·.leakTest), meas (·.midpoint), vpeers, vbudget, cond, watch, vchans, vstation, vloader,
    fun idle => ?_, fun asker reqNo due untested flying => ⟨fun h => ?_, fun h loud room => ?_, fun h loud full => ?_⟩, mode,
    fun h => ?_⟩
  · exact (burst (·.chans.get c)).trans (lossSamples_burst ..)
  · have abandoned : v.meas.chans.get c = (s.meas.chans.get c).abandon := (meas (·.chans.get c)).trans (lossSamples_meas ..)
    have asks : chans.get c =
        { (s.meas.chans.get c).abandon with reqCheck := if outstanding c then .crystal (now + 10000) else .none } := by
      refine (uchans c).trans ?_
      rw [abandoned]
      by_cases asks : outstanding c
      · rw [if_pos ((due c).mp asks), if_pos asks]
      · rw [if_neg (mt (due c).mpr asks), if_neg asks]
        rfl
    dsimp only
    rw [asks]
    exact ⟨rfl, rfl, rfl, rfl, rfl, rfl, rfl, rfl, rfl, rfl⟩
  · exact meas (·.conv)
  · have same := congrArg State.cmd (quiet idle)
    exact vcmd.trans same
  · exact vcmd.trans (silent asker reqNo due untested flying h).1
  · subst h
    obtain ⟨empty, queue⟩ := queued asker reqNo untested flying loud room
    exact ⟨vcmd.trans empty, noticing.answer_mem (queue ▸ List.mem_append_right _ (List.mem_singleton.mpr rfl))⟩
  · subst h
    exact vcmd.trans (held asker reqNo untested flying loud full).1
  · refine (halt h).trans ?_
    simp only [due]
    rw [exceeds]

end Sys2Proof.Machine
end

section
/-! An accepted edge that ends no period (O46). -/

namespace Sys2Proof.Machine

/-! ## What a settled notice reads (R195, R196) -/

/-- All that a settled notice reads, and all of it that it writes. -/
def noteView (s : State) : Station × Budget × Line × Option Placed × Option NoticeContent × List Occ :=
  (s.station, s.budget, s.line, s.fault.placed, s.fault.pendingNotice, s.fault.awaiting)

theorem noteView_parts {s t : State} (h : noteView t = noteView s) : t.line = s.line ∧ t.fault.placed = s.fault.placed ∧
    t.fault.pendingNotice = s.fault.pendingNotice ∧ t.fault.awaiting = s.fault.awaiting := by
  simp only [noteView, Prod.mk.injEq] at h
  exact h.2.2

theorem keepPending_alike {s t : State} (h : noteView t = noteView s) (c : NoticeContent) :
    noteView (keepPending c t) = noteView (keepPending c s) := by
  simp only [noteView, Prod.mk.injEq] at h
  simp [noteView, keepPending, h]

theorem placeNotice_alike {s t : State} (h : noteView t = noteView s) (q : List OutFrame) :
    noteView (placeNotice q t) = noteView (placeNotice q s) := by
  simp only [noteView, Prod.mk.injEq] at h
  simp [noteView, placeNotice, h]

theorem offerNotice_alike {s t : State} (h : noteView t = noteView s) (c : NoticeContent) :
    noteView (offerNotice c t) = noteView (offerNotice c s) := by
  have keeps := keepPending_alike h c
  have places := placeNotice_alike h
  have parts := h
  simp only [noteView, Prod.mk.injEq] at parts
  obtain ⟨station, -, line, -⟩ := id parts
  unfold offerNotice
  rw [station, line]
  (repeat' split)
  · simp [noteView, parts]
  · exact keeps
  · exact places _
  · exact places _
  · exact places _
  · exact keeps

theorem awaitNotice_alike {s t : State} (h : noteView t = noteView s) (o : Occ) :
    noteView (awaitNotice o t) = noteView (awaitNotice o s) := by
  simp only [noteView, Prod.mk.injEq] at h
  simp [noteView, awaitNotice, h]

theorem noticeRow_alike {s t : State} (h : noteView t = noteView s) (o : Occ) :
    noteView (noticeRow o t) = noteView (noticeRow o s) := by
  have keeps := keepPending_alike h
  have offers := offerNotice_alike h
  have parts := h
  simp only [noteView, Prod.mk.injEq] at parts
  obtain ⟨station, budget, line, placed, pending, awaiting⟩ := parts
  have content : t.placedContent = s.placedContent := by rw [State.placedContent, placed, line]; rfl
  have notice : t.notice o = s.notice o := by rw [State.notice, station, budget]; rfl
  have raised (p : NoticeContent) : noteView { t with line := s.line, fault := { t.fault with pendingNotice := some p } } =
      noteView { s with fault := { s.fault with pendingNotice := some p } } := by
    simp [noteView, station, budget, placed, awaiting]
  have replaced (p : NoticeContent) : noteView { t with line := { s.line with queue := replaceNotice p s.line.queue } } =
      noteView { s with line := { s.line with queue := replaceNotice p s.line.queue } } := by
    simp [noteView, station, budget, placed, pending, awaiting]
  unfold noticeRow
  rw [content, pending, notice, line]
  split
  · (repeat' split)
    · exact raised _
    · exact replaced _
    · exact awaitNotice_alike (keeps _) _
    · exact awaitNotice_alike h _
  · (repeat' split)
    · exact raised _
    · exact awaitNotice_alike (keeps _) _
    · exact awaitNotice_alike h _
  · (repeat' split)
    · exact replaced _
    · exact awaitNotice_alike (offers _) _
    · exact awaitNotice_alike h _
  · exact offers _

theorem settleNotice_alike {s t : State} (h : noteView t = noteView s) (o : Occ) :
    noteView (settleNotice o t) = noteView (settleNotice o s) := by
  have parts := h
  simp only [noteView, Prod.mk.injEq] at parts
  obtain ⟨station, budget, line, placed, pending, awaiting⟩ := parts
  have raised : noteView (raiseEntry o t) = noteView (raiseEntry o s) := by
    simp [noteView, raiseEntry, station, budget, line, placed, pending, awaiting]
  unfold settleNotice
  rw [station]
  split
  · exact h
  · exact noticeRow_alike raised o

theorem settleNotice_queue (o : Occ) (s : State) : (settleNotice o s).fault.queue = s.fault.queue := by
  unfold settleNotice noticeRow
  (repeat' split) <;> simp [awaitNotice, keepPending, raiseEntry]

theorem recordOccurrence_queue (d : Detection) (cls : FaultClass) (trial due : Bool) (s : State) :
    (recordOccurrence d cls trial due s).fault.queue = queueAfter s.fault.queue s.uptime d cls trial := by
  unfold recordOccurrence
  dsimp only
  split
  · exact settleNotice_queue ..
  · rfl

theorem recordOccurrence_noteView (d : Detection) (cls : FaultClass) (trial due : Bool) (s : State) :
    noteView (recordOccurrence d cls trial due s) =
      noteView (if due = true then settleNotice ⟨d.kind, d.chan, cls⟩ s else s) := by
  have written : noteView (writeQueue d cls trial s) = noteView s := rfl
  unfold recordOccurrence
  dsimp only
  split
  · exact settleNotice_alike written _
  · exact written

/-! ## The half-cycle begun -/

/-- The state with the half-cycle begun, as it stands before the leak test, but for what the edge makes of the burst timer, the halt unit,
the watch and the conditions. -/
def halfBegun (e : EdgeIn) (s : State) (burst : Burst) (halt : Halt) (watch : Option Nat) (conds : List Cond) : State :=
  { s with
    pins := { s.pins with hr := e.hr }
    burst := burst
    meas := (endHalfCycle s).meas
    halt := halt
    fault := { s.fault with watch := watch, conds := conds }
    peers := if s.burst.period = .running then s.peers
      else { s.peers with entries := s.peers.entries.map fun p => { p with delta := none } } }

/-- What an accepted edge that ends no period makes of the state up to the leak test, where the readbacks agree and the watch finds no
leakage that persists (R88, R110, R113, R118, R181, R204). -/
structure HalfBegun (e : EdgeIn) (s t : State) : Prop where
  rest : t = halfBegun e s t.burst t.halt t.fault.watch t.fault.conds
  clock : t.burst.period = .running ∧ t.burst.lastEdge = some s.now ∧ t.burst.mainsTimer = some (s.now + mainsLostTime s.loader.image) ∧
    t.burst.contactor = s.burst.contactor
  index : ∀ i, s.burst.period = .running → s.burst.idx = some i → t.burst.idx = some (i + 1) ∧ t.burst.len = s.burst.len ∧
    t.burst.slot = s.burst.slot ∧ t.burst.pendingSlot = s.burst.pendingSlot ∧
    ∀ c, (t.burst.chans.get c).h = (s.burst.chans.get c).h
  fresh : s.burst.period ≠ .running → t.burst.idx = some 0 ∧ t.burst.len = 64 ∧ ∀ c, (t.burst.chans.get c).h = 0
  first : s.burst.period = .noPeriod → t.burst.slot = s.burst.slot ∧ t.burst.pendingSlot = s.burst.pendingSlot
  back : s.burst.period = .lost → t.burst.slot = s.burst.pendingSlot.getD s.burst.slot ∧ t.burst.pendingSlot = none ∧
    t.hasCond .mainsLost none = false
  conds : ∀ k c, k ≠ .mainsLost → t.hasCond k c = s.hasCond k c
  chans : ∀ c, (t.burst.chans.get c).r = (s.burst.chans.get c).r ∧ (t.burst.chans.get c).out = (s.burst.chans.get c).out ∧
    (t.burst.chans.get c).check = (s.burst.chans.get c).check.filter fun k => decide (2 * (s.now - k.since) < halfCycle s.loader.image)
  watch : t.fault.watch = if e.watchFirst = true ∧ (∃ n, s.fault.watch = some n ∧ 9 ≤ n) then none
    else s.fault.watch.map fun n => min (n + 1) 10
  halt : { t.halt with checks := s.halt.checks } = { s.halt with mode := match s.halt.proc, s.halt.mode with
    | .confirming, .halfCycles n => .halfCycles (min (n + 1) 10)
    | _, m => m }

/-- The watch after an edge at which it finds no leakage that persists. -/
def watchAfter (e : EdgeIn) (s : State) : Option Nat :=
  if e.watchFirst = true ∧ (∃ n, s.fault.watch = some n ∧ 9 ≤ n) then none else s.fault.watch.map fun n => min (n + 1) 10

theorem startEdge_quiet {e : EdgeIn} {s : State}
    (quiet : e.watchFirst = true → s.meas.leakPresent = true → ∀ n, s.fault.watch = some n → n < 9) :
    startEdge e s = { countConfirm (endHalfCycle (noteEdge e.hr s)) with fault := { s.fault with watch := watchAfter e s } } := by
  have counted : startEdge e s = watchAtEdge e.watchFirst (edgeCounted e s) := rfl
  have counts : edgeCounted e s = { countConfirm (endHalfCycle (noteEdge e.hr s)) with
      fault := { s.fault with watch := s.fault.watch.map fun n => min (n + 1) 10 } } := by
    have fault : (countConfirm (endHalfCycle (noteEdge e.hr s))).fault = s.fault := by
      unfold countConfirm
      split <;> rfl
    rw [edgeCounted, countWatch, fault]
  have leak : (edgeCounted e s).meas.leakPresent = s.meas.leakPresent := by simp [edgeCounted, endHalfCycle]
  have ten : (s.fault.watch.map fun n => min (n + 1) 10) = some 10 ↔ ∃ n, s.fault.watch = some n ∧ 9 ≤ n := by
    rw [Option.map_eq_some_iff]
    exact exists_congr fun n => and_congr_right fun _ => by omega
  rw [counted, watchAtEdge, watchAfter]
  by_cases decides : e.watchFirst = true ∧ ∃ n, s.fault.watch = some n ∧ 9 ≤ n
  · have absent : s.meas.leakPresent = false := by
      obtain ⟨first, n, hn, nine⟩ := decides
      exact Bool.eq_false_iff.mpr fun present => by have := quiet first present n hn; omega
    rw [if_pos decides, if_pos (by rw [counts]; simpa [ten] using decides), decideWatch, leak, absent, if_neg Bool.false_ne_true, counts]
    rfl
  · rw [if_neg decides, if_neg (by rw [counts]; simpa [ten] using decides), counts]

theorem checkedOutput_leaves (s : State) (c : Chan) :
    (checkedOutput s c).h = (s.burst.chans.get c).h ∧ (checkedOutput s c).r = (s.burst.chans.get c).r ∧
    (checkedOutput s c).out = (s.burst.chans.get c).out ∧
    (checkedOutput s c).check = (s.burst.chans.get c).check.filter fun k => decide (2 * (s.now - k.since) < halfCycle s.loader.image) := by
  have due : readbackDue s c = match (s.burst.chans.get c).check with
    | some k => decide (halfCycle s.loader.image ≤ 2 * (s.now - k.since))
    | none => false := rfl
  unfold checkedOutput
  cases h : (s.burst.chans.get c).check with
  | none => simp [due, h]
  | some k =>
    have later : (2 * (s.now - k.since) < halfCycle s.loader.image) ↔ ¬halfCycle s.loader.image ≤ 2 * (s.now - k.since) := not_le.symm
    by_cases hk : halfCycle s.loader.image ≤ 2 * (s.now - k.since) <;> simp [due, h, Option.filter_some, later, hk]

theorem countConfirm_eq (s : State) : countConfirm s = { s with halt := { s.halt with mode := match s.halt.proc, s.halt.mode with
    | .confirming, .halfCycles n => .halfCycles (min (n + 1) 10)
    | _, m => m } } := by
  unfold countConfirm
  split
  · rename_i confirming
    rw [confirming]
    cases hm : s.halt.mode <;> simp [ConfirmMode.count]
  · rename_i other
    split
    · exact absurd ‹_› other
    · rfl

theorem applySlot_eq (s : State) : applySlot s =
    { s with burst := { s.burst with slot := s.burst.pendingSlot.getD s.burst.slot, pendingSlot := none } } := by
  rw [← applySlot_burst]
  unfold applySlot
  split <;> rfl

/-- A period that begins where none ran (R110, R113). -/
theorem beginPeriod_eq (s : State) : beginPeriod s = { s with
    burst := { s.burst with
      period := .running, idx := some 0, len := 64
      slot := if s.burst.period = .lost then s.burst.pendingSlot.getD s.burst.slot else s.burst.slot
      pendingSlot := if s.burst.period = .lost then none else s.burst.pendingSlot
      chans := s.burst.chans.map fun b => { b with h := 0 } }
    fault := if s.burst.period = .lost then (s.clearCond .mainsLost none).fault else s.fault
    peers := { s.peers with entries := s.peers.entries.map fun p => { p with delta := none } } } := by
  unfold beginPeriod
  by_cases lost : s.burst.period = .lost
  · rw [if_pos lost, if_pos lost, if_pos lost, if_pos lost, applySlot_eq]
    rfl
  · rw [if_neg lost, if_neg lost, if_neg lost, if_neg lost]
    rfl

theorem hasCond_clearCond (s : State) (k : FaultKind) (c : Option Chan) :
    (s.clearCond k c).hasCond k c = false ∧
      ∀ j x, ¬(j = k ∧ x = c) → (s.clearCond k c).hasCond j x = s.hasCond j x := by
  refine ⟨by simp [State.hasCond]; tauto, fun j x other => ?_⟩
  simp only [State.hasCond, State.clearCond_fault, List.any_filter]
  refine congrArg (List.any s.fault.conds) (funext fun y => ?_)
  by_cases same : y.kind = j ∧ y.chan = x
  · obtain ⟨rfl, rfl⟩ := same
    simpa [or_iff_not_imp_left] using other
  · simp [same]

theorem nextHalfCycle_begun {e : EdgeIn} {s : State}
    (agree : ∀ c k, (s.burst.chans.get c).check = some k → checkDue s.loader.image s.now k = true → e.hr.get c = k.level)
    (inside : s.burst.period = .running → ∃ i, s.burst.idx = some i ∧ i + 1 < s.burst.len)
    (quiet : e.watchFirst = true → s.meas.leakPresent = true → ∀ n, s.fault.watch = some n → n < 9) :
    HalfBegun e s (nextHalfCycle (startEdge e s)) := by
  have started := startEdge_quiet quiet
  rw [countConfirm_eq] at started
  have checked : readbackChecks (startEdge e s) = checksEnded (startEdge e s) := by
    refine readbackChecks_quiet fun c k h due => ?_
    rw [started] at h due ⊢
    exact agree c k h due
  have chan (c : Chan) : (checkedOutput (startEdge e s) c).h = (s.burst.chans.get c).h ∧
      (checkedOutput (startEdge e s) c).r = (s.burst.chans.get c).r ∧
      (checkedOutput (startEdge e s) c).out = (s.burst.chans.get c).out ∧ (checkedOutput (startEdge e s) c).check =
        (s.burst.chans.get c).check.filter fun k => decide (2 * (s.now - k.since) < halfCycle s.loader.image) := by
    have leaves := checkedOutput_leaves (startEdge e s) c
    rw [started] at leaves ⊢
    exact leaves
  have kept {x : Four ChanBurst} (hx : ∀ c, x.get c = checkedOutput (startEdge e s) c ∨
      x.get c = { checkedOutput (startEdge e s) c with h := 0 }) (c : Chan) :
      (x.get c).r = (s.burst.chans.get c).r ∧ (x.get c).out = (s.burst.chans.get c).out ∧ (x.get c).check =
        (s.burst.chans.get c).check.filter fun k => decide (2 * (s.now - k.since) < halfCycle s.loader.image) := by
    rcases hx c with h | h <;> rw [h] <;> exact (chan c).2
  have period : (checksEnded (startEdge e s)).burst.period = s.burst.period := by rw [started]; rfl
  by_cases running : s.burst.period = .running
  · obtain ⟨i, hi, -⟩ := inside running
    have begun : nextHalfCycle (startEdge e s) = setIndex (i + 1) (checksEnded (startEdge e s)) := by
      have before : (startEdge e s).burst.period = .running ∧ (startEdge e s).burst.idx = some i := by
        rw [started]
        exact ⟨running, hi⟩
      rw [nextHalfCycle, before.1, before.2, checked]
    rw [begun, started]
    constructor
    case rest => rw [halfBegun, if_pos running]; rfl
    case clock => exact ⟨running, rfl, rfl, rfl⟩
    case index =>
      intro j _ hj
      obtain rfl : i = j := Option.some.inj (hi.symm.trans hj)
      exact ⟨rfl, rfl, rfl, rfl, fun c => by
        rw [← started]
        exact (congrArg ChanBurst.h (Four.get_of ..)).trans (chan c).1⟩
    case fresh => exact fun h => absurd running h
    case first => exact fun h => by cases running.symm.trans h
    case back => exact fun h => by cases running.symm.trans h
    case conds => exact fun _ _ _ => rfl
    case chans => exact kept fun c => .inl (by rw [started]; exact Four.get_of ..)
    case watch => rfl
    case halt => rfl
  · have begun : nextHalfCycle (startEdge e s) = beginPeriod (checksEnded (startEdge e s)) := by
      have before : (startEdge e s).burst.period ≠ .running := by
        rw [started]
        exact running
      unfold nextHalfCycle
      rw [checked]
      cases h : (startEdge e s).burst.period <;> simp_all
    obtain ⟨gone, others⟩ := hasCond_clearCond s .mainsLost none
    have unfired (c : Chan) : ((checksEnded (startEdge e s)).burst.chans.map fun b : ChanBurst => { b with h := 0 }).get c =
        { checkedOutput (startEdge e s) c with h := 0 } := by
      rw [Four.get_map, checksEnded, Four.get_of]
    rw [begun, beginPeriod_eq, period]
    by_cases lost : s.burst.period = .lost
    · simp only [if_pos lost]
      rw [started]
      constructor
      case rest => rw [halfBegun, if_neg running]; rfl
      case clock => exact ⟨rfl, rfl, rfl, rfl⟩
      case index => exact fun _ h => absurd h running
      case fresh => exact fun _ => ⟨rfl, rfl, fun c => congrArg ChanBurst.h (Four.get_map ..)⟩
      case first => exact fun h => by cases lost.symm.trans h
      case back => exact fun _ => ⟨rfl, rfl, gone⟩
      case conds => exact fun k c h => others k c fun x => h x.1
      case chans => exact kept fun c => .inr (by rw [← started]; exact unfired c)
      case watch => rfl
      case halt => rfl
    · simp only [if_neg lost]
      rw [started]
      constructor
      case rest => rw [halfBegun, if_neg running]; rfl
      case clock => exact ⟨rfl, rfl, rfl, rfl⟩
      case index => exact fun _ h => absurd h running
      case fresh => exact fun _ => ⟨rfl, rfl, fun c => congrArg ChanBurst.h (Four.get_map ..)⟩
      case first => exact fun _ => ⟨rfl, rfl⟩
      case back => exact fun h => absurd h lost
      case conds => exact fun _ _ _ => rfl
      case chans => exact kept fun c => .inr (by rw [← started]; exact unfired c)
      case watch => rfl
      case halt => rfl

/-! ## The outputs of the half-cycle (R117, R118) -/

theorem settleOutputs_heaterPin (s : State) (c : Chan) : (settleOutputs s).heaterPin c = outputDue s c := by
  simp [settleOutputs, State.heaterPin, settledOutput, ChanBurst.drive_out]

theorem settleOutputs_fires (s : State) (c : Chan) : ((settleOutputs s).burst.chans.get c).h = (s.burst.chans.get c).h ∧
    ((settleOutputs s).burst.chans.get c).r = (s.burst.chans.get c).r := (settleOutputs_untouched s).fires c

theorem settleOutputs_check (s : State) (c : Chan) : ((settleOutputs s).burst.chans.get c).check =
    if (settleOutputs s).heaterPin c = s.heaterPin c then (s.burst.chans.get c).check
    else some ⟨(settleOutputs s).heaterPin c, s.now⟩ := by
  rw [settleOutputs_heaterPin]
  by_cases same : outputDue s c = s.heaterPin c
  · rw [if_pos same]
    have level : (s.burst.chans.get c).out = outputDue s c := same.symm
    simp [settleOutputs, settledOutput, ChanBurst.drive, level]
  · rw [if_neg same]
    have level : ¬(s.burst.chans.get c).out = outputDue s c := fun h => same h.symm
    simp [settleOutputs, settledOutput, ChanBurst.drive, level]

theorem settleOutputs_told (s : State) (c : Chan) : (settleOutputs s).meas.chans.get c =
    (s.meas.chans.get c).tell ((settleOutputs s).heaterPin c) := by
  rw [settleOutputs_heaterPin]
  simp [settleOutputs]

/-! ## The leak test (R107, R108) -/

/-- The leak test a half-cycle on, where it does not fail. -/
def LeakTest.next : LeakTest → LeakTest
  | .idle => .idle
  | .waiting => .driving 1
  | .driving n => .driving (n + 1)

theorem leakTestEdge_next {s : State} (few : ∀ n, s.meas.leakTest = .driving n → n < 8) :
    leakTestEdge s = { s with meas := { s.meas with leakTest := s.meas.leakTest.next } } := by
  unfold leakTestEdge
  cases h : s.meas.leakTest with
  | idle => simp only [LeakTest.next, ← h]
  | waiting => rfl
  | driving n => exact if_pos (few n h)

/-- Locking channels tells the sequencer nothing but of outputs that go off at the moment at which a period begins. -/
theorem lockAll_leakage (k : FaultKind) (s : State) : (lockAll k s).meas.leakage = s.meas.leakage := by
  refine State.each_inv (fun t => t.meas.leakage = s.meas.leakage) (fun c _ t ht => Eq.trans ?_ ht) rfl
  have stopped (u : State) : (stopChan c .locked none u).meas.leakage = u.meas.leakage := by
    rw [← stopChan_meas c .locked none u]
    rfl
  unfold lockChan
  dsimp only
  split
  · rfl
  · exact stopped _

/-- What a LEAK_TEST_FAIL does (R182): a new one locks every enabled channel. -/
structure TestFailed (s t : State) : Prop where
  meas : t.meas.leakage = s.meas.leakage
  cond : t.hasCond .leakTestFail none = true
  queue : t.fault.queue = queueAfter s.fault.queue s.uptime ⟨.leakTestFail, none, none⟩ .lock false
  new : s.hasCond .leakTestFail none = false → ∀ c, s.enabled c = true → LockedBy .leakTestFail c s t
  old : s.hasCond .leakTestFail none = true → t.chans = s.chans ∧ t.fault.locks = s.fault.locks
  others : ∀ c, s.enabled c = false → t.chans.get c = s.chans.get c
  notes : noteView t = noteView (if s.hasCond .leakTestFail none = true then s else settleNotice ⟨.leakTestFail, none, .lock⟩ s)

theorem occurTestFail_failed (s : State) : TestFailed s (occurTestFail ⟨.leakTestFail, none, none⟩ s) := by
  unfold occurTestFail
  by_cases old : s.hasCond .leakTestFail none = true
  · rw [if_pos old]
    obtain ⟨conds, locks, -, -⟩ := recordOccurrence_marks ⟨.leakTestFail, none, none⟩ .lock false false s
    constructor
    case meas => simp
    case cond => rw [State.hasCond_of conds, old]
    case queue => exact recordOccurrence_queue ..
    case new => exact fun h => by simp [old] at h
    case old => exact fun _ => ⟨by simp, locks⟩
    case others => exact fun c _ => by simp
    case notes => rw [if_pos old]; exact recordOccurrence_noteView ..
  · rw [if_neg old]
    have locked (c : Chan) := lockAll_locked (k := .leakTestFail) (c := c) (s := s)
    have others (c : Chan) := lockAll_disabled (k := .leakTestFail) (c := c) (s := s)
    have leakage := lockAll_leakage .leakTestFail s
    have notes := lockAll_notes .leakTestFail s
    have uptime : (lockAll .leakTestFail s).uptime = s.uptime := by simp [State.uptime]
    simp only [FaultUnit.notes, Prod.mk.injEq] at notes
    obtain ⟨queue, -, awaiting, placed, pending⟩ := notes
    have view : noteView (lockAll .leakTestFail s) = noteView s := by simp [noteView, awaiting, placed, pending]
    generalize lockAll .leakTestFail s = u at *
    obtain ⟨conds, locks, -, -⟩ := recordOccurrence_marks ⟨.leakTestFail, none, none⟩ .lock false true
      (u.addCond ⟨.leakTestFail, none, .lock⟩)
    have chans : (recordOccurrence ⟨.leakTestFail, none, none⟩ .lock false true (u.addCond ⟨.leakTestFail, none, .lock⟩)).chans =
      u.chans := by simp
    have burst : (recordOccurrence ⟨.leakTestFail, none, none⟩ .lock false true (u.addCond ⟨.leakTestFail, none, .lock⟩)).burst =
      u.burst := by simp
    constructor
    case meas => rw [← leakage]; simp
    case cond => rw [State.hasCond_of conds]; simp [State.hasCond]
    case queue =>
      refine (recordOccurrence_queue ..).trans ?_
      exact congrArg₂ (queueAfter · · _ _ _) queue uptime
    case new =>
      intro _ c enabled
      obtain ⟨state, listed, stopped⟩ := locked c enabled
      exact ⟨by rw [chans, state], by rw [locks]; exact listed, by rw [chans, burst]; exact stopped⟩
    case old => exact fun h => absurd h old
    case others => exact fun c disabled => by rw [chans, (others c disabled).chan]
    case notes =>
      rw [if_neg old]
      refine (recordOccurrence_noteView ..).trans ?_
      rw [if_pos rfl]
      exact settleNotice_alike (s := s) (t := u.addCond ⟨.leakTestFail, none, .lock⟩) view _

/-- What is settled of a LEAK_TEST_FAIL that was present before in `s`, or is new. -/
def failNoted (s u : State) : State :=
  if s.hasCond .leakTestFail none = true then u else settleNotice ⟨.leakTestFail, none, .lock⟩ u

/-- The half-cycle that begins after a leak test failed (R108, R117, R182): the completion, then the occurrence, then the outputs. -/
structure FailedEdge (s t : State) : Prop where
  test : t.meas.leakTest = .idle ∧ t.leakDrivePin = false ∧ t.meas.leakCount = 0 ∧ t.meas.leakPause = false
  cond : t.hasCond .leakTestFail none = true
  halt : t.halt = s.halt
  queue : t.fault.queue = queueAfter s.fault.queue t.uptime ⟨.leakTestFail, none, none⟩ .lock false
  new : s.hasCond .leakTestFail none = false → ∀ c, s.enabled c = true →
    (t.chans.get c).state = .locked ∧ .leakTestFail ∈ t.fault.locks.get c ∧ t.heaterPin c = false
  old : s.hasCond .leakTestFail none = true → t.chans = s.chans ∧ t.fault.locks = s.fault.locks
  others : ∀ c, s.enabled c = false → t.chans.get c = s.chans.get c
  silent : ∀ asker reqNo due, s.cmd = .inFlight .leakTest asker reqNo due → due = false ∨ s.station.mute = true →
    t.cmd = .empty ∧ noteView t = noteView (failNoted s s)
  queued : ∀ asker reqNo, s.cmd = .inFlight .leakTest asker reqNo true → s.station.mute = false → s.line.queue.length < 4 →
    t.cmd = .empty ∧ noteView t = noteView (failNoted s
      { s with line := { s.line with queue := s.line.queue ++ [.answer ⟨asker, reqNo, .ok, [2#8]⟩] } })
  held : ∀ asker reqNo, s.cmd = .inFlight .leakTest asker reqNo true → s.station.mute = false → 4 ≤ s.line.queue.length →
    t.cmd = .held ⟨asker, reqNo, .ok, [2#8]⟩ ∧ noteView t = noteView (failNoted s s)

theorem failNoted_alike {s s' u v : State} (cond : s'.hasCond .leakTestFail none = s.hasCond .leakTestFail none)
    (h : noteView v = noteView u) : noteView (failNoted s' v) = noteView (failNoted s u) := by
  unfold failNoted
  rw [cond]
  split
  · exact h
  · exact settleNotice_alike h _

theorem outputDue_stopped {s : State} {c : Chan} (h : (s.chans.get c).state.fires = false) : outputDue s c = false := by
  unfold outputDue
  split <;> simp [h]

theorem failLeakTest_failed (s : State) : FailedEdge s (settleOutputs (failLeakTest s)) := by
  have silent {asker reqNo : Byte} {due : Bool} (flying : s.cmd = .inFlight .leakTest asker reqNo due) :=
    completeDeferred_discarded (s := endLeakTest s) .ok [2#8] flying
  have queued {asker reqNo : Byte} {due : Bool} (flying : s.cmd = .inFlight .leakTest asker reqNo due) :=
    completeDeferred_queued (s := endLeakTest s) .ok [2#8] flying
  have held {asker reqNo : Byte} {due : Bool} (flying : s.cmd = .inFlight .leakTest asker reqNo due) :=
    completeDeferred_held (s := endLeakTest s) .ok [2#8] flying
  have rest := completeDeferred_rest .leakTest .ok [2#8] (endLeakTest s)
  have taken : failLeakTest s = occurTestFail ⟨.leakTestFail, none, none⟩ (completeDeferred .leakTest .ok [2#8] (endLeakTest s)) := rfl
  rw [taken]
  clear taken
  generalize completeDeferred .leakTest .ok [2#8] (endLeakTest s) = p at *
  obtain ⟨line, cmd, rfl⟩ : ∃ line cmd, p = { endLeakTest s with line := line, cmd := cmd } := ⟨_, _, rest⟩
  have frame := occurTestFail_frame ⟨.leakTestFail, none, none⟩ { endLeakTest s with line := line, cmd := cmd }
  obtain ⟨-, now, -, loader, station, command, -, -, halt, -⟩ := frame
  obtain ⟨meas, cond, queue, new, old, others, notes⟩ := occurTestFail_failed { endLeakTest s with line := line, cmd := cmd }
  generalize occurTestFail ⟨.leakTestFail, none, none⟩ { endLeakTest s with line := line, cmd := cmd } = o at *
  simp only [Meas.leakage, Prod.mk.injEq] at meas
  obtain ⟨count, -, test, -⟩ := meas
  have view {l : Line} (h : line = l) : noteView (settleOutputs o) = noteView (failNoted s { s with line := l }) := by
    subst h
    have same : noteView (settleOutputs o) = noteView o := rfl
    exact same.trans (notes.trans (failNoted_alike (s := s) rfl rfl))
  constructor
  case test =>
    have idle : (settleOutputs o).meas.leakTest = .idle := test
    exact ⟨idle, by rw [State.leakDrivePin, idle], count, rfl⟩
  case cond => exact cond
  case halt => exact halt
  case queue =>
    refine queue.trans (congrArg (queueAfter _ · _ _ _) ?_)
    simp only [State.uptime, settleOutputs, now, station]
  case new =>
    intro fresh c enabled
    obtain ⟨state, listed, -⟩ := new fresh c enabled
    refine ⟨state, listed, ?_⟩
    rw [settleOutputs_heaterPin, outputDue_stopped (by rw [state]; rfl)]
  case old => exact old
  case others => exact others
  case silent =>
    intro asker reqNo due flying h
    have e := silent flying h
    exact ⟨command.trans (congrArg State.cmd e), view (congrArg State.line e)⟩
  case queued =>
    intro asker reqNo flying loud room
    have e := queued flying rfl loud room
    exact ⟨command.trans (congrArg State.cmd e), view (congrArg State.line e)⟩
  case held =>
    intro asker reqNo flying loud full
    have e := held flying rfl loud full
    exact ⟨command.trans (congrArg State.cmd e), view (congrArg State.line e)⟩

/-! ## The edge -/

theorem edgeAccepted_iff {s : State} (active : s.active = true) : edgeAccepted s = true ↔
    ¬∃ last, s.burst.lastEdge = some last ∧ 4 * (s.now - last) < halfCycle s.loader.image := by
  rw [edgeAccepted, active, Bool.true_and]
  cases h : s.burst.lastEdge with
  | none => simp
  | some last => simp

theorem exec_acceptedEdge {e : EdgeIn} {s : State} (active : s.active = true)
    (late : ¬∃ last, s.burst.lastEdge = some last ∧ 4 * (s.now + e.dt - last) < halfCycle s.loader.image)
    (inside : s.burst.period = .running → ∃ i, s.burst.idx = some i ∧ i + 1 < s.burst.len) :
    exec (.zeroCrossEdge e) s = .next (settleHalfCycle (nextHalfCycle (startEdge e (s.advance e.dt)))) := by
  have accepted : edgeAccepted (s.advance e.dt) = true := (edgeAccepted_iff (s := s.advance e.dt) active).mpr late
  have within : ¬atPeriodEnd (s.advance e.dt) = true := by
    rw [atPeriodEnd, decide_eq_true_iff]
    rintro ⟨running, last⟩
    obtain ⟨i, hi, hlen⟩ := inside running
    have := Option.some.inj (hi.symm.trans last)
    have : (s.advance e.dt).burst.len = s.burst.len := rfl
    omega
  refine congrArg Host.Outcome.next ((if_pos accepted).trans ?_)
  exact if_neg within

/-- Settles O46. -/
theorem acceptedEdgeStartsHalfCycle : Obligations.AcceptedEdgeStartsHalfCycle := by
  unfold Obligations.AcceptedEdgeStartsHalfCycle
  refine ⟨fun img => ⟨fun h => ?_, fun h => ?_⟩, fun e s active => ?_⟩
  · simp [halfCycle, midTime, mainsLostTime, h]
  · simp [halfCycle, midTime, mainsLostTime, h]
  intro now img soon
  refine ⟨fun early => ?_, fun late agree inside quiet => ?_⟩
  · have ignored : ¬edgeAccepted (s.advance e.dt) = true := fun h => (edgeAccepted_iff (s := s.advance e.dt) active).mp h early
    refine ⟨congrArg Host.Outcome.next (if_neg ignored), congrArg Host.Outcome.next (if_neg ?_)⟩
    simp [ignored]
  intro halt
  have taken := exec_acceptedEdge active late inside
  have begun : HalfBegun e (s.advance e.dt) (nextHalfCycle (startEdge e (s.advance e.dt))) := by
    refine nextHalfCycle_begun (fun c k hk due => ?_) inside quiet
    exact agree c k hk (of_decide_eq_true due)
  generalize nextHalfCycle (startEdge e (s.advance e.dt)) = h at taken begun
  obtain ⟨rest, ⟨running, last, timer, contactor⟩, index, fresh, first, back, conds, chans, watch, counts⟩ := begun
  have old : h.meas = (endHalfCycle (s.advance e.dt)).meas := by rw [rest]; rfl
  have counted (few : ∀ n, s.meas.leakTest = .driving n → n < 8) : leakTestEdge h = { h with
      meas := { (endHalfCycle (s.advance e.dt)).meas with leakTest := s.meas.leakTest.next } } := by
    rw [leakTestEdge_next (s := h) (by rw [old]; exact few), old]
    rfl
  have failed {n : Nat} (driving : s.meas.leakTest = .driving n) (eighth : 8 ≤ n) :
      leakTestEdge h = failLeakTest h := by
    unfold leakTestEdge
    rw [show h.meas.leakTest = .driving n by rw [old]; exact driving]
    exact if_neg (by omega)
  rw [settleHalfCycle] at taken
  obtain ⟨b, ha, w, cs, rfl⟩ : ∃ burst ha watch conds, h = halfBegun e (s.advance e.dt) burst ha watch conds := ⟨_, _, _, _, rest⟩
  clear rest old
  refine ⟨fun few => ?_, fun n driving eighth => ?_⟩
  · rw [counted few] at taken
    clear counted failed
    generalize hx : ({ halfBegun e (s.advance e.dt) b ha w cs with meas := _ } : State) = x at taken
    have fires := settleOutputs_fires x
    have told (c : Chan) : ((settleOutputs x).meas.chans.get c).told = (settleOutputs x).heaterPin c ∧
        ((settleOutputs x).meas.chans.get c).reqOn = false ∧ ((settleOutputs x).meas.chans.get c).reqOff = false := by
      have dropped : x.meas.chans.get c = (s.meas.chans.get c).dropHalf := by
        rw [← hx]
        exact Four.get_map ..
      rw [settleOutputs_told, dropped]
      exact ⟨rfl, rfl, rfl⟩
    have check (c : Chan) : ((settleOutputs x).burst.chans.get c).check = if (settleOutputs x).heaterPin c = s.heaterPin c
        then (s.burst.chans.get c).check.filter fun k => decide (2 * (now - k.since) < halfCycle img)
        else some ⟨(settleOutputs x).heaterPin c, now⟩ := by
      obtain ⟨-, out, due⟩ := chans c
      have pin : x.heaterPin c = s.heaterPin c := by rw [← hx]; exact out
      have armed : (x.burst.chans.get c).check =
          (s.burst.chans.get c).check.filter fun k => decide (2 * (now - k.since) < halfCycle img) := by rw [← hx]; exact due
      have clock : x.now = now := by rw [← hx]; rfl
      rw [settleOutputs_check, pin, armed, clock]
    subst hx
    refine ⟨_, taken, rfl, rfl, running, last, timer, contactor, fun i h hi => ?_, fun h => ?_, first, back, fun c => ?_, check,
      rfl, rfl, rfl, told, watch, fun h => ?_, fun h => ?_, fun n h => ?_, rfl, rfl, rfl, rfl, rfl, rfl, counts, rfl⟩
    · obtain ⟨idx, len, slot, pending, same⟩ := index i h hi
      exact ⟨idx, len, slot, pending, fun c => (fires c).1.trans (same c)⟩
    · obtain ⟨idx, len, none⟩ := fresh h
      exact ⟨idx, len, fun c => (fires c).1.trans (none c)⟩
    · exact (fires c).2.trans (chans c).1
    · exact congrArg LeakTest.next h
    · exact congrArg LeakTest.next h
    · exact congrArg LeakTest.next h
  · intro noted
    rw [failed driving eighth] at taken
    clear counted failed
    obtain ⟨⟨test, drive, count, pause⟩, cond, halts, queue, new, old, others, silent, queued, held⟩ :=
      failLeakTest_failed (halfBegun e (s.advance e.dt) b ha w cs)
    have same := conds .leakTestFail none (by decide)
    refine ⟨_, taken, test, drive, count, pause, cond, ?_, queue, fun fresh => new (same.trans fresh),
      fun present => old (same.trans present), others, fun asker reqNo due flying => ?_⟩
    · exact (congrArg (fun x : Halt => { x with checks := s.halt.checks }) halts).trans counts
    · intro answer ends
      refine ⟨fun h => ?_, ?_, ?_⟩
      · obtain ⟨empty, view⟩ := silent asker reqNo due flying h
        exact ⟨empty, noteView_parts (view.trans (failNoted_alike (s := s) same rfl))⟩
      · rintro rfl loud room
        obtain ⟨empty, view⟩ := queued asker reqNo flying loud room
        exact ⟨empty, noteView_parts (view.trans (failNoted_alike (s := s) same rfl))⟩
      · rintro rfl loud full
        obtain ⟨kept, view⟩ := held asker reqNo flying loud full
        exact ⟨kept, noteView_parts (view.trans (failNoted_alike (s := s) same rfl))⟩

end Sys2Proof.Machine
end

section
/-! A complete round (O42): what one channel's turn in a stage of the round makes of all that the round reads and writes of the
channel (`ChanView`), what every stage leaves (`Steady`, `Alarming`), and the stages put together. -/

namespace Sys2Proof.Machine

/-! ## A channel as the round sees it -/

/-- The conditions of one channel with one raised, and with one cleared. -/
def raised (k : FaultKind) (conds : FaultKind → Bool) : FaultKind → Bool := fun j => conds j || decide (j = k)
def lowered (k : FaultKind) (conds : FaultKind → Bool) : FaultKind → Bool := fun j => conds j && !decide (j = k)

/-- The conditions of one channel that outlast its trip (R171). -/
def outlasting (conds : FaultKind → Bool) : FaultKind → Bool := fun j => conds j && !j.endsWithTrip

/-- All that a round reads and writes of a channel, but for its sensor. -/
structure ChanView where
  chan : Channel
  cause : Option FaultKind
  locks : List FaultKind
  burst : ChanBurst
  conds : FaultKind → Bool

def chanView (c : Chan) (s : State) : ChanView :=
  ⟨s.chans.get c, s.fault.tripCause.get c, s.fault.locks.get c, s.burst.chans.get c, fun k => s.hasCond k (some c)⟩

/-- What no stage of a round changes. -/
structure Steady (s t : State) : Prop where
  now : t.now = s.now
  pins : t.pins = s.pins
  loader : t.loader = s.loader
  station : t.station = s.station
  cmd : t.cmd = s.cmd
  peers : t.peers = s.peers
  budget : t.budget = s.budget
  halt : t.halt = s.halt
  noticing : Noticing s t

theorem Steady.refl (s : State) : Steady s s := ⟨rfl, rfl, rfl, rfl, rfl, rfl, rfl, rfl, .refl s⟩

theorem Steady.trans {s t u : State} (a : Steady s t) (b : Steady t u) : Steady s u :=
  ⟨b.now.trans a.now, b.pins.trans a.pins, b.loader.trans a.loader, b.station.trans a.station, b.cmd.trans a.cmd,
    b.peers.trans a.peers, b.budget.trans a.budget, b.halt.trans a.halt, a.noticing.trans b.noticing⟩

/-- What the sequencer holds beside the channels' current samples. -/
def Meas.readings (m : Meas) : Meas := { m with chans := .const (.powerOn 0) }

/-- What the alarms and the overtemperature checks change of nothing: the sensors, the period's clock, the station's conditions. -/
structure Alarming (s t : State) : Prop extends Steady s t where
  meas : t.meas.readings = s.meas.readings
  period : t.burst.period = s.burst.period
  idx : t.burst.idx = s.burst.idx
  lastEdge : t.burst.lastEdge = s.burst.lastEdge
  conds : ∀ k, t.hasCond k none = s.hasCond k none

theorem Alarming.refl (s : State) : Alarming s s := ⟨.refl s, rfl, rfl, rfl, rfl, fun _ => rfl⟩

theorem Alarming.trans {s t u : State} (a : Alarming s t) (b : Alarming t u) : Alarming s u :=
  ⟨a.toSteady.trans b.toSteady, b.meas.trans a.meas, b.period.trans a.period, b.idx.trans a.idx, b.lastEdge.trans a.lastEdge,
    fun k => (b.conds k).trans (a.conds k)⟩

theorem Alarming.ownTemp {s t : State} (a : Alarming s t) (c : Chan) : t.ownTemp c = s.ownTemp c := by
  have kept := congrArg Meas.wall a.meas
  have wall : t.meas.wall = s.meas.wall := kept
  rw [State.ownTemp, State.ownTemp, wall, State.enabled, a.loader]
  rfl

theorem Alarming.atPeriodStart {s t : State} (a : Alarming s t) : t.atPeriodStart = s.atPeriodStart := by
  rw [State.atPeriodStart, a.period, a.idx, a.lastEdge, a.now]
  rfl

/-! ## Operations for one channel -/

section
variable (c x : Chan) (s : State)

theorem addCond_alarming (k : FaultKind) (cls : FaultClass) : Alarming s (s.addCond ⟨k, some x, cls⟩) := by
  refine ⟨⟨rfl, rfl, rfl, rfl, rfl, rfl, rfl, rfl, .of_view rfl⟩, rfl, rfl, rfl, rfl, fun j => ?_⟩
  simp [State.hasCond_addCond]

theorem clearCond_alarming (k : FaultKind) : Alarming s (s.clearCond k (some x)) :=
  ⟨⟨rfl, rfl, rfl, rfl, rfl, rfl, rfl, rfl, .of_view rfl⟩, rfl, rfl, rfl, rfl,
    fun j => (hasCond_clearCond s k (some x)).2 j none (by simp)⟩

theorem startChoice_alarming : Alarming s (startChoice x s) :=
  ⟨⟨rfl, rfl, rfl, rfl, rfl, rfl, rfl, rfl, .of_view rfl⟩, rfl, rfl, rfl, rfl, fun _ => rfl⟩

theorem modChan_alarming (f : Channel → Channel) : Alarming s (s.modChan x f) :=
  ⟨⟨rfl, rfl, rfl, rfl, rfl, rfl, rfl, rfl, .of_view rfl⟩, rfl, rfl, rfl, rfl, fun _ => rfl⟩

theorem recordOccurrence_alarming (d : Detection) (cls : FaultClass) (trial due : Bool) :
    Alarming s (recordOccurrence d cls trial due s) :=
  ⟨⟨by simp, by simp, by simp, by simp, by simp, by simp, by simp, by simp, recordOccurrence_noticing ..⟩, by simp, by simp, by simp,
    by simp, fun _ => State.hasCond_of (recordOccurrence_marks ..).1 ..⟩

theorem endTripConds_alarming : Alarming s (endTripConds x s) :=
  ⟨⟨rfl, rfl, rfl, rfl, rfl, rfl, rfl, rfl, .of_view rfl⟩, rfl, rfl, rfl, rfl, fun _ => endTripConds_hasCond (by simp) s⟩

theorem stopChan_alarming (st : ChanState) (hold : Option Nat) : Alarming s (stopChan x st hold s) := by
  have steady : Steady s (stopChan x st hold s) :=
    ⟨by simp, by simp, by simp, by simp, by simp, by simp, by simp, by simp, .of_view (by simp [noticeView])⟩
  rcases cutFirst_cases x (stopFiring x (s.modChan x fun ch => ch.stopped st hold)) with ⟨_, e⟩ | ⟨_, e⟩ <;>
    exact ⟨steady, by rw [stopChan, e]; rfl, by rw [stopChan, e]; rfl, by rw [stopChan, e]; rfl, by rw [stopChan, e]; rfl,
      fun _ => by rw [stopChan, e]; rfl⟩

theorem fault_alarming {f : FaultUnit} (conds : f.conds = s.fault.conds) (notes : f.notes = s.fault.notes) :
    Alarming s { s with fault := f } :=
  ⟨⟨rfl, rfl, rfl, rfl, rfl, rfl, rfl, rfl, .of_view (noticeView_of_notes rfl rfl notes)⟩, rfl, rfl, rfl, rfl,
    fun _ => State.hasCond_of conds ..⟩

theorem lockChan_alarming (k : FaultKind) : Alarming s (lockChan k x s) := by
  unfold lockChan
  dsimp only
  split
  · exact fault_alarming s rfl rfl
  · refine .trans ?_ (modChan_alarming x _ _)
    refine .trans ?_ (stopChan_alarming x _ ..)
    refine .trans ?_ (endTripConds_alarming x _)
    exact fault_alarming s rfl rfl

theorem tripChan_alarming (k : FaultKind) (reclose : Option Nat) : Alarming s (tripChan k reclose x s) := by
  unfold tripChan
  refine .trans ?_ (modChan_alarming x _ _)
  refine .trans ?_ (stopChan_alarming x _ ..)
  exact fault_alarming s rfl rfl

theorem endTrip_alarming (trial : Bool) : Alarming s (endTrip trial x s) := by
  unfold endTrip
  refine .trans ?_ (startChoice_alarming x _)
  refine .trans ?_ (modChan_alarming x _ _)
  refine .trans ?_ (endTripConds_alarming x _)
  exact fault_alarming s rfl rfl

theorem occurNote_alarming (k : FaultKind) (v : Option Int) : Alarming s (occurNote ⟨k, some x, v⟩ s) := by
  unfold occurNote
  split
  · exact recordOccurrence_alarming s ..
  · exact (addCond_alarming x s ..).trans (recordOccurrence_alarming _ ..)

theorem occurOvertemp_alarming (d : Detection) : Alarming s (occurOvertemp d x s) := by
  unfold occurOvertemp
  dsimp only
  (repeat' split)
  · exact recordOccurrence_alarming s ..
  · exact (addCond_alarming x s ..).trans (recordOccurrence_alarming _ ..)
  · exact ((addCond_alarming x s ..).trans (lockChan_alarming x _ _)).trans (recordOccurrence_alarming _ ..)
  · exact ((addCond_alarming x s ..).trans (tripChan_alarming x _ ..)).trans (recordOccurrence_alarming _ ..)

theorem alarmCheck_alarming : Alarming s (alarmCheck x s) := by
  unfold alarmCheck
  dsimp only
  (repeat' split)
  · exact .refl s
  · exact (startChoice_alarming x s).trans (occurNote_alarming x _ .holdOverride _)
  · exact occurNote_alarming x s .lowTemp _
  · exact .refl s
  · exact (clearCond_alarming x s _).trans (clearCond_alarming x _ _)
  · exact .refl s

theorem overtempCheck_alarming : Alarming s (overtempCheck x s) := by
  unfold overtempCheck
  dsimp only
  (repeat' split)
  · exact .refl s
  · exact .refl s
  · exact occurOvertemp_alarming x s _
  · exact (clearCond_alarming x s _).trans (endTrip_alarming x _ _)
  · exact clearCond_alarming x s _
  · exact .refl s

end

/-! ## What they do to the view of their own channel, and that they leave the view of another -/

theorem chanView_congr {c : Chan} {s t : State} (chans : t.chans = s.chans) (cause : t.fault.tripCause = s.fault.tripCause)
    (locks : t.fault.locks = s.fault.locks) (burst : t.burst = s.burst) (conds : t.fault.conds = s.fault.conds) :
    chanView c t = chanView c s := by
  simp only [chanView, chans, cause, locks, burst, State.hasCond_of conds]

theorem recordOccurrence_view (c : Chan) (d : Detection) (cls : FaultClass) (trial due : Bool) (s : State) :
    chanView c (recordOccurrence d cls trial due s) = chanView c s := by
  obtain ⟨conds, locks, causes, -⟩ := recordOccurrence_marks d cls trial due s
  exact chanView_congr (by simp) causes locks (by simp) conds

section
variable (c : Chan) (s : State)

theorem modChan_view (f : Channel → Channel) : chanView c (s.modChan c f) = { chanView c s with chan := f (s.chans.get c) } := by
  simp [chanView, State.modChan, State.hasCond]

theorem addCond_view (k : FaultKind) (cls : FaultClass) :
    chanView c (s.addCond ⟨k, some c, cls⟩) = { chanView c s with conds := raised k (chanView c s).conds } := by
  have conds : (fun j => (s.addCond ⟨k, some c, cls⟩).hasCond j (some c)) = raised k (chanView c s).conds :=
    funext fun j => by simp [State.hasCond_addCond, raised, chanView, eq_comm]
  rw [chanView, conds]
  rfl

theorem clearCond_view (k : FaultKind) :
    chanView c (s.clearCond k (some c)) = { chanView c s with conds := lowered k (chanView c s).conds } := by
  have conds : (fun j => (s.clearCond k (some c)).hasCond j (some c)) = lowered k (chanView c s).conds := by
    obtain ⟨gone, others⟩ := hasCond_clearCond s k (some c)
    refine funext fun j => ?_
    by_cases h : j = k
    · subst h
      simp [lowered, gone]
    · simp [lowered, h, others j (some c) (fun e => h e.1), chanView]
  rw [chanView, conds]
  rfl

theorem endTripConds_view : chanView c (endTripConds c s) = { chanView c s with conds := outlasting (chanView c s).conds } := by
  have conds : (fun j => (endTripConds c s).hasCond j (some c)) = outlasting (chanView c s).conds := by
    refine funext fun j => ?_
    by_cases h : j.endsWithTrip = true
    · simp [outlasting, h, endTripConds, State.keepConds, State.hasCond]
      grind
    · simp [outlasting, h, endTripConds_hasCond (k := j) (y := some c) (x := c) (fun e => h e.1), chanView]
  rw [chanView, conds]
  rfl

/-- An output at the stop of its channel, which goes off where a period begins at this moment (R115, R117, R145). -/
def ChanBurst.stopped (b : ChanBurst) (begins : Bool) (now : Nat) : ChanBurst :=
  if begins = true ∧ b.out = true then ⟨0, 0, false, some ⟨false, now⟩⟩ else { b with h := 0, r := 0 }

theorem stopChan_view (st : ChanState) (hold : Option Nat) : chanView c (stopChan c st hold s) =
    { chanView c s with chan := (s.chans.get c).stopped st hold, burst := (s.burst.chans.get c).stopped s.atPeriodStart s.now } := by
  have begins : (stopFiring c (s.modChan c fun ch => ch.stopped st hold)).atPeriodStart = s.atPeriodStart := rfl
  have out : ((stopFiring c (s.modChan c fun ch => ch.stopped st hold)).burst.chans.get c).out = (s.burst.chans.get c).out := by
    simp [stopFiring]
  unfold ChanBurst.stopped
  rcases cutFirst_cases c (stopFiring c (s.modChan c fun ch => ch.stopped st hold)) with ⟨cut, e⟩ | ⟨uncut, e⟩
  · rw [begins, out] at cut
    rw [if_pos cut, stopChan, e]
    simp [chanView, stopFiring, State.hasCond, State.modBurst, State.modChan]
  · rw [begins, out] at uncut
    rw [if_neg uncut, stopChan, e]
    simp [chanView, stopFiring, State.hasCond, State.modBurst, State.modChan]

theorem startChoice_view : chanView c (startChoice c s) = { chanView c s with chan := startRecord s c (s.chans.get c) } :=
  modChan_view c s _

/-- The view of a channel LOCKED by `k` (R167, R178). -/
def ChanView.locked (x : ChanView) (k : FaultKind) (begins : Bool) (now : Nat) : ChanView where
  chan := { x.chan.stopped .locked none with reclose := none, trial := none }
  cause := none
  locks := joinLock k (joinCause x.cause x.locks)
  burst := x.burst.stopped begins now
  conds := outlasting x.conds

theorem lockChan_view (k : FaultKind) (unlocked : (s.chans.get c).state ≠ .locked) :
    chanView c (lockChan k c s) = (chanView c s).locked k s.atPeriodStart s.now := by
  unfold lockChan
  dsimp only
  rw [if_neg unlocked, modChan_view, stopChan_view, stopChan_chans, endTripConds_view]
  simp only [chanView, ChanView.locked, Four.get_set_same]
  rfl

/-- The view of a channel TRIPPED by `k` (R167). -/
def ChanView.tripped (x : ChanView) (k : FaultKind) (begins : Bool) (now : Nat) : ChanView :=
  { x with
    chan := { x.chan.stopped .tripped none with reclose := none }
    cause := some k
    burst := x.burst.stopped begins now }

theorem tripChan_view (k : FaultKind) : chanView c (tripChan k none c s) = (chanView c s).tripped k s.atPeriodStart s.now := by
  unfold tripChan
  dsimp only
  rw [modChan_view, stopChan_view, stopChan_chans]
  simp only [chanView, ChanView.tripped, Four.get_set_same]
  rfl

theorem endTrip_view : chanView c (endTrip false c s) = { chanView c s with
    chan := startRecord s c { s.chans.get c with reclose := none }, cause := none, conds := outlasting (chanView c s).conds } := by
  unfold endTrip
  dsimp only
  rw [startChoice_view, modChan_view, endTripConds_view]
  simp only [chanView, State.modChan_chans, Four.get_set_same]
  rfl

/-- A condition that is active already is not raised anew. -/
theorem raised_old {k : FaultKind} {s : State} {c : Chan} (old : s.hasCond k (some c) = true) :
    raised k (chanView c s).conds = (chanView c s).conds := by
  refine funext fun j => ?_
  by_cases h : j = k
  · subst h
    simpa [raised, chanView] using old
  · simp [raised, h]

theorem occurNote_view (k : FaultKind) (v : Option Int) :
    chanView c (occurNote ⟨k, some c, v⟩ s) = { chanView c s with conds := raised k (chanView c s).conds } := by
  unfold occurNote
  split
  · rename_i old
    rw [recordOccurrence_view, raised_old old]
  · rw [recordOccurrence_view, addCond_view]

end

section
variable {c x : Chan} (ne : c ≠ x) (s : State)
include ne

theorem modChan_beside (f : Channel → Channel) : chanView c (s.modChan x f) = chanView c s := by
  simp [chanView, State.modChan, Four.get_set_other _ _ ne, State.hasCond]

theorem addCond_beside (k : FaultKind) (cls : FaultClass) : chanView c (s.addCond ⟨k, some x, cls⟩) = chanView c s := by
  have other : ¬some x = some c := fun h => ne (Option.some.inj h).symm
  simp [chanView, State.hasCond_addCond, other]

theorem clearCond_beside (k : FaultKind) : chanView c (s.clearCond k (some x)) = chanView c s := by
  have conds : (fun j => (s.clearCond k (some x)).hasCond j (some c)) = (chanView c s).conds :=
    funext fun j => (hasCond_clearCond s k (some x)).2 j (some c) fun h => ne (Option.some.inj h.2)
  rw [chanView, conds]
  rfl

theorem endTripConds_beside : chanView c (endTripConds x s) = chanView c s := by
  have conds : (fun j => (endTripConds x s).hasCond j (some c)) = (chanView c s).conds :=
    funext fun j => endTripConds_hasCond (fun h => ne (Option.some.inj h.2)) s
  rw [chanView, conds]
  rfl

theorem stopChan_beside (st : ChanState) (hold : Option Nat) : chanView c (stopChan x st hold s) = chanView c s := by
  obtain ⟨-, -, others⟩ := stopChan_burst x st hold s
  simp [chanView, stopChan_chans, Four.get_set_other _ _ ne, others c ne, State.hasCond]

theorem lockChan_beside (k : FaultKind) : chanView c (lockChan k x s) = chanView c s := by
  have listed : chanView c { s with fault := { s.fault with
      locks := s.fault.locks.set x (joinLock k (joinCause (s.fault.tripCause.get x) (s.fault.locks.get x))),
      tripCause := s.fault.tripCause.set x none } } = chanView c s := by
    simp [chanView, Four.get_set_other _ _ ne, State.hasCond]
  unfold lockChan
  dsimp only
  split
  · exact listed
  · rw [modChan_beside ne, stopChan_beside ne, endTripConds_beside ne, listed]

theorem tripChan_beside (k : FaultKind) (reclose : Option Nat) : chanView c (tripChan k reclose x s) = chanView c s := by
  unfold tripChan
  rw [modChan_beside ne, stopChan_beside ne]
  simp [chanView, Four.get_set_other _ _ ne, State.hasCond]

theorem endTrip_beside (trial : Bool) : chanView c (endTrip trial x s) = chanView c s := by
  unfold endTrip startChoice
  rw [modChan_beside ne, modChan_beside ne, endTripConds_beside ne]
  simp [chanView, Four.get_set_other _ _ ne, State.hasCond]

theorem occurNote_beside (k : FaultKind) (v : Option Int) : chanView c (occurNote ⟨k, some x, v⟩ s) = chanView c s := by
  unfold occurNote
  split
  · exact recordOccurrence_view ..
  · rw [recordOccurrence_view, addCond_beside ne]

theorem occurOvertemp_beside (d : Detection) : chanView c (occurOvertemp d x s) = chanView c s := by
  unfold occurOvertemp
  dsimp only
  (repeat' split) <;> rw [recordOccurrence_view]
  · rw [addCond_beside ne]
  · rw [lockChan_beside ne, addCond_beside ne]
  · rw [tripChan_beside ne, addCond_beside ne]

theorem alarmCheck_beside : chanView c (alarmCheck x s) = chanView c s := by
  unfold alarmCheck
  dsimp only
  (repeat' split)
  · rfl
  · exact (occurNote_beside ne _ .holdOverride _).trans (modChan_beside ne ..)
  · exact occurNote_beside ne _ .lowTemp _
  · rfl
  · rw [clearCond_beside ne, clearCond_beside ne]
  · rfl

theorem overtempCheck_beside : chanView c (overtempCheck x s) = chanView c s := by
  unfold overtempCheck
  dsimp only
  (repeat' split)
  · rfl
  · rfl
  · exact occurOvertemp_beside ne s _
  · rw [endTrip_beside ne, clearCond_beside ne]
  · exact clearCond_beside ne s _
  · rfl

end

/-! ## The channel's own turn (R163, R166, R175) -/

/-- The view after the alarms, for an own temperature `v`. -/
def ChanView.alarmed (x : ChanView) (start : Channel → Channel) (alarm v : Int) : ChanView :=
  if v < alarm then
    if x.chan.state = .hold then { x with chan := start x.chan, conds := raised .holdOverride x.conds }
    else if x.chan.state.fires = true then { x with conds := raised .lowTemp x.conds }
    else x
  else if alarm + 20 ≤ v then { x with conds := lowered .lowTemp (lowered .holdOverride x.conds) }
  else x

/-- The view after the overtemperature check, for an own temperature `v`. -/
def ChanView.checked (x : ChanView) (start : Channel → Channel) (limit v : Int) (begins : Bool) (now : Nat) : ChanView :=
  if limit < v then
    if x.conds .overtemp = true then x
    else
      let hot : ChanView := { x with conds := raised .overtemp x.conds }
      if x.chan.state.inService = false then hot
      else if x.chan.trial.isSome = true then hot.locked .overtemp begins now
      else hot.tripped .overtemp begins now
  else if v < limit - 50 ∧ x.conds .overtemp = true then
    let cool : ChanView := { x with conds := lowered .overtemp x.conds }
    if x.chan.state = .tripped ∧ x.cause = some .overtemp then
      { cool with chan := start { x.chan with reclose := none }, cause := none, conds := outlasting cool.conds }
    else cool
  else x

theorem alarmCheck_view {c : Chan} {s : State} {v : Int} (own : s.ownTemp c = some v) :
    chanView c (alarmCheck c s) = (chanView c s).alarmed (startRecord s c) s.loader.image.tAlarm v := by
  have state : (chanView c s).chan.state = (s.chans.get c).state := rfl
  unfold alarmCheck ChanView.alarmed
  rw [own, state]
  dsimp only
  by_cases low : v < s.loader.image.tAlarm
  · rw [if_pos low, if_pos low]
    by_cases hold : (s.chans.get c).state = .hold
    · rw [if_pos hold, if_pos hold]
      exact (occurNote_view c _ .holdOverride _).trans (by rw [startChoice_view]; rfl)
    rw [if_neg hold, if_neg hold]
    by_cases fires : (s.chans.get c).state.fires = true
    · rw [if_pos fires]
      by_cases old : s.hasCond .lowTemp (some c) = true
      · rw [if_neg (by simp [old]), raised_old old]
      · rw [if_pos (by simpa [fires] using old)]
        exact occurNote_view c s .lowTemp _
    · rw [if_neg fires, if_neg (by simp [fires])]
  · rw [if_neg low, if_neg low]
    split
    · rw [clearCond_view, clearCond_view]
    · rfl

theorem occurOvertemp_view {d : Detection} {c : Chan} {s : State} (new : s.hasCond .overtemp (some c) = false) :
    chanView c (occurOvertemp d c s) =
      let hot : ChanView := { chanView c s with conds := raised .overtemp (chanView c s).conds }
      if (s.chans.get c).state.inService = false then hot
      else if (s.chans.get c).trial.isSome = true then hot.locked .overtemp s.atPeriodStart s.now
      else hot.tripped .overtemp s.atPeriodStart s.now := by
  unfold occurOvertemp
  dsimp only
  rw [if_neg (by simp [new])]
  by_cases serves : (s.chans.get c).state.inService = true
  · have unlocked : (s.chans.get c).state ≠ .locked := fun h => by simp [h, ChanState.inService] at serves
    have kept : ¬(!(s.chans.get c).state.inService) = true := by simp [serves]
    have kept' : ¬(s.chans.get c).state.inService = false := by simp [serves]
    rw [if_neg kept, if_neg kept']
    by_cases trial : (s.chans.get c).trial.isSome = true
    · rw [if_pos trial, if_pos trial, recordOccurrence_view, lockChan_view c (s.addCond _) _ unlocked, addCond_view]
      rfl
    · rw [if_neg trial, if_neg trial, recordOccurrence_view, tripChan_view, addCond_view]
      rfl
  · rw [if_pos (by simpa using serves), if_pos (by simpa using serves), recordOccurrence_view, addCond_view]

theorem overtempCheck_view {c : Chan} {s : State} {v : Int} (own : s.ownTemp c = some v) :
    chanView c (overtempCheck c s) =
      (chanView c s).checked (startRecord s c) s.loader.image.tMax v s.atPeriodStart s.now := by
  have hot : (chanView c s).conds .overtemp = s.hasCond .overtemp (some c) := rfl
  have state : (chanView c s).chan = s.chans.get c := rfl
  have cause : (chanView c s).cause = s.fault.tripCause.get c := rfl
  unfold overtempCheck ChanView.checked
  rw [own, hot, state, cause]
  dsimp only
  by_cases exceeds : s.loader.image.tMax < v
  · rw [if_pos exceeds, if_pos exceeds]
    by_cases old : s.hasCond .overtemp (some c) = true
    · rw [if_pos old, if_pos old]
    · rw [if_neg old, if_neg old]
      exact occurOvertemp_view (Bool.eq_false_iff.mpr old)
  · rw [if_neg exceeds, if_neg exceeds]
    by_cases cool : v < s.loader.image.tMax - 50 ∧ s.hasCond .overtemp (some c) = true
    · have cleared := clearCond_view c s .overtemp
      rw [if_pos cool, if_pos cool]
      by_cases ends : (s.chans.get c).state = .tripped ∧ s.fault.tripCause.get c = some .overtemp
      · refine (congrArg (chanView c) (if_pos ends)).trans ?_
        rw [if_pos ends, endTrip_view, cleared]
        rfl
      · refine (congrArg (chanView c) (if_neg ends)).trans ?_
        rw [if_neg ends, cleared]
        rfl
    · rw [if_neg cool, if_neg cool]

end Sys2Proof.Machine
end

section
/-! A complete round (O42): the alarms and overtemperature checks of all channels, and what they come to for one of them. -/

namespace Sys2Proof.Machine

/-! ## All channels -/

/-- One channel's turn among those of all. -/
theorem each_turn {f : Chan → State → State} {c : Chan} (alarming : ∀ x s, Alarming s (f x s))
    (beside : ∀ x, c ≠ x → ∀ s, chanView c (f x s) = chanView c s) (s : State) :
    ∃ u, Alarming s u ∧ chanView c u = chanView c s ∧ chanView c (s.each Chan.list f) = chanView c (f c u) := by
  obtain ⟨u, ⟨before, same⟩, -, after⟩ := State.each_once (R := fun s t => Alarming s t ∧ chanView c t = chanView c s)
    (fun s => ⟨.refl s, rfl⟩) (fun a b => ⟨a.1.trans b.1, b.2.trans a.2⟩) (f := f) (c := c)
    (fun x hx s => ⟨alarming x s, beside x (Ne.symm hx) s⟩) (by decide) (Chan.mem_list c) s
  exact ⟨u, before, same, after⟩

theorem each_alarming {f : Chan → State → State} (alarming : ∀ x s, Alarming s (f x s)) (cs : List Chan) (s : State) :
    Alarming s (s.each cs f) :=
  State.each_inv (Alarming s) (fun x _ t ht => ht.trans (alarming x t)) (.refl s)

theorem Alarming.startRecord {s t : State} (a : Alarming s t) {c : Chan} {v : Int} (own : s.ownTemp c = some v) :
    startRecord t c = startRecord s c := by
  refine funext fun ch => ?_
  unfold Machine.startRecord
  rw [a.station, a.ownTemp c, own, a.loader, a.now]

/-- The view of a channel after both checks of all channels, for an own temperature `v`. -/
def ChanView.settled (x : ChanView) (s : State) (c : Chan) (v : Int) : ChanView :=
  (x.alarmed (startRecord s c) s.loader.image.tAlarm v).checked (startRecord s c) s.loader.image.tMax v s.atPeriodStart s.now

theorem checks_view {c : Chan} {s : State} {v : Int} (own : s.ownTemp c = some v) :
    chanView c ((s.each Chan.list alarmCheck).each Chan.list overtempCheck) = (chanView c s).settled s c v := by
  obtain ⟨u, before, same, turn⟩ := each_turn (c := c) alarmCheck_alarming (fun x hx t => alarmCheck_beside hx t) s
  have alarms := each_alarming alarmCheck_alarming Chan.list s
  obtain ⟨w, before', same', turn'⟩ := each_turn (c := c) overtempCheck_alarming (fun x hx t => overtempCheck_beside hx t)
    (s.each Chan.list alarmCheck)
  have between := alarms.trans before'
  rw [turn', overtempCheck_view ((between.ownTemp c).trans own), same', turn, alarmCheck_view ((before.ownTemp c).trans own), same,
    before.startRecord own, between.startRecord own, before.loader, between.loader, between.atPeriodStart, between.now]
  rfl

theorem checks_view_none {c : Chan} {s : State} (own : s.ownTemp c = none) :
    chanView c ((s.each Chan.list alarmCheck).each Chan.list overtempCheck) = chanView c s := by
  obtain ⟨u, before, same, turn⟩ := each_turn (c := c) alarmCheck_alarming (fun x hx t => alarmCheck_beside hx t) s
  have alarms := each_alarming alarmCheck_alarming Chan.list s
  obtain ⟨w, before', same', turn'⟩ := each_turn (c := c) overtempCheck_alarming (fun x hx t => overtempCheck_beside hx t)
    (s.each Chan.list alarmCheck)
  have idle : alarmCheck c u = u := by rw [alarmCheck, before.ownTemp c, own]
  have idle' : overtempCheck c w = w := by rw [overtempCheck, (alarms.trans before').ownTemp c, own]
  rw [turn', idle', same', turn, idle, same]

/-! ## What a settled channel comes to -/

section
variable (x : ChanView) (s : State) (c : Chan) (v : Int)

theorem alarmed_conds (start : Channel → Channel) (alarm : Int) (j : FaultKind) : (x.alarmed start alarm v).conds j =
    if j = .holdOverride then (if v < alarm then x.conds j || decide (x.chan.state = .hold) else x.conds j && decide (v < alarm + 20))
    else if j = .lowTemp then (if v < alarm then x.conds j || x.chan.state.fires else x.conds j && decide (v < alarm + 20))
    else x.conds j := by
  have hold : x.chan.state = .hold → x.chan.state.fires = false := fun h => by rw [h]; rfl
  unfold ChanView.alarmed
  by_cases low : v < alarm
  · simp only [if_pos low]
    (repeat' split) <;> simp_all [raised]
  · simp only [if_neg low]
    by_cases high : alarm + 20 ≤ v
    · simp only [if_pos high, not_lt.mpr high]
      (repeat' split) <;> simp_all [lowered]
    · simp only [if_neg high, not_le.mp high]
      (repeat' split) <;> simp_all

theorem checked_conds (start : Channel → Channel) (limit : Int) (begins : Bool) (now : Nat) {j : FaultKind}
    (lasting : j.endsWithTrip = false) : (x.checked start limit v begins now).conds j =
    if j = .overtemp then (if limit < v then true else x.conds j && decide (limit - 50 ≤ v)) else x.conds j := by
  unfold ChanView.checked
  by_cases exceeds : limit < v
  · simp only [if_pos exceeds]
    (repeat' split) <;> simp_all [raised, outlasting, ChanView.locked, ChanView.tripped]
  · simp only [if_neg exceeds]
    by_cases cool : v < limit - 50 ∧ x.conds .overtemp = true
    · have far : decide (limit - 50 ≤ v) = false := decide_eq_false (not_le.mpr cool.1)
      simp only [if_pos cool, far]
      (repeat' split) <;> simp_all [lowered, outlasting]
    · simp only [if_neg cool]
      by_cases hj : j = .overtemp
      · subst hj
        rw [if_pos rfl]
        by_cases old : x.conds .overtemp = true
        · have near : limit - 50 ≤ v := not_lt.mp fun h => cool ⟨h, old⟩
          simp [near]
        · simp [old]
      · rw [if_neg hj]

/-! ## The channel and its trip -/

theorem startRecord_inService {ch : Channel} (own : s.ownTemp c = some v) : (startRecord s c ch).state.inService = true := by
  unfold startRecord
  rw [own]
  dsimp only
  (repeat' split) <;> rfl

theorem startRecord_stopped (ch : Channel) (st : ChanState) (hold : Option Nat) :
    (startRecord s c ch).stopped st hold = ch.stopped st hold := by
  unfold startRecord
  (repeat' split) <;> rfl

theorem startRecord_trial (ch : Channel) : (startRecord s c ch).trial = ch.trial := by
  unfold startRecord
  (repeat' split) <;> rfl

/-- The alarms change the record of a channel only where they end its hold, and of the rest its conditions alone. -/
theorem alarmed_chan (start : Channel → Channel) (alarm : Int) :
    (x.alarmed start alarm v).cause = x.cause ∧ (x.alarmed start alarm v).locks = x.locks ∧
    (x.alarmed start alarm v).burst = x.burst ∧
    (x.alarmed start alarm v).chan = if v < alarm ∧ x.chan.state = .hold then start x.chan else x.chan := by
  unfold ChanView.alarmed
  by_cases low : v < alarm
  · by_cases hold : x.chan.state = .hold
    · simp [low, hold]
    · simp only [low, hold, if_true, if_false, and_false]
      split <;> exact ⟨rfl, rfl, rfl, rfl⟩
  · simp only [low, if_false, false_and]
    split <;> exact ⟨rfl, rfl, rfl, rfl⟩

/-- The overtemperature check leaves a channel that it neither stops nor starts. -/
theorem checked_chan (start : Channel → Channel) (limit : Int) (begins : Bool) (now : Nat)
    (running : ¬(limit < v ∧ x.conds .overtemp = false ∧ x.chan.state.inService = true))
    (lasting : ¬(v < limit - 50 ∧ x.conds .overtemp = true ∧ x.chan.state = .tripped ∧ x.cause = some .overtemp)) :
    (x.checked start limit v begins now).chan = x.chan ∧ (x.checked start limit v begins now).cause = x.cause ∧
    (x.checked start limit v begins now).locks = x.locks := by
  unfold ChanView.checked
  by_cases exceeds : limit < v
  · by_cases old : x.conds .overtemp = true
    · simp [exceeds, old]
    · have idle : x.chan.state.inService = false :=
        Bool.eq_false_iff.mpr fun h => running ⟨exceeds, Bool.eq_false_iff.mpr old, h⟩
      simp [exceeds, old, idle]
  · by_cases cool : v < limit - 50 ∧ x.conds .overtemp = true
    · have stays : ¬(x.chan.state = .tripped ∧ x.cause = some .overtemp) := fun h => lasting ⟨cool.1, cool.2, h⟩
      simp only [exceeds, cool, stays, and_self, if_true, if_false]
    · simp only [exceeds, cool, if_false, and_self]

/-- What the overtemperature check reads of the view that the alarms leave. -/
theorem alarmed_reads (own : s.ownTemp c = some v) :
    let z := x.alarmed (startRecord s c) s.loader.image.tAlarm v
    z.conds .overtemp = x.conds .overtemp ∧ z.cause = x.cause ∧ z.locks = x.locks ∧ z.burst = x.burst ∧
    z.chan.trial = x.chan.trial ∧ z.chan.state.inService = x.chan.state.inService ∧
    (∀ st hold, z.chan.stopped st hold = x.chan.stopped st hold) ∧
    z.chan = if v < s.loader.image.tAlarm ∧ x.chan.state = .hold then startRecord s c x.chan else x.chan := by
  intro z
  have conds : z.conds .overtemp = x.conds .overtemp := by
    rw [alarmed_conds, if_neg (by decide), if_neg (by decide)]
  obtain ⟨cause, locks, burst, chan⟩ := alarmed_chan x v (startRecord s c) s.loader.image.tAlarm
  refine ⟨conds, cause, locks, burst, ?_⟩
  rw [show z.chan = _ from chan]
  split
  · rename_i held
    exact ⟨startRecord_trial .., by rw [startRecord_inService s c v own, held.2]; rfl, startRecord_stopped s c _, rfl⟩
  · exact ⟨rfl, rfl, fun _ _ => rfl, rfl⟩

/-- A channel in service above T_max (R175, R178). -/
theorem settled_stops (own : s.ownTemp c = some v) (exceeds : s.loader.image.tMax < v) (new : x.conds .overtemp = false)
    (serves : x.chan.state.inService = true) :
    (x.chan.trial = none → (x.settled s c v).chan = { x.chan.stopped .tripped none with reclose := none } ∧
      (x.settled s c v).cause = some .overtemp ∧ (x.settled s c v).locks = x.locks) ∧
    (x.chan.trial ≠ none → (x.settled s c v).chan = { x.chan.stopped .locked none with reclose := none, trial := none } ∧
      (x.settled s c v).cause = none ∧ (x.settled s c v).locks = joinLock .overtemp (joinCause x.cause x.locks)) ∧
    (x.settled s c v).burst = x.burst.stopped s.atPeriodStart s.now := by
  obtain ⟨conds, cause, locks, burst, trial, service, stops, -⟩ := alarmed_reads x s c v own
  unfold ChanView.settled ChanView.checked
  rw [conds, new, service, serves, trial]
  simp only [exceeds, if_true, Bool.false_eq_true, if_false]
  by_cases onTrial : x.chan.trial.isSome = true
  · have some : x.chan.trial ≠ none := Option.isSome_iff_ne_none.mp onTrial
    simp [onTrial, some, ChanView.locked, stops, cause, locks, burst]
  · have none : x.chan.trial = none := by simpa using onTrial
    simp [none, ChanView.tripped, stops, locks, burst]

/-- An OVERTEMP trip ends well below T_max (R175). -/
theorem settled_ends (own : s.ownTemp c = some v) (cool : v < s.loader.image.tMax - 50) (old : x.conds .overtemp = true)
    (tripped : x.chan.state = .tripped) (cause : x.cause = some .overtemp) :
    (x.settled s c v).chan = startRecord s c { x.chan with reclose := none } ∧ (x.settled s c v).cause = none := by
  obtain ⟨conds, cause', -, -, -, -, -, chan⟩ := alarmed_reads x s c v own
  rw [if_neg (by simp [tripped])] at chan
  unfold ChanView.settled ChanView.checked
  rw [conds, cause', chan]
  simp [show ¬s.loader.image.tMax < v by omega, cool, old, tripped, cause]

/-- A hold ends below T_alarm_low (R163). -/
theorem settled_held (own : s.ownTemp c = some v) (low : v < s.loader.image.tAlarm) (hold : x.chan.state = .hold)
    (unstopped : v ≤ s.loader.image.tMax ∨ x.conds .overtemp = true) :
    (x.settled s c v).chan = startRecord s c x.chan := by
  obtain ⟨conds, -, -, -, -, service, -, chan⟩ := alarmed_reads x s c v own
  rw [if_pos ⟨low, hold⟩] at chan
  refine (checked_chan _ _ _ _ _ _ (fun h => ?_) (fun h => ?_)).1.trans chan
  · obtain ⟨exceeds, new, -⟩ := h
    rw [conds] at new
    rcases unstopped with h | h
    · omega
    · cases new.symm.trans h
  · obtain ⟨-, -, tripped, -⟩ := h
    rw [hold, tripped] at service
    cases service

/-- Nothing else changes a channel's record, its trip cause or its lock list. -/
theorem settled_other (own : s.ownTemp c = some v)
    (running : ¬(s.loader.image.tMax < v ∧ x.conds .overtemp = false ∧ x.chan.state.inService = true))
    (lasting : ¬(v < s.loader.image.tMax - 50 ∧ x.conds .overtemp = true ∧ x.chan.state = .tripped ∧ x.cause = some .overtemp))
    (unheld : ¬(v < s.loader.image.tAlarm ∧ x.chan.state = .hold)) :
    (x.settled s c v).chan = x.chan ∧ (x.settled s c v).cause = x.cause ∧ (x.settled s c v).locks = x.locks := by
  obtain ⟨conds, cause, locks, -, -, -, -, chan⟩ := alarmed_reads x s c v own
  rw [if_neg unheld] at chan
  have same := checked_chan (x.alarmed (startRecord s c) s.loader.image.tAlarm v) v (startRecord s c) s.loader.image.tMax
    s.atPeriodStart s.now (by rw [conds, chan]; exact running) (by rw [conds, chan, cause]; exact lasting)
  rw [chan, cause, locks] at same
  exact same

end

end Sys2Proof.Machine
end

section
/-! A complete round (O42): the sensors settled by the calibration, the sensor range and the rate check. -/

namespace Sys2Proof.Machine

/-! ## What the sensors' settling leaves -/

/-- The kinds of the sensors' own conditions. -/
def FaultKind.senses : FaultKind → Bool
  | .sensorShort => true
  | .sensorOpen => true
  | .ambientSensor => true
  | .referenceFault => true
  | _ => false

/-- What the settling of the sensors leaves: all but the sensors, their conditions, and the notices. -/
structure Sensing (s t : State) : Prop extends Steady s t where
  chans : t.chans = s.chans
  burst : t.burst = s.burst
  cause : t.fault.tripCause = s.fault.tripCause
  locks : t.fault.locks = s.fault.locks
  meas : { t.meas with wall := s.meas.wall, amb := s.meas.amb, refFault := s.meas.refFault } = s.meas
  conds : ∀ k y, k.senses = false → t.hasCond k y = s.hasCond k y

theorem Sensing.refl (s : State) : Sensing s s := ⟨.refl s, rfl, rfl, rfl, rfl, rfl, fun _ _ _ => rfl⟩

theorem Sensing.trans {s t u : State} (a : Sensing s t) (b : Sensing t u) : Sensing s u := by
  refine ⟨a.toSteady.trans b.toSteady, b.chans.trans a.chans, b.burst.trans a.burst, b.cause.trans a.cause, b.locks.trans a.locks, ?_,
    fun k y h => (b.conds k y h).trans (a.conds k y h)⟩
  have both := a.meas
  rw [← b.meas] at both
  exact both

theorem Sensing.of_meas {s : State} {m : Meas}
    (h : { m with wall := s.meas.wall, amb := s.meas.amb, refFault := s.meas.refFault } = s.meas) :
    Sensing s { s with meas := m } :=
  ⟨⟨rfl, rfl, rfl, rfl, rfl, rfl, rfl, rfl, .of_view rfl⟩, rfl, rfl, rfl, rfl, h, fun _ _ _ => rfl⟩

theorem clearCond_sensing {k : FaultKind} (h : k.senses = true) (c : Option Chan) (s : State) : Sensing s (s.clearCond k c) := by
  refine ⟨⟨rfl, rfl, rfl, rfl, rfl, rfl, rfl, rfl, .of_view rfl⟩, rfl, rfl, rfl, rfl, rfl, fun j y hj => ?_⟩
  refine (hasCond_clearCond s k c).2 j y fun e => ?_
  rw [e.1, h] at hj
  cases hj

/-- A note raises its own condition and no other. -/
theorem occurNote_hasCond (d : Detection) (s : State) (k : FaultKind) (y : Option Chan) :
    (occurNote d s).hasCond k y = (s.hasCond k y || decide (d.kind = k ∧ d.chan = y)) := by
  unfold occurNote
  split
  · rename_i old
    rw [State.hasCond_of (recordOccurrence_marks ..).1]
    by_cases h : d.kind = k ∧ d.chan = y
    · obtain ⟨rfl, rfl⟩ := h
      simp [old]
    · simp [h]
  · rw [State.hasCond_of (recordOccurrence_marks ..).1, State.hasCond_addCond]

theorem occurNote_sensing {d : Detection} (h : d.kind.senses = true) (s : State) : Sensing s (occurNote d s) := by
  have marks : (occurNote d s).fault.tripCause = s.fault.tripCause ∧ (occurNote d s).fault.locks = s.fault.locks := by
    unfold occurNote
    split <;> simp
  refine ⟨⟨by simp, by simp, by simp, by simp, by simp, by simp, by simp, by simp, occurNote_noticing d s⟩, by simp, by simp,
    marks.1, marks.2, by simp, fun k y hk => ?_⟩
  have other : ¬(d.kind = k ∧ d.chan = y) := by
    rintro ⟨rfl, -⟩
    cases h.symm.trans hk
  simp [occurNote_hasCond, other]

/-! ## A wall sensor (R92 to R96) -/

/-- The conditions of a channel after a reading of its sensor: `old` and `new` are the sensor's condition before and after it, and
`found` the one that the reading shows. -/
def sensed (old new found : Option SensorCond) (conds : FaultKind → Bool) : FaultKind → Bool :=
  match found, old with
  | some k, some o => raised k.kind (if o = k then conds else lowered o.kind conds)
  | some k, none => raised k.kind conds
  | none, some o => if new.isNone = true then lowered o.kind conds else conds
  | none, none => conds

theorem kind_senses (k : SensorCond) : k.kind.senses = true := by cases k <;> rfl

theorem occur_sensor (k : SensorCond) (c : Chan) (s : State) :
    occur ⟨k.kind, some c, none⟩ s = occurNote ⟨k.kind, some c, none⟩ s := by cases k <;> rfl

theorem wallFaults_cases {P : State → Prop} {c : Chan} {old new : SensorState} {found : Option SensorCond} {s : State} (hs : P s)
    (clear : ∀ (o : SensorCond) (t : State), P t → P (t.clearCond o.kind (some c)))
    (note : ∀ (k : SensorCond) (t : State), P t → P (occurNote ⟨k.kind, some c, none⟩ t)) :
    P (wallFaults c old new found s) := by
  unfold wallFaults
  split
  · rw [occur_sensor]
    refine note _ _ ?_
    split
    · exact hs
    · exact clear _ _ hs
  · rw [occur_sensor]
    exact note _ _ hs
  · split
    · exact clear _ _ hs
    · exact hs
  · exact hs

theorem wallFaults_conds (c : Chan) (old new : SensorState) (found : Option SensorCond) (s : State) :
    (fun k => (wallFaults c old new found s).hasCond k (some c)) =
      sensed old.cond new.cond found fun k => s.hasCond k (some c) := by
  have clears (o : SensorCond) (t : State) : (fun k => (t.clearCond o.kind (some c)).hasCond k (some c)) =
      lowered o.kind fun k => t.hasCond k (some c) := congrArg ChanView.conds (clearCond_view c t o.kind)
  have notes (k : SensorCond) (t : State) : (fun j => (occurNote ⟨k.kind, some c, none⟩ t).hasCond j (some c)) =
      raised k.kind fun k => t.hasCond k (some c) := congrArg ChanView.conds (occurNote_view c t k.kind none)
  unfold wallFaults sensed
  cases found with
  | some k =>
    cases old.cond with
    | some o =>
      dsimp only
      rw [occur_sensor, notes]
      split
      · rfl
      · rw [clears]
    | none =>
      dsimp only
      rw [occur_sensor, notes]
  | none =>
    cases old.cond with
    | some o =>
      dsimp only
      split
      · rw [clears]
      · rfl
    | none => rfl

/-- What a wall sensor's reading leaves of the others and of the station. -/
structure WallRead (s t : State) : Prop extends Sensing s t where
  amb : t.meas.amb = s.meas.amb
  refFault : t.meas.refFault = s.meas.refFault
  shared : ∀ k, t.hasCond k none = s.hasCond k none

theorem WallRead.refl (s : State) : WallRead s s := ⟨.refl s, rfl, rfl, fun _ => rfl⟩

theorem WallRead.trans {s t u : State} (a : WallRead s t) (b : WallRead t u) : WallRead s u :=
  ⟨a.toSensing.trans b.toSensing, b.amb.trans a.amb, b.refFault.trans a.refFault, fun k => (b.shared k).trans (a.shared k)⟩

theorem wallFaults_read (c : Chan) (old new : SensorState) (found : Option SensorCond) (s : State) :
    WallRead s (wallFaults c old new found s) ∧ (wallFaults c old new found s).meas.wall = s.meas.wall := by
  refine wallFaults_cases (P := fun t => WallRead s t ∧ t.meas.wall = s.meas.wall) ⟨.refl s, rfl⟩ ?_ ?_
  · rintro o t ⟨read, wall⟩
    exact ⟨read.trans ⟨clearCond_sensing (kind_senses o) _ t, rfl, rfl,
      fun k => (hasCond_clearCond t o.kind (some c)).2 k none (by simp)⟩, wall⟩
  · rintro k t ⟨read, wall⟩
    refine ⟨read.trans ⟨occurNote_sensing (kind_senses k) t, by simp, by simp, fun j => ?_⟩, by simpa using wall⟩
    simp [occurNote_hasCond]

theorem wallFaults_other {c x : Chan} (ne : c ≠ x) (old new : SensorState) (found : Option SensorCond) (s : State) (k : FaultKind) :
    (wallFaults x old new found s).hasCond k (some c) = s.hasCond k (some c) := by
  refine wallFaults_cases (P := fun t => t.hasCond k (some c) = s.hasCond k (some c)) rfl ?_ ?_
  · exact fun o t ht => ((hasCond_clearCond t o.kind (some x)).2 k (some c) fun h => ne (Option.some.inj h.2)).trans ht
  · intro o t ht
    rw [occurNote_hasCond, ht]
    have other : ¬(some x = some c) := fun h => ne (Option.some.inj h).symm
    simp [other]

/-- A wall sensor after its reading of the round. -/
def wallReading (s : State) (c : Chan) : SensorState :=
  ((s.meas.wall.get c).take s.now
    (temperature s.meas.rawLo s.meas.rawHi (s.meas.rawWall.get c) (s.loader.image.trims.get c))).countRound

theorem takeWall_read (x : Chan) (s : State) : WallRead s (takeWall x s) ∧
    (takeWall x s).meas.wall = s.meas.wall.set x (wallReading s x) := by
  obtain ⟨read, wall⟩ := wallFaults_read x (s.meas.wall.get x) (wallReading s x)
    (outOfRange (temperature s.meas.rawLo s.meas.rawHi (s.meas.rawWall.get x) (s.loader.image.trims.get x)))
    { s with meas := { s.meas with wall := s.meas.wall.set x (wallReading s x) } }
  have taken : WallRead s { s with meas := { s.meas with wall := s.meas.wall.set x (wallReading s x) } } :=
    ⟨.of_meas rfl, rfl, rfl, fun _ => rfl⟩
  exact ⟨taken.trans read, wall⟩

/-- Another sensor and its channel's conditions stand. -/
structure Apart (c : Chan) (s t : State) : Prop extends WallRead s t where
  wall : t.meas.wall.get c = s.meas.wall.get c
  own : ∀ k, t.hasCond k (some c) = s.hasCond k (some c)

theorem Apart.refl (c : Chan) (s : State) : Apart c s s := ⟨.refl s, rfl, fun _ => rfl⟩

theorem Apart.trans {c : Chan} {s t u : State} (a : Apart c s t) (b : Apart c t u) : Apart c s u :=
  ⟨a.toWallRead.trans b.toWallRead, b.wall.trans a.wall, fun k => (b.own k).trans (a.own k)⟩

theorem takeWall_apart {c x : Chan} (ne : c ≠ x) (s : State) : Apart c s (takeWall x s) := by
  obtain ⟨read, wall⟩ := takeWall_read x s
  exact ⟨read, by rw [wall, Four.get_set_other _ _ ne], fun k => wallFaults_other ne ..⟩

/-- Every enabled sensor is read, and the others stand (R92). -/
structure WallsRead (s t : State) : Prop extends WallRead s t where
  read : ∀ c, s.enabled c = true → t.meas.wall.get c = wallReading s c ∧
    (fun k => t.hasCond k (some c)) = sensed (s.meas.wall.get c).cond (wallReading s c).cond
      (outOfRange (temperature s.meas.rawLo s.meas.rawHi (s.meas.rawWall.get c) (s.loader.image.trims.get c)))
      fun k => s.hasCond k (some c)
  others : ∀ c, s.enabled c = false → t.meas.wall.get c = s.meas.wall.get c ∧ ∀ k, t.hasCond k (some c) = s.hasCond k (some c)

theorem each_takeWall (s : State) : WallsRead s (s.each s.enabledList takeWall) := by
  refine ⟨State.each_inv (WallRead s) (fun x _ t ht => ht.trans (takeWall_read x t).1) (.refl s), fun c enabled => ?_, fun c disabled => ?_⟩
  · obtain ⟨u, before, after⟩ := State.each_once (R := Apart c) (.refl c) .trans (f := takeWall) (fun x hx t => takeWall_apart (Ne.symm hx) t)
      s.enabledList_nodup (State.mem_enabledList.mpr enabled) s
    have wall := (takeWall_read c u).2
    have raws := before.meas
    have loader := before.loader
    have same : wallReading u c = wallReading s c := by
      unfold wallReading
      rw [before.wall, before.now, loader, ← raws]
    have shown : temperature u.meas.rawLo u.meas.rawHi (u.meas.rawWall.get c) (u.loader.image.trims.get c) =
        temperature s.meas.rawLo s.meas.rawHi (s.meas.rawWall.get c) (s.loader.image.trims.get c) := by rw [loader, ← raws]
    refine ⟨?_, ?_⟩
    · rw [after.wall, wall, Four.get_set_same, same]
    · rw [funext after.own, takeWall]
      refine (wallFaults_conds ..).trans ?_
      rw [← same, ← shown, ← before.wall, ← funext before.own]
      rfl
  · have apart := State.each_never (R := Apart c) (.refl c) .trans (f := takeWall) (fun x hx t => takeWall_apart (Ne.symm hx) t)
      (cs := s.enabledList) (fun h => by simp [State.mem_enabledList.mp h] at disabled) s
    exact ⟨apart.wall, apart.own⟩

/-! ## A sensor's reading (R93 to R97) -/

theorem outOfRange_eq (t : Int) : outOfRange t = if t < -600 then some .short else if 2500 < t then some .opened else none := rfl

theorem clampInt_nearest {lo hi x : Int} (h : lo ≤ hi) : clampInt lo hi x = nearest lo hi x := by
  unfold clampInt nearest
  (repeat' split) <;> omega

theorem SensorState.accept_cond (x : SensorState) (now : Nat) (t : Int) :
    (x.accept now t).cond = if 2 ≤ x.clear then none else x.cond := by
  have three : min (x.clear + 1) 3 = 3 ↔ 2 ≤ x.clear := by omega
  simp [SensorState.accept, three]

/-- A reading within the sensor range is accepted or rejected by the rate check (R94). -/
theorem rateCheck_cases (x : SensorState) (now : Nat) (v : Int) :
    ((∀ a, x.accepted = some a → (a.value - 50 ≤ v ∧ v ≤ a.value + 50) ∨ 2 ≤ x.reject) → x.rateCheck now v = x.accept now v) ∧
    (∀ a, x.accepted = some a → ¬(a.value - 50 ≤ v ∧ v ≤ a.value + 50) → x.reject < 2 →
      x.rateCheck now v = { x with reject := x.reject + 1, clear := 0 }) := by
  unfold SensorState.rateCheck
  cases h : x.accepted with
  | none => simp
  | some a =>
    have moved : (-50 ≤ v - a.value ∧ v - a.value ≤ 50) ↔ a.value - 50 ≤ v ∧ v ≤ a.value + 50 := by omega
    refine ⟨fun near => ?_, fun b hb far few => ?_⟩
    · rcases near a rfl with near | many
      · exact if_pos (moved.mpr near)
      · dsimp only
        rw [if_pos (show 3 ≤ x.reject + 1 by omega), ite_self]
    · obtain rfl : a = b := Option.some.inj hb
      exact (if_neg (mt moved.mp far)).trans (if_neg (by omega))

theorem take_valid (x : SensorState) (now : Nat) (t : Int) : (x.take now t).valid = x.valid := by
  unfold SensorState.take SensorState.rateCheck
  (repeat' split) <;> rfl

theorem take_settled (x : SensorState) (now : Nat) (t : Int) : SensorSettled now t x (x.take now t).countRound := by
  have outside {k : SensorCond} (h : outOfRange t = some k) : x.take now t = { x with cond := some k, clear := 0 } := by
    rw [SensorState.take, h]
  have inside (lo : -600 ≤ t) (hi : t ≤ 2500) : x.take now t = x.rateCheck now (nearest (-500) 2000 t) := by
    have none : outOfRange t = none := by rw [outOfRange_eq, if_neg (by omega), if_neg (by omega)]
    rw [SensorState.take, none, clampInt_nearest (by decide)]
  constructor
  case short => exact fun h => by rw [outside (by rw [outOfRange_eq, if_pos h])]; rfl
  case opened => exact fun h => by rw [outside (by rw [outOfRange_eq, if_neg (by omega), if_pos h])]; rfl
  case outOfRange =>
    intro h
    have found : ∃ k, outOfRange t = some k := by
      rw [outOfRange_eq]
      rcases h with h | h
      · exact ⟨_, if_pos h⟩
      · exact ⟨_, (if_neg (by omega)).trans (if_pos h)⟩
    obtain ⟨k, hk⟩ := found
    rw [outside hk]
    exact ⟨rfl, rfl, rfl⟩
  case accepted =>
    intro lo hi near
    rw [inside lo hi, (rateCheck_cases x now _).1 near]
    exact ⟨rfl, rfl, rfl, x.accept_cond now (nearest (-500) 2000 t)⟩
  case rejected =>
    intro a lo hi ha far few
    rw [inside lo hi, (rateCheck_cases x now _).2 a ha far few]
    exact ⟨rfl, rfl, rfl, rfl⟩
  case valid =>
    rw [← take_valid x now t]
    rfl

/-! ## The ambient sensor and the reference (R91, R97) -/

/-- The ambient sensor after its reading of the round. -/
def ambientReading (s : State) (raw : Nat) : SensorState :=
  (s.meas.amb.take s.now (temperature s.meas.rawLo s.meas.rawHi raw s.loader.image.trimAmb)).countRound

/-- The ambient sensor is read, and the wall sensors and their conditions stand. -/
structure AmbientRead (raw : Nat) (s t : State) : Prop extends Sensing s t where
  wall : t.meas.wall = s.meas.wall
  refFault : t.meas.refFault = s.meas.refFault
  own : ∀ k c, t.hasCond k (some c) = s.hasCond k (some c)
  reference : t.hasCond .referenceFault none = s.hasCond .referenceFault none
  read : t.meas.amb = ambientReading s raw
  cond : t.hasCond .ambientSensor none =
    ((outOfRange (temperature s.meas.rawLo s.meas.rawHi raw s.loader.image.trimAmb)).isSome ||
      (s.hasCond .ambientSensor none && !decide (s.meas.amb.cond ≠ none ∧ t.meas.amb.cond = none)))

theorem takeAmbient_read (raw : Nat) (s : State) : AmbientRead raw s (takeAmbient raw s) := by
  have taken : Sensing s { s with meas := { s.meas with amb := ambientReading s raw } } := .of_meas rfl
  have read {t : State} (sensing : Sensing { s with meas := { s.meas with amb := ambientReading s raw } } t)
      (meas : t.meas = { s.meas with amb := ambientReading s raw })
      (conds : ∀ k y, ¬(k = .ambientSensor ∧ y = none) → t.hasCond k y = s.hasCond k y)
      (cond : t.hasCond .ambientSensor none =
        ((outOfRange (temperature s.meas.rawLo s.meas.rawHi raw s.loader.image.trimAmb)).isSome ||
          (s.hasCond .ambientSensor none && !decide (s.meas.amb.cond ≠ none ∧ (ambientReading s raw).cond = none)))) :
      AmbientRead raw s t :=
    ⟨taken.trans sensing, by rw [meas], by rw [meas], fun k c => conds k _ (by simp), conds _ _ (by simp), by rw [meas],
      by rw [cond, meas]⟩
  have taking : takeAmbient raw s = ambientFaults s.meas.amb (ambientReading s raw)
      (outOfRange (temperature s.meas.rawLo s.meas.rawHi raw s.loader.image.trimAmb))
      { s with meas := { s.meas with amb := ambientReading s raw } } := rfl
  rw [taking]
  unfold ambientFaults
  cases found : outOfRange (temperature s.meas.rawLo s.meas.rawHi raw s.loader.image.trimAmb) with
  | some k =>
    refine read (occurNote_sensing (d := ⟨.ambientSensor, none, none⟩) rfl _) (occurNote_frame ..).2.2.2.2.2.2.2.1 ?_ ?_
    · intro j y other
      refine (occurNote_hasCond ..).trans ?_
      have apart : ¬(FaultKind.ambientSensor = j ∧ none = y) := fun h => other ⟨h.1.symm, h.2.symm⟩
      rw [decide_eq_false apart, Bool.or_false]
      rfl
    · refine (occurNote_hasCond ..).trans ?_
      simp [found]
  | none =>
    cases old : s.meas.amb.cond with
    | none =>
      refine read (.refl _) rfl (fun _ _ _ => rfl) ?_
      simp [found, old, State.hasCond]
    | some o =>
      dsimp only
      split
      · rename_i cleared
        refine read (clearCond_sensing rfl none _) rfl (fun j y other => (hasCond_clearCond _ _ _).2 j y other) ?_
        refine (hasCond_clearCond _ _ _).1.trans ?_
        simp [found, old, Option.isNone_iff_eq_none.mp cleared]
      · rename_i stays
        refine read (.refl _) rfl (fun _ _ _ => rfl) ?_
        have some : (ambientReading s raw).cond ≠ none := fun h => stays (Option.isNone_iff_eq_none.mpr h)
        simp [found, old, some, State.hasCond]

/-! ## The round's sensors (R91) -/

/-- What the sensors' settling leaves in a round with a good span. -/
structure GoodRead (raw : Nat) (s t : State) : Prop extends Sensing s t where
  refFault : t.meas.refFault = false
  reference : t.hasCond .referenceFault none = false
  walls : ∀ c, s.enabled c = true → t.meas.wall.get c = wallReading s c ∧
    (fun k => t.hasCond k (some c)) = sensed (s.meas.wall.get c).cond (wallReading s c).cond
      (outOfRange (temperature s.meas.rawLo s.meas.rawHi (s.meas.rawWall.get c) (s.loader.image.trims.get c)))
      fun k => s.hasCond k (some c)
  others : ∀ c, s.enabled c = false → t.meas.wall.get c = s.meas.wall.get c ∧ ∀ k, t.hasCond k (some c) = s.hasCond k (some c)
  amb : t.meas.amb = ambientReading s raw
  ambient : t.hasCond .ambientSensor none =
    ((outOfRange (temperature s.meas.rawLo s.meas.rawHi raw s.loader.image.trimAmb)).isSome ||
      (s.hasCond .ambientSensor none && !decide (s.meas.amb.cond ≠ none ∧ t.meas.amb.cond = none)))

/-- A round with a good span ends the reference fault first. -/
def referenceEnded (s : State) : State := ({ s with meas := { s.meas with refFault := false } } : State).clearCond .referenceFault none

theorem referenceEnded_sensing (s : State) : Sensing s (referenceEnded s) :=
  .trans (.of_meas (m := { s.meas with refFault := false }) rfl) (clearCond_sensing rfl none _)

theorem referenceEnded_hasCond (s : State) : (referenceEnded s).hasCond .referenceFault none = false ∧
    ∀ k y, ¬(k = .referenceFault ∧ y = none) → (referenceEnded s).hasCond k y = s.hasCond k y :=
  hasCond_clearCond { s with meas := { s.meas with refFault := false } } .referenceFault none

theorem goodRound_read (raw : Nat) (s : State) : GoodRead raw s (goodRound raw s) := by
  obtain ⟨gone, kept⟩ := referenceEnded_hasCond s
  have walls : WallsRead (referenceEnded s) ((referenceEnded s).each s.enabledList takeWall) := each_takeWall (referenceEnded s)
  have ambient := takeAmbient_read raw ((referenceEnded s).each s.enabledList takeWall)
  have taken : goodRound raw s = takeAmbient raw ((referenceEnded s).each s.enabledList takeWall) := rfl
  rw [taken]
  have before := (referenceEnded_sensing s).trans walls.toSensing
  have amb : ((referenceEnded s).each s.enabledList takeWall).meas.amb = s.meas.amb := walls.amb
  have reading : ambientReading ((referenceEnded s).each s.enabledList takeWall) raw = ambientReading s raw := by
    unfold ambientReading
    rw [amb, before.now, before.loader, ← before.meas]
  have shown : temperature ((referenceEnded s).each s.enabledList takeWall).meas.rawLo
      ((referenceEnded s).each s.enabledList takeWall).meas.rawHi raw
      ((referenceEnded s).each s.enabledList takeWall).loader.image.trimAmb =
      temperature s.meas.rawLo s.meas.rawHi raw s.loader.image.trimAmb := by rw [before.loader, ← before.meas]
  have own (c : Chan) : (fun k => (referenceEnded s).hasCond k (some c)) = fun k => s.hasCond k (some c) :=
    funext fun k => kept k (some c) (by simp)
  constructor
  case toSensing => exact before.trans ambient.toSensing
  case refFault => exact ambient.refFault.trans walls.refFault
  case reference => exact ambient.reference.trans ((walls.shared _).trans gone)
  case walls =>
    intro c enabled
    obtain ⟨wall, conds⟩ := walls.read c enabled
    refine ⟨(congrArg (Four.get · c) ambient.wall).trans wall, ?_⟩
    rw [funext fun k => ambient.own k c, conds, own]
    rfl
  case others =>
    intro c disabled
    obtain ⟨wall, conds⟩ := walls.others c disabled
    exact ⟨(congrArg (Four.get · c) ambient.wall).trans wall,
      fun k => (ambient.own k c).trans ((conds k).trans (kept k (some c) (by simp)))⟩
  case amb => exact ambient.read.trans reading
  case ambient =>
    rw [ambient.cond, shown, amb, walls.shared, kept _ _ (by simp)]

/-- In a round with a bad span nothing is read (R91). -/
structure BadRead (s t : State) : Prop extends Sensing s t where
  refFault : t.meas.refFault = true
  reference : t.hasCond .referenceFault none = true
  walls : ∀ c, t.meas.wall.get c = { s.meas.wall.get c with
    clear := 0, valid := if (s.meas.wall.get c).temp.isSome = true then min ((s.meas.wall.get c).valid + 1) 3 else 0 }
  amb : t.meas.amb = { s.meas.amb with
    clear := 0, valid := if s.meas.amb.temp.isSome = true then min (s.meas.amb.valid + 1) 3 else 0 }
  rest : ∀ k y, k ≠ .referenceFault → t.hasCond k y = s.hasCond k y

theorem badRound_read (s : State) : BadRead s (badRound s) := by
  have taken : badRound s = occurNote ⟨.referenceFault, none, none⟩ { s with meas := { s.meas with
      refFault := true
      wall := s.meas.wall.map fun x => ({ x with clear := 0 } : SensorState).countRound
      amb := ({ s.meas.amb with clear := 0 } : SensorState).countRound } } := rfl
  rw [taken]
  constructor
  case toSensing =>
    refine Sensing.trans ?_ (occurNote_sensing rfl _)
    exact .of_meas rfl
  case refFault => simp
  case reference => rw [occurNote_hasCond]; simp
  case walls =>
    intro c
    simp only [occurNote_frame, Four.get_map]
    rfl
  case amb =>
    simp only [occurNote_frame]
    rfl
  case rest =>
    intro k y other
    have apart : ¬(FaultKind.referenceFault = k ∧ none = y) := fun h => other h.1.symm
    refine (occurNote_hasCond ..).trans ?_
    rw [decide_eq_false apart, Bool.or_false]
    rfl

end Sys2Proof.Machine
end

section
/-! A complete round (O42): its sensors, alarms and overtemperature checks put together, and MEASURE. -/

namespace Sys2Proof.Machine

/-! ## The stages of the round (R90, R98) -/

/-- The state after the sensors' stage, and after the alarms and the overtemperature checks. -/
def roundSensed (raw : Nat) (s : State) : State := if spanGood s.meas.rawLo s.meas.rawHi then goodRound raw s else badRound s
def roundChecked (raw : Nat) (s : State) : State := ((roundSensed raw s).each Chan.list alarmCheck).each Chan.list overtempCheck

theorem finishRound_eq (raw : Nat) (s : State) : finishRound raw s = finishMeasure (roundChecked raw s) := rfl

/-- The reference span of a round is good (R91). -/
abbrev GoodSpan (m : Meas) : Prop := m.rawLo + 3000 ≤ m.rawHi ∧ m.rawHi ≤ m.rawLo + 6000

theorem spanGood_iff (m : Meas) : spanGood m.rawLo m.rawHi = true ↔ GoodSpan m := by
  rw [spanGood, decide_eq_true_iff, GoodSpan]
  omega

theorem roundSensed_good {s : State} (good : GoodSpan s.meas) (raw : Nat) : GoodRead raw s (roundSensed raw s) := by
  rw [roundSensed, if_pos ((spanGood_iff _).mpr good)]
  exact goodRound_read raw s

theorem roundSensed_bad {s : State} (bad : ¬GoodSpan s.meas) (raw : Nat) : BadRead s (roundSensed raw s) := by
  rw [roundSensed, if_neg (mt (spanGood_iff _).mp bad)]
  exact badRound_read s

theorem roundSensed_sensing (raw : Nat) (s : State) : Sensing s (roundSensed raw s) := by
  by_cases good : GoodSpan s.meas
  · exact (roundSensed_good good raw).toSensing
  · exact (roundSensed_bad good raw).toSensing

theorem roundChecked_alarming (raw : Nat) (s : State) : Alarming (roundSensed raw s) (roundChecked raw s) :=
  (each_alarming alarmCheck_alarming _ _).trans (each_alarming overtempCheck_alarming _ _)

theorem roundChecked_steady (raw : Nat) (s : State) : Steady s (roundChecked raw s) :=
  (roundSensed_sensing raw s).toSteady.trans (roundChecked_alarming raw s).toSteady

/-- What the completion of MEASURE leaves: all but the queue, the slot and the phase of MEASURE itself. -/
theorem finishMeasure_rest (s : State) : ∃ line cmd measure,
    finishMeasure s = { s with line := line, cmd := cmd, meas := { s.meas with measure := measure } } := by
  unfold finishMeasure
  split
  · exact ⟨_, _, _, completeDeferred_rest ..⟩
  · exact ⟨s.line, s.cmd, s.meas.measure, rfl⟩

/-- What the arbiter leaves: all but the converter and its requests. -/
theorem startNext_rest (s : State) : ∃ conv chans, startNext s = { s with meas := { s.meas with conv := conv, chans := chans } } := by
  have same : ∃ conv chans, s = { s with meas := { s.meas with conv := conv, chans := chans } } := ⟨s.meas.conv, s.meas.chans, rfl⟩
  unfold startNext
  (repeat' split)
  · exact same
  · exact ⟨_, _, rfl⟩
  · exact same
  · exact ⟨_, s.meas.chans, rfl⟩
  · exact same
  · exact same

/-- The state at the end of the kept conversion of AMB, before the round's own work. -/
def roundOver (s : State) (e : Nat) (conv : Option Conversion) (chans : Four ChanMeas) : State :=
  { s with
    now := max s.now e
    meas := { s.meas with
      conv := conv, chans := chans, convEnd := some (max s.now e), remaining := s.meas.remaining.tail, roundOn := false } }

theorem roundEnds_eq {raw : Word16} {s : State} {limit : Option Nat} {e : Nat}
    (h : s.meas.conv = some ⟨.reading .ambient, true, .live, limit, e⟩) : ∃ conv chans,
      roundEnds raw s = finishRound raw.toNat (roundOver s e conv chans) ∧
      conversionEnds raw s = finishRound raw.toNat (roundOver s e conv chans) := by
  obtain ⟨conv, chans, rest⟩ := startNext_rest { s.reach e with
    meas := { s.meas with
      conv := none, convEnd := some (max s.now e), remaining := s.meas.remaining.tail, roundOn := false } }
  have ended : conversionEnds raw s = finishRound raw.toNat (roundOver s e conv chans) := by
    rw [conversionEnds, h]
    exact congrArg (finishRound raw.toNat) rest
  refine ⟨conv, chans, ?_, ended⟩
  rw [← ended, roundEnds, conversionEnds, h]
  rfl

/-! ## The station's part (R91, R97) -/

/-- The conditions and the sensors at the end of the round. -/
structure RoundRead (raw : Nat) (s t : State) : Prop where
  conds : ∀ k, t.hasCond k none = (roundSensed raw s).hasCond k none
  wall : t.meas.wall = (roundSensed raw s).meas.wall
  amb : t.meas.amb = (roundSensed raw s).meas.amb
  refFault : t.meas.refFault = (roundSensed raw s).meas.refFault
  roundOn : t.meas.roundOn = s.meas.roundOn

theorem finishRound_read (raw : Nat) (s : State) : RoundRead raw s (finishRound raw s) := by
  obtain ⟨line, cmd, measure, rest⟩ := finishMeasure_rest (roundChecked raw s)
  have a := roundChecked_alarming raw s
  have wall := congrArg Meas.wall a.meas
  have amb := congrArg Meas.amb a.meas
  have refFault := congrArg Meas.refFault a.meas
  have roundOn := congrArg Meas.roundOn a.meas
  have on := congrArg Meas.roundOn (roundSensed_sensing raw s).meas
  rw [finishRound_eq, rest]
  exact ⟨a.conds, wall, amb, refFault, roundOn.trans on⟩

theorem finishRound_chan (raw : Nat) (s : State) (c : Chan) :
    chanView c (finishRound raw s) = chanView c (roundChecked raw s) := by
  obtain ⟨line, cmd, measure, rest⟩ := finishMeasure_rest (roundChecked raw s)
  rw [finishRound_eq, rest]
  rfl

theorem finishRound_ownTemp (raw : Nat) (s : State) (c : Chan) :
    (finishRound raw s).ownTemp c = (roundSensed raw s).ownTemp c := by
  obtain ⟨line, cmd, measure, rest⟩ := finishMeasure_rest (roundChecked raw s)
  rw [finishRound_eq, rest]
  exact (roundChecked_alarming raw s).ownTemp c

/-! ## The sensors' conditions (R93, R96) -/

theorem take_cond (x : SensorState) (now : Nat) (t : Int) :
    (∀ k, outOfRange t = some k → (x.take now t).countRound.cond = some k) ∧
    (outOfRange t = none → (x.take now t).countRound.cond = none ∨ (x.take now t).countRound.cond = x.cond) := by
  have settled := take_settled x now t
  refine ⟨fun k found => ?_, fun inside => ?_⟩
  · rw [outOfRange_eq] at found
    split at found
    · rename_i low
      exact (settled.short low).trans found
    · split at found
      · rename_i high
        exact (settled.opened high).trans found
      · cases found
  · have range : -600 ≤ t ∧ t ≤ 2500 := by
      rw [outOfRange_eq] at inside
      grind
    by_cases near : ∀ a, x.accepted = some a →
        (a.value - 50 ≤ nearest (-500) 2000 t ∧ nearest (-500) 2000 t ≤ a.value + 50) ∨ 2 ≤ x.reject
    · rw [(settled.accepted range.1 range.2 near).2.2.2]
      split
      · exact .inl rfl
      · exact .inr rfl
    · push Not at near
      obtain ⟨a, ha, far, few⟩ := near
      exact .inr (settled.rejected a range.1 range.2 ha (fun h => absurd h.2 (not_le.mpr (far h.1))) few).2.2.2

/-- A channel's SENSOR_SHORT or SENSOR_OPEN after its sensor's reading. -/
theorem sensed_own {old new found : Option SensorCond} (conds : FaultKind → Bool) (shown : ∀ k, found = some k → new = some k)
    (kept : found = none → new = none ∨ new = old) (k : SensorCond) :
    sensed old new found conds k.kind =
      (decide (found = some k) || (conds k.kind && !(decide (old = some k) && !decide (new = some k)))) := by
  have kinds : ∀ j : SensorCond, k.kind = j.kind ↔ k = j := fun j => by cases k <;> cases j <;> decide
  unfold sensed
  cases found with
  | some j =>
    rw [shown j rfl]
    cases old with
    | none => simp [raised, kinds, Bool.or_comm, eq_comm]
    | some o =>
      by_cases same : o = j
      · subst same
        by_cases hk : k = o <;> simp [raised, kinds, hk, eq_comm]
      · by_cases hk : k = j
        · simp [raised, hk]
        · simp [raised, lowered, kinds, same, hk, eq_comm]
  | none =>
    cases old with
    | none => simp
    | some o =>
      rcases kept rfl with rfl | rfl
      · simp [lowered, kinds, eq_comm]
      · simp

/-! ## A channel's part -/

theorem finishRound_view {raw : Nat} {s : State} {c : Chan} {v : Int} (own : (finishRound raw s).ownTemp c = some v) :
    chanView c (finishRound raw s) = (chanView c (roundSensed raw s)).settled (roundSensed raw s) c v := by
  rw [finishRound_ownTemp] at own
  exact (finishRound_chan raw s c).trans (checks_view own)

theorem finishRound_view_none {raw : Nat} {s : State} {c : Chan} (own : (finishRound raw s).ownTemp c = none) :
    chanView c (finishRound raw s) = chanView c (roundSensed raw s) := by
  rw [finishRound_ownTemp] at own
  exact (finishRound_chan raw s c).trans (checks_view_none own)

/-- The alarms and the checks change no condition of a sensor. -/
theorem finishRound_sensorCond (raw : Nat) (s : State) (c : Chan) (k : SensorCond) :
    (finishRound raw s).hasCond k.kind (some c) = (roundSensed raw s).hasCond k.kind (some c) := by
  have apart : k.kind ≠ .holdOverride ∧ k.kind ≠ .lowTemp ∧ k.kind ≠ .overtemp ∧ k.kind.endsWithTrip = false := by
    cases k <;> decide
  obtain ⟨notHold, notLow, notOver, lasting⟩ := apart
  cases own : (finishRound raw s).ownTemp c with
  | none => exact congrFun (congrArg ChanView.conds (finishRound_view_none own)) k.kind
  | some v =>
    refine (congrFun (congrArg ChanView.conds (finishRound_view own)) k.kind).trans ?_
    rw [ChanView.settled, checked_conds _ _ _ _ _ _ lasting, if_neg notOver, alarmed_conds, if_neg notHold, if_neg notLow]
    rfl

/-- The start choice does not turn on what the checks change, where the channel has its own temperature. -/
theorem Started.of_own {s t : State} {fires : Bool} {c : Chan} {old new : Channel} {v : Int} (h : Started s fires c old new)
    (own : s.ownTemp c = some v) (own' : t.ownTemp c = some v) (now : t.now = s.now) (loader : t.loader = s.loader) :
    Started t fires c old new := by
  refine ⟨h.kept, h.hold, h.off, h.demand, ?_, ?_, ?_⟩
  · rw [now]
    exact h.clean
  · rw [own', ← own, loader]
    exact h.own
  · rw [own']
    exact fun _ none => by cases none

/-! ## MEASURE (R49, R58, R99) -/

theorem measureResult_length (s : State) : (measureResult s).length = 8 := by
  simp [measureResult, widthOf, Chan.list]

theorem measureResult_fields (s : State) : (∀ c : Chan, fieldAt (measureResult s) (12 * c.num) 12 = tempField (s.ownTemp c)) ∧
    fieldAt (measureResult s) 48 12 = tempField s.ambTemp := by
  have read : ReadBack (measureResult s) 0 [⟨12, tempField (s.ownTemp .c0)⟩, ⟨12, tempField (s.ownTemp .c1)⟩,
      ⟨12, tempField (s.ownTemp .c2)⟩, ⟨12, tempField (s.ownTemp .c3)⟩, ⟨12, tempField s.ambTemp⟩, ⟨4, 0⟩] :=
    packChars_readBack _ (by simp [widthOf, Chan.list])
  simp only [ReadBack, Nat.reduceAdd, Nat.reducePow, Nat.zero_add, tempField_mod] at read
  obtain ⟨r0, r1, r2, r3, amb, -⟩ := read
  refine ⟨fun c => ?_, amb⟩
  cases c
  case c0 => exact r0
  case c1 => exact r1
  case c2 => exact r2
  case c3 => exact r3

/-- What MEASURE's completion makes of the state (R49, R58). -/
theorem finishMeasure_spec (s : State) :
    (s.meas.measure ≠ .serving → finishMeasure s = s) ∧
    (s.meas.measure = .serving → (finishMeasure s).meas.measure = .none) := by
  refine ⟨fun idle => by rw [finishMeasure, if_neg idle], fun serving => ?_⟩
  rw [finishMeasure, if_pos serving, completeDeferred_rest]

theorem finishMeasure_answer {s : State} {asker reqNo : Byte} {due : Bool} (serving : s.meas.measure = .serving)
    (flying : s.cmd = .inFlight .measure asker reqNo due) :
    (due = false ∨ s.station.mute = true → (finishMeasure s).cmd = .empty) ∧
    (due = true → s.station.mute = false →
      (s.line.queue.length < 4 → (finishMeasure s).cmd = .empty ∧
        (finishMeasure s).line.queue = s.line.queue ++ [.answer ⟨asker, reqNo, .ok, measureResult s⟩]) ∧
      (4 ≤ s.line.queue.length → (finishMeasure s).cmd = .held ⟨asker, reqNo, .ok, measureResult s⟩ ∧
        (finishMeasure s).line.queue = s.line.queue)) := by
  rw [finishMeasure, if_pos serving]
  refine ⟨fun untold => ?_, fun told loud => ⟨fun room => ?_, fun full => ?_⟩⟩
  · rw [completeDeferred_discarded (s := { s with meas := { s.meas with measure := .none } }) _ _ flying untold]
  · rw [completeDeferred_queued (s := { s with meas := { s.meas with measure := .none } }) _ _ flying told loud room]
    exact ⟨rfl, rfl⟩
  · rw [completeDeferred_held (s := { s with meas := { s.meas with measure := .none } }) _ _ flying told loud full]
    exact ⟨rfl, rfl⟩

end Sys2Proof.Machine
end

section
/-! A complete round (O42): what it comes to for one channel, and the statement. -/

namespace Sys2Proof.Machine

/-! ## What the round leaves -/

theorem finishRound_kept (raw : Nat) (s : State) :
    (finishRound raw s).now = s.now ∧ (finishRound raw s).station = s.station ∧ (finishRound raw s).budget = s.budget ∧
    (finishRound raw s).loader = s.loader ∧ (finishRound raw s).peers = s.peers ∧ (finishRound raw s).halt = s.halt ∧
    (finishRound raw s).pins = s.pins := by
  obtain ⟨line, cmd, measure, rest⟩ := finishMeasure_rest (roundChecked raw s)
  have steady := roundChecked_steady raw s
  rw [finishRound_eq, rest]
  exact ⟨steady.now, steady.station, steady.budget, steady.loader, steady.peers, steady.halt, steady.pins⟩

/-! ## One channel -/

section
variable {raw : Nat} {s : State} {c : Chan} {v : Int} (own : (finishRound raw s).ownTemp c = some v)
include own

/-- The view that the round leaves, with what it reads of the state before. -/
theorem finishRound_settled : ∃ G x, Sensing s G ∧ G.ownTemp c = some v ∧ x = chanView c G ∧
    (∀ k : FaultKind, k.senses = false → x.conds k = s.hasCond k (some c)) ∧
    x.chan = s.chans.get c ∧ x.cause = s.fault.tripCause.get c ∧ x.locks = s.fault.locks.get c ∧
    x.burst = s.burst.chans.get c ∧ chanView c (finishRound raw s) = x.settled G c v := by
  have sensing := roundSensed_sensing raw s
  refine ⟨roundSensed raw s, _, sensing, ?_, rfl, fun k hk => sensing.conds k _ hk, ?_, ?_, ?_, ?_, finishRound_view own⟩
  · rw [← finishRound_ownTemp]
    exact own
  · exact congrArg (Four.get · c) sensing.chans
  · exact congrArg (Four.get · c) sensing.cause
  · exact congrArg (Four.get · c) sensing.locks
  · exact congrArg (fun b : Burst => b.chans.get c) sensing.burst

/-- The alarms of R163, R166 and R175 as conditions. -/
theorem finishRound_alarms :
    (finishRound raw s).hasCond .holdOverride (some c) =
      (if v < s.loader.image.tAlarm then s.hasCond .holdOverride (some c) || decide ((s.chans.get c).state = .hold)
        else s.hasCond .holdOverride (some c) && decide (v < s.loader.image.tAlarm + 20)) ∧
    (finishRound raw s).hasCond .lowTemp (some c) =
      (if v < s.loader.image.tAlarm then s.hasCond .lowTemp (some c) || (s.chans.get c).state.fires
        else s.hasCond .lowTemp (some c) && decide (v < s.loader.image.tAlarm + 20)) ∧
    (finishRound raw s).hasCond .overtemp (some c) =
      (if s.loader.image.tMax < v then true
        else s.hasCond .overtemp (some c) && decide (s.loader.image.tMax - 50 ≤ v)) := by
  obtain ⟨G, x, sensing, -, -, conds, chan, -, -, -, view⟩ := finishRound_settled own
  have after (k : FaultKind) : (finishRound raw s).hasCond k (some c) = (x.settled G c v).conds k :=
    congrFun (congrArg ChanView.conds view) k
  have loader := sensing.loader
  refine ⟨?_, ?_, ?_⟩
  · rw [after, ChanView.settled, checked_conds _ _ _ _ _ _ rfl, if_neg (by decide), alarmed_conds, if_pos rfl, conds _ rfl, chan, loader]
  · rw [after, ChanView.settled, checked_conds _ _ _ _ _ _ rfl, if_neg (by decide), alarmed_conds, if_neg (by decide), if_pos rfl,
      conds _ rfl, chan, loader]
  · rw [after, ChanView.settled, checked_conds _ _ _ _ _ _ rfl, if_pos rfl, alarmed_conds,
      if_neg (show ¬FaultKind.overtemp = .holdOverride by decide), if_neg (show ¬FaultKind.overtemp = .lowTemp by decide),
      conds _ rfl, loader]

/-- A channel in service stops above T_max (R175, R178, R115, R145). -/
theorem finishRound_stops (exceeds : s.loader.image.tMax < v) (new : s.hasCond .overtemp (some c) = false)
    (serves : (s.chans.get c).state.inService = true) :
    ((s.chans.get c).trial = none →
      (finishRound raw s).chans.get c = { (s.chans.get c).stopped .tripped none with reclose := none } ∧
      (finishRound raw s).fault.tripCause.get c = some .overtemp ∧
      (finishRound raw s).fault.locks.get c = s.fault.locks.get c) ∧
    ((s.chans.get c).trial ≠ none →
      (finishRound raw s).chans.get c = { (s.chans.get c).stopped .locked none with reclose := none, trial := none } ∧
      (finishRound raw s).fault.tripCause.get c = none ∧
      (finishRound raw s).fault.locks.get c = joinLock .overtemp (joinCause (s.fault.tripCause.get c) (s.fault.locks.get c))) ∧
    (finishRound raw s).burst.chans.get c = (s.burst.chans.get c).stopped s.atPeriodStart s.now := by
  obtain ⟨G, x, sensing, ownG, -, conds, chan, cause, locks, burst, view⟩ := finishRound_settled own
  have begins : G.atPeriodStart = s.atPeriodStart := by rw [State.atPeriodStart, State.atPeriodStart, sensing.burst, sensing.now]
  obtain ⟨trips, locked, stopped⟩ := settled_stops x G c v ownG (sensing.loader ▸ exceeds) ((conds _ rfl).trans new)
    (chan ▸ serves)
  rw [← view, chan] at trips locked
  rw [← view, burst, begins, sensing.now] at stopped
  rw [locks] at trips locked
  rw [cause] at locked
  exact ⟨trips, locked, stopped⟩

/-- An OVERTEMP trip ends well below T_max, and a hold below T_alarm_low (R163, R175). -/
theorem finishRound_starts :
    (v < s.loader.image.tMax - 50 → s.hasCond .overtemp (some c) = true → (s.chans.get c).state = .tripped →
      s.fault.tripCause.get c = some .overtemp →
      Started (finishRound raw s) s.station.state.fires c { s.chans.get c with reclose := none } ((finishRound raw s).chans.get c) ∧
      (finishRound raw s).fault.tripCause.get c = none) ∧
    (v < s.loader.image.tAlarm → (s.chans.get c).state = .hold →
      (v ≤ s.loader.image.tMax ∨ s.hasCond .overtemp (some c) = true) →
      Started (finishRound raw s) s.station.state.fires c (s.chans.get c) ((finishRound raw s).chans.get c)) := by
  obtain ⟨G, x, sensing, ownG, -, conds, chan, cause, locks, burst, view⟩ := finishRound_settled own
  obtain ⟨now, -, -, loader, -⟩ := finishRound_kept raw s
  have started (ch : Channel) : Started (finishRound raw s) s.station.state.fires c ch (startRecord G c ch) := by
    rw [← sensing.station]
    exact (startRecord_started G c ch).of_own ownG own (now.trans sensing.now.symm) (loader.trans sensing.loader.symm)
  refine ⟨fun cool old tripped hot => ?_, fun low hold unstopped => ?_⟩
  · obtain ⟨ends, causeless⟩ := settled_ends x G c v ownG (sensing.loader ▸ cool) ((conds _ rfl).trans old) (chan ▸ tripped)
      (cause.trans hot)
    rw [← view, chan] at ends
    rw [← view] at causeless
    exact ⟨(congrArg (Started _ _ c _) ends).mpr (started _), causeless⟩
  · have ends := settled_held x G c v ownG (sensing.loader ▸ low) (chan ▸ hold)
      (by rw [conds _ rfl, sensing.loader]; exact unstopped)
    rw [← view, chan] at ends
    exact (congrArg (Started _ _ c _) ends).mpr (started _)

/-- Nothing else happens to a channel, its trip cause and its locks. -/
theorem finishRound_other
    (running : ¬(s.loader.image.tMax < v ∧ s.hasCond .overtemp (some c) = false ∧ (s.chans.get c).state.inService = true))
    (lasting : ¬(v < s.loader.image.tMax - 50 ∧ s.hasCond .overtemp (some c) = true ∧ (s.chans.get c).state = .tripped ∧
      s.fault.tripCause.get c = some .overtemp))
    (unheld : ¬(v < s.loader.image.tAlarm ∧ (s.chans.get c).state = .hold)) :
    (finishRound raw s).chans.get c = s.chans.get c ∧
    (finishRound raw s).fault.tripCause.get c = s.fault.tripCause.get c ∧
    (finishRound raw s).fault.locks.get c = s.fault.locks.get c := by
  obtain ⟨G, x, sensing, ownG, -, conds, chan, cause, locks, burst, view⟩ := finishRound_settled own
  have stands := settled_other x G c v ownG (by rw [conds _ rfl, sensing.loader, chan]; exact running)
    (by rw [conds _ rfl, sensing.loader, chan, cause]; exact lasting) (by rw [sensing.loader, chan]; exact unheld)
  rw [← view, chan, cause, locks] at stands
  exact stands

end

/-- With no own temperature nothing happens to a channel. -/
theorem finishRound_blind {raw : Nat} {s : State} {c : Chan} (own : (finishRound raw s).ownTemp c = none) :
    (∀ k : FaultKind, k.senses = false → (finishRound raw s).hasCond k (some c) = s.hasCond k (some c)) ∧
    (finishRound raw s).chans.get c = s.chans.get c := by
  have view := finishRound_view_none own
  have sensing := roundSensed_sensing raw s
  exact ⟨fun k hk => (congrFun (congrArg ChanView.conds view) k).trans (sensing.conds k _ hk),
    (congrArg ChanView.chan view).trans (congrArg (Four.get · c) sensing.chans)⟩

/-- An output at the stop of its channel. -/
theorem ChanBurst.stopped_spec (b : ChanBurst) (begins : Bool) (now : Nat) :
    (b.stopped begins now).h = 0 ∧ (b.stopped begins now).r = 0 ∧
    ((b.stopped begins now).out = true ↔ b.out = true ∧ ¬begins = true) := by
  unfold ChanBurst.stopped
  split
  · rename_i cut
    simp [cut.1]
  · rename_i uncut
    refine ⟨rfl, rfl, fun out => ⟨out, fun h => uncut ⟨h, out⟩⟩, And.left⟩

theorem inService_iff (st : ChanState) : st.inService = true ↔ st ≠ .tripped ∧ st ≠ .locked := by cases st <;> decide

/-! ## The sensors' conditions of a channel -/

theorem finishRound_senses (raw : Nat) (s : State) (c : Chan) (k : SensorCond) :
    (finishRound raw s).hasCond k.kind (some c) =
      (if GoodSpan s.meas ∧ s.enabled c = true then
        decide (outOfRange (temperature s.meas.rawLo s.meas.rawHi (s.meas.rawWall.get c) (s.loader.image.trims.get c)) = some k) ||
          (s.hasCond k.kind (some c) && !(decide ((s.meas.wall.get c).cond = some k) &&
            !decide (((finishRound raw s).meas.wall.get c).cond = some k)))
      else s.hasCond k.kind (some c)) := by
  rw [finishRound_sensorCond, (finishRound_read raw s).wall]
  by_cases good : GoodSpan s.meas
  · have read := roundSensed_good good raw
    by_cases enabled : s.enabled c = true
    · obtain ⟨wall, conds⟩ := read.walls c enabled
      obtain ⟨shown, kept⟩ := take_cond (s.meas.wall.get c) s.now
        (temperature s.meas.rawLo s.meas.rawHi (s.meas.rawWall.get c) (s.loader.image.trims.get c))
      rw [if_pos ⟨good, enabled⟩, wall]
      exact (congrFun conds k.kind).trans (sensed_own _ shown kept k)
    · rw [if_neg fun h => enabled h.2]
      exact (read.others c (Bool.eq_false_iff.mpr enabled)).2 k.kind
  · rw [if_neg fun h => good h.1]
    exact (roundSensed_bad good raw).rest _ _ (by cases k <;> decide)

theorem outOfRange_iff (t : Int) : (outOfRange t = some .short ↔ t < -600) ∧ (outOfRange t = some .opened ↔ 2500 < t) ∧
    ((outOfRange t).isSome = true ↔ t < -600 ∨ 2500 < t) := by
  rw [outOfRange_eq]
  grind

/-! ## MEASURE -/

theorem finishRound_measure (raw : Nat) (s : State) :
    (s.meas.measure ≠ .serving → (finishRound raw s).meas.measure = s.meas.measure ∧ (finishRound raw s).cmd = s.cmd) ∧
    (s.meas.measure = .serving → (finishRound raw s).meas.measure = .none) := by
  obtain ⟨unserved, served⟩ := finishMeasure_spec (roundChecked raw s)
  have after := congrArg Meas.measure (roundChecked_alarming raw s).meas
  have measure : (roundChecked raw s).meas.measure = s.meas.measure :=
    after.trans (congrArg Meas.measure (roundSensed_sensing raw s).meas :)
  rw [finishRound_eq]
  refine ⟨fun idle => ?_, fun serving => served (measure.trans serving)⟩
  rw [unserved (measure ▸ idle)]
  exact ⟨measure, (roundChecked_steady raw s).cmd⟩

/-- The answer of a MEASURE that is served, appended or held (R49, R58). -/
theorem finishRound_answer {raw : Nat} {s : State} {asker reqNo : Byte} (serving : s.meas.measure = .serving)
    (flying : s.cmd = .inFlight .measure asker reqNo true) (loud : s.station.mute = false) : ∃ x : List Byte, x.length = 8 ∧
      (∀ c : Chan, fieldAt x (12 * c.num) 12 = tempField ((finishRound raw s).ownTemp c)) ∧
      fieldAt x 48 12 = tempField (finishRound raw s).ambTemp ∧
      (s.line.queue.length ≤ 2 → (finishRound raw s).cmd = .empty) ∧
      (QueueBounded s.line → 4 ≤ s.line.queue.length → (finishRound raw s).cmd ≠ .empty) ∧
      (((finishRound raw s).cmd = .empty ∧
          ∃ before, (finishRound raw s).line.queue = before ++ [.answer ⟨asker, reqNo, .ok, x⟩]) ∨
        ((finishRound raw s).cmd = .held ⟨asker, reqNo, .ok, x⟩ ∧ 4 ≤ (finishRound raw s).line.queue.length)) := by
  have steady := roundChecked_steady raw s
  have after := congrArg Meas.measure (roundChecked_alarming raw s).meas
  have measure : (roundChecked raw s).meas.measure = s.meas.measure :=
    after.trans (congrArg Meas.measure (roundSensed_sensing raw s).meas :)
  obtain ⟨-, told⟩ := finishMeasure_answer (measure.trans serving) (steady.cmd.trans flying)
  obtain ⟨queued, held⟩ := told rfl (steady.noticing.mute.trans loud)
  obtain ⟨own, amb⟩ := measureResult_fields (roundChecked raw s)
  obtain ⟨line, cmd, phase, rest⟩ := finishMeasure_rest (roundChecked raw s)
  have ownTemps (c : Chan) : (finishMeasure (roundChecked raw s)).ownTemp c = (roundChecked raw s).ownTemp c := by rw [rest]; rfl
  have ambTemp : (finishMeasure (roundChecked raw s)).ambTemp = (roundChecked raw s).ambTemp := by rw [rest]; rfl
  rw [finishRound_eq, ambTemp]
  refine ⟨measureResult (roundChecked raw s), measureResult_length _, fun c => ?_, amb, fun room => ?_, fun bounded full => ?_, ?_⟩
  · rw [ownTemps, own c]
  · have grown := steady.noticing.length_le
    exact (queued (by omega)).1
  · rw [(held (steady.noticing.full bounded full)).1]
    exact nofun
  · by_cases room : (roundChecked raw s).line.queue.length < 4
    · obtain ⟨empty, queue⟩ := queued room
      exact .inl ⟨empty, _, queue⟩
    · obtain ⟨slot, queue⟩ := held (not_lt.mp room)
      exact .inr ⟨slot, by rw [queue]; exact not_lt.mp room⟩

/-- The slot of a MEASURE whose answer is not due or not sent. -/
theorem finishRound_discarded {raw : Nat} {s : State} {asker reqNo : Byte} {due : Bool} (serving : s.meas.measure = .serving)
    (flying : s.cmd = .inFlight .measure asker reqNo due) (untold : due = false ∨ s.station.mute = true) :
    (finishRound raw s).cmd = .empty := by
  have steady := roundChecked_steady raw s
  have after := congrArg Meas.measure (roundChecked_alarming raw s).meas
  have measure : (roundChecked raw s).meas.measure = s.meas.measure :=
    after.trans (congrArg Meas.measure (roundSensed_sensing raw s).meas :)
  refine (finishMeasure_answer (measure.trans serving) (steady.cmd.trans flying)).1 (untold.imp_right fun mute => ?_)
  exact steady.noticing.mute.trans mute

/-! ## The statement's parts -/

theorem finishRound_good (raw : Nat) {s : State} (span : GoodSpan s.meas) :
    (finishRound raw s).meas.refFault = false ∧ (finishRound raw s).hasCond .referenceFault none = false ∧
    (∀ c, s.enabled c = true → SensorSettled s.now
      (temperature s.meas.rawLo s.meas.rawHi (s.meas.rawWall.get c) (s.loader.image.trims.get c))
      (s.meas.wall.get c) ((finishRound raw s).meas.wall.get c)) ∧
    (∀ c, s.enabled c = false → (finishRound raw s).meas.wall.get c = s.meas.wall.get c) ∧
    SensorSettled s.now (temperature s.meas.rawLo s.meas.rawHi raw s.loader.image.trimAmb) s.meas.amb (finishRound raw s).meas.amb := by
  have read := finishRound_read raw s
  have sensors := roundSensed_good span raw
  refine ⟨read.refFault.trans sensors.refFault, (read.conds _).trans sensors.reference, fun c enabled => ?_, fun c disabled => ?_, ?_⟩
  · rw [read.wall, (sensors.walls c enabled).1]
    exact take_settled ..
  · rw [read.wall, (sensors.others c disabled).1]
  · rw [read.amb, sensors.amb]
    exact take_settled ..

theorem finishRound_bad (raw : Nat) {s : State} (span : ¬GoodSpan s.meas) :
    (finishRound raw s).meas.refFault = true ∧ (finishRound raw s).hasCond .referenceFault none = true ∧
    (∀ c, (finishRound raw s).meas.wall.get c = { s.meas.wall.get c with
      clear := 0, valid := if (s.meas.wall.get c).temp.isSome = true then min ((s.meas.wall.get c).valid + 1) 3 else 0 }) ∧
    (finishRound raw s).meas.amb = { s.meas.amb with
      clear := 0, valid := if s.meas.amb.temp.isSome = true then min (s.meas.amb.valid + 1) 3 else 0 } := by
  have read := finishRound_read raw s
  have sensors := roundSensed_bad span raw
  refine ⟨read.refFault.trans sensors.refFault, (read.conds _).trans sensors.reference, fun c => ?_, read.amb.trans sensors.amb⟩
  rw [read.wall]
  exact sensors.walls c

theorem finishRound_ambient (raw : Nat) (s : State) : (finishRound raw s).hasCond .ambientSensor none =
    (if GoodSpan s.meas then
      decide (temperature s.meas.rawLo s.meas.rawHi raw s.loader.image.trimAmb < -600 ∨
          2500 < temperature s.meas.rawLo s.meas.rawHi raw s.loader.image.trimAmb) ||
        (s.hasCond .ambientSensor none && !decide (s.meas.amb.cond ≠ none ∧ (finishRound raw s).meas.amb.cond = none))
    else s.hasCond .ambientSensor none) := by
  have read := finishRound_read raw s
  rw [read.conds, read.amb]
  split
  · rename_i span
    rw [(roundSensed_good span raw).ambient]
    exact congrArg (· || _) (Bool.eq_iff_iff.mpr ((outOfRange_iff _).2.2.trans decide_eq_true_iff.symm))
  · rename_i span
    exact (roundSensed_bad span raw).rest _ _ (by decide)

/-- A channel stopped by overtemperature: its lock list, and its output to the end of the half-cycle (R115, R117, R145). -/
theorem finishRound_stopped {raw : Nat} {s : State} {c : Chan} {v : Int} (own : (finishRound raw s).ownTemp c = some v)
    (exceeds : s.loader.image.tMax < v) (new : s.hasCond .overtemp (some c) = false)
    (serves : (s.chans.get c).state.inService = true) :
    ((s.chans.get c).trial ≠ none → ∀ k, k ∈ (finishRound raw s).fault.locks.get c ↔
      k ∈ s.fault.locks.get c ∨ k = .overtemp ∨ s.fault.tripCause.get c = some k) ∧
    ((finishRound raw s).burst.chans.get c).h = 0 ∧ ((finishRound raw s).burst.chans.get c).r = 0 ∧
    ((finishRound raw s).heaterPin c = true ↔ s.heaterPin c = true ∧
      ¬(s.burst.period = .running ∧ s.burst.idx = some 0 ∧ s.burst.lastEdge = some s.now)) := by
  obtain ⟨-, locked, output⟩ := finishRound_stops own exceeds new serves
  obtain ⟨h, r, out⟩ := ChanBurst.stopped_spec (s.burst.chans.get c) s.atPeriodStart s.now
  rw [State.heaterPin, output]
  refine ⟨fun trial k => ?_, h, r, out.trans (and_congr Iff.rfl (not_congr (atPeriodStart_iff s)))⟩
  rw [(locked trial).2.2, mem_joinLock, mem_joinCause]
  tauto

/-! ## The statement -/

/-- Settles O42. The sensors of the round come from `GoodRead` or `BadRead`, the alarms of each channel from its settled view, and
MEASURE reads the temperatures as those stages leave them. -/
theorem roundCompleteSettlesTemperatures : Obligations.RoundCompleteSettlesTemperatures := by
  unfold Obligations.RoundCompleteSettlesTemperatures
  intro raw limit e s converting now lo hi good
  obtain ⟨conv, chans, ended, converted⟩ := roundEnds_eq (raw := raw) converting
  have read := finishRound_read raw.toNat (roundOver s e conv chans)
  obtain ⟨tNow, station, budget, loader, peers, halt, pins⟩ := finishRound_kept raw.toNat (roundOver s e conv chans)
  obtain ⟨unserved, served⟩ := finishRound_measure raw.toNat (roundOver s e conv chans)
  refine ⟨finishRound raw.toNat (roundOver s e conv chans), congrArg _ ended, congrArg _ converted, tNow, read.roundOn,
    finishRound_good raw.toNat (s := roundOver s e conv chans), finishRound_bad raw.toNat (s := roundOver s e conv chans),
    ⟨fun c => ⟨?_, ?_⟩, finishRound_ambient raw.toNat (roundOver s e conv chans)⟩, fun idle => (unserved idle).1, served,
    fun c => ⟨fun blind => ?_, fun v own => ?_⟩,
    fun idle => (unserved idle).2, fun asker reqNo due serving flying => ⟨fun untold => ?_, fun told loud => ?_⟩,
    station, budget, loader, peers, halt, pins⟩
  · have short := finishRound_senses raw.toNat (roundOver s e conv chans) c .short
    rw [decide_eq_decide.mpr (outOfRange_iff _).1] at short
    exact short
  · have opened := finishRound_senses raw.toNat (roundOver s e conv chans) c .opened
    rw [decide_eq_decide.mpr (outOfRange_iff _).2.1] at opened
    exact opened
  · obtain ⟨conds, chan⟩ := finishRound_blind blind
    exact ⟨conds _ rfl, conds _ rfl, conds _ rfl, chan⟩
  · obtain ⟨hold, low, hot⟩ := finishRound_alarms own
    obtain ⟨cooled, warmed⟩ := finishRound_starts own
    refine ⟨hold, low, hot, fun exceeds new serves => ?_, cooled, warmed, fun running lasting unheld => ?_⟩
    · have service := (inService_iff _).mpr serves
      obtain ⟨trips, locked, -⟩ := finishRound_stops own exceeds new service
      obtain ⟨listed, output⟩ := finishRound_stopped own exceeds new service
      refine ⟨trips, fun trial => ?_, output⟩
      obtain ⟨chan, cause, -⟩ := locked trial
      exact ⟨chan, cause, listed trial⟩
    · exact finishRound_other own (fun h => running ⟨h.1, h.2.1, (inService_iff _).mp h.2.2⟩) lasting unheld
  · exact finishRound_discarded serving flying untold
  · subst told
    exact finishRound_answer serving flying loud

end Sys2Proof.Machine
end

section
/-! O59 fails at a period end that finds the index 0 and the period's length 1. The index is set back to 0 only after the closing and the
control step, so in such a state a channel that the closing trips for HEATER_OPEN stops at what the burst timer takes for a period start
(log 49): its output goes off there, which arms a new check in place of the one that was due, and the readback that differs is not
found. The alignment gives no length below 60, so no run comes to such a state; the statement speaks of every state. -/

namespace Sys2Proof.Machine

/-! ## The state and the edge -/

/-- A station RUNNING in the one half-cycle of a period of length 1, its contactor closed. Channel 0 is on with a check due since time 0,
and its measured period is the third with no current. -/
def openAtLengthOne : State :=
  { State.reset with
    now := 1000000
    loader := ⟨.passed, false, 0, { Image.blank with enables := .const true, iNom := .const 200 }, none⟩
    station := ⟨.running, false, none, none, 0⟩
    burst := { Burst.powerOn with
      period := .running, idx := some 0, len := 1, contactor := true
      chans := (Four.const ⟨0, 0, false, none⟩).set .c0 ⟨1, 0, true, some ⟨true, 0⟩⟩ }
    meas := { Meas.powerOn (.const 200) with
      chans := (Four.const (.powerOn 200)).set .c0 { ChanMeas.powerOn 200 with onCount := 1, onHalves := 8, openCount := 2 } } }

/-- An edge at which channel 0 reads back off, with the checks after the closing. -/
def offReadBack : EdgeIn := ⟨0, .const false, false, false, true⟩

theorem openAtLengthOne_meets :
    openAtLengthOne.halt.proc = .idle ∧ openAtLengthOne.station.state = .running ∧
    edgeAccepted (openAtLengthOne.advance offReadBack.dt) = true ∧ atPeriodEnd openAtLengthOne = true ∧
    (openAtLengthOne.burst.chans.get .c0).check = some ⟨true, 0⟩ ∧
    halfCycle openAtLengthOne.loader.image ≤ 2 * (openAtLengthOne.now + offReadBack.dt - 0) ∧ offReadBack.hr.get .c0 ≠ true := by
  decide

/-- The edge trips channel 0 and finds no readback that differs. -/
theorem openAtLengthOne_edge : ∃ t, exec (.zeroCrossEdge offReadBack) openAtLengthOne = .next t ∧
    (t.chans.get .c0).state = .tripped ∧ (t.burst.chans.get .c0).check = some ⟨false, 1000000⟩ ∧
    t.hasCond .outputReadback (some .c0) = false :=
  ⟨_, rfl, by decide, by decide, by decide⟩

/-! ## The statement -/

/-- Refutes O59: at the end of a period of length 1 the trip of an open heater takes the place of the readback check that is due, so
OUTPUT_READBACK is not raised. -/
theorem not_detectionsBeginTheHaltProcedure : ¬ Obligations.DetectionsBeginTheHaltProcedure := by
  unfold Obligations.DetectionsBeginTheHaltProcedure
  rintro ⟨halts, -⟩
  obtain ⟨idle, running, accepted, ends, armed, due, differs⟩ := openAtLengthOne_meets
  obtain ⟨-, -, -, readback⟩ := halts openAtLengthOne idle (.inr (.inl running))
  obtain ⟨-, atEnd⟩ := readback offReadBack .c0 ⟨true, 0⟩ accepted (fun first => by cases first) armed due differs (fun _ => rfl)
  obtain ⟨t, taken, -, found, -⟩ := atEnd ends fun _ c sticks => by cases c <;> cases sticks.2.1
  obtain ⟨u, taken', -, -, missed⟩ := openAtLengthOne_edge
  obtain rfl : u = t := by
    have same := taken'.symm.trans taken
    injection same
  cases missed.symm.trans found

end Sys2Proof.Machine
end

section
/-! A REPORT and a FAULT_NOTICE at the peer table: discarded, taken or refused (O36). -/

namespace Sys2Proof.Machine

/-! ## Frames at the peer table (R70, R73) -/

theorem stationStateOf_none {n : Nat} (h : n = 0 ∨ 5 < n) : stationStateOf n = none := by
  rcases h with rfl | h
  · rfl
  · obtain ⟨k, rfl⟩ : ∃ k, n = k + 6 := ⟨n - 6, by omega⟩
    rfl

/-- A code that names nothing makes a REPORT unreadable (R70). -/
theorem readReport_none {p : List Byte} (h : fieldAt p 19 3 = 0 ∨ 5 < fieldAt p 19 3 ∨ fieldAt p 22 2 = 3) : readReport p = none := by
  unfold readReport
  split
  · rcases or_assoc.mpr h with state | flow
    · rw [stationStateOf_none state]
    · rw [flow]
      cases stationStateOf (fieldAt p 19 3) <;> rfl
  · rfl

theorem readNotice_none {p : List Byte} (h : fieldAt p 13 3 = 0 ∨ 5 < fieldAt p 13 3) : readNotice p = none := by
  unfold readNotice
  rw [stationStateOf_none h, Option.map_none, ite_self]

theorem findPeer_eq_none {id : Nat} {l : List Peer} : findPeer id l = none ↔ ∀ p ∈ l, p.id ≠ id := by
  simp [findPeer]

theorem strangeId_iff (id : Nat) : strangeId id = true ↔ id = 0 ∨ 239 < id := decide_eq_true_iff

section
variable {f : RxFrame} {s : State} (other : f.c1.toNat ≠ s.loader.image.id)
include other

theorem peerReport_discarded (h : strangeId f.c1.toNat = true ∨ readReport f.payload = none) : peerReport f s = s := by
  unfold peerReport
  dsimp only
  rw [if_neg other]
  rcases h with strange | unread
  · rw [if_pos strange]
  · rw [unread, ite_self]

section
variable (known : strangeId f.c1.toNat = false) {r : ReportFields} (read : readReport f.payload = some r)
include known read

/-- A REPORT read writes the table where it finds its entry, room or a victim (R71, R74, R75). -/
theorem peerReport_taken {l : List Peer} (taken : takeReport s.loader.image s.now f.stamp f.c1.toNat r s.peers.entries = some l) :
    peerReport f s = reportTaken f.c1.toNat r l s := by
  unfold peerReport
  dsimp only
  rw [if_neg other, known, read]
  dsimp only
  rw [taken]
  rfl

/-- A REPORT refused by the table raises FEEDER_CROWDED on the own feeder (R75). -/
theorem peerReport_refused (refused : takeReport s.loader.image s.now f.stamp f.c1.toNat r s.peers.entries = none) :
    peerReport f s = if r.feeder = s.loader.image.feeder then occur ⟨.feederCrowded, none, none⟩ s else s := by
  unfold peerReport
  dsimp only
  rw [if_neg other, known, read]
  dsimp only
  rw [refused]
  rfl

end

theorem peerNotice_discarded
    (h : strangeId f.c1.toNat = true ∨ readNotice f.payload = none ∨ findPeer f.c1.toNat s.peers.entries = none) : peerNotice f s = s := by
  unfold peerNotice
  dsimp only
  rw [if_neg other]
  rcases h with strange | unread | unknown
  · rw [if_pos strange]
  · rw [unread, ite_self]
  · rw [unknown]
    cases readNotice f.payload <;> exact ite_self _

theorem peerNotice_read (known : strangeId f.c1.toNat = false) {n : NoticeFields} (read : readNotice f.payload = some n) {p : Peer}
    (found : findPeer f.c1.toNat s.peers.entries = some p) : peerNotice f s = noticeTaken f.c1.toNat n p s := by
  unfold peerNotice
  dsimp only
  rw [if_neg other, known, read, found]
  rfl

end

theorem exec_report {dt : Nat} {wave : List Bool} {f : RxFrame} {s : State} (h : Arrives dt wave .report f s) :
    exec (.report dt wave) s = .next (peerReport f (frameEnded dt wave s)) :=
  congrArg Host.Outcome.next (frameEvent_of_arrives h peerReport)

theorem exec_faultNotice {dt : Nat} {wave : List Bool} {f : RxFrame} {s : State} (h : Arrives dt wave .notice f s) :
    exec (.faultNotice dt wave) s = .next (peerNotice f (frameEnded dt wave s)) :=
  congrArg Host.Outcome.next (frameEvent_of_arrives h peerNotice)

/-- Settles O36. -/
theorem otherFramesAtThePeerTable : Obligations.OtherFramesAtThePeerTable := by
  unfold Obligations.OtherFramesAtThePeerTable
  refine ⟨fun dt wave f s other => ⟨fun h bad => ?_, fun h bad => ?_⟩, fun dt wave f n p s h => ?_⟩
  · rw [exec_report h, peerReport_discarded (s := frameEnded dt wave s) other]
    rcases or_assoc.mpr bad with strange | code
    · exact .inl ((strangeId_iff _).mpr strange)
    · exact .inr (readReport_none code)
  · rw [exec_faultNotice h, peerNotice_discarded (s := frameEnded dt wave s) other]
    rcases or_assoc.mpr bad with strange | rest
    · exact .inl ((strangeId_iff _).mpr strange)
    · rcases or_assoc.mpr rest with code | unknown
      · exact .inr (.inl (readNotice_none code))
      · exact .inr (.inr (findPeer_eq_none.mpr unknown))
  · intro id low high other read found
    have known : strangeId id = false := by simp [strangeId]; omega
    rw [exec_faultNotice h, peerNotice_read (s := frameEnded dt wave s) other known read found, noticeTaken]
    by_cases own : p.feeder = s.loader.image.feeder
    · rw [if_pos own]
      exact congrArg Host.Outcome.next (if_pos (decide_eq_true own))
    · rw [if_neg own]
      have away : onFeeder s.loader.image p = false := decide_eq_false own
      exact congrArg Host.Outcome.next (if_neg (Bool.eq_false_iff.mp away))

end Sys2Proof.Machine
end

section
/-! The peer table keeps its size, order and distinct ids (O40). The order is of the entries' seats, their positions and ids: most
effects leave the seats as they are, and a REPORT and a removal are the table's own operations. -/

namespace Sys2Proof.Machine

/-! ## Seats: what the order and the distinctness of the entries read (R69) -/

/-- What the table's order reads of an entry. -/
def Peer.seat (p : Peer) : Nat × Nat := (p.position, p.id)

/-- The seats of the entries, in table order. -/
def PeerTable.seats (p : PeerTable) : List (Nat × Nat) := p.entries.map Peer.seat

/-- The part of the table's invariant that its entries carry alone. -/
structure TableOrdered (own : Nat) (l : List Peer) : Prop where
  size : l.length ≤ 16
  order : l.Pairwise fun a b => a.before b = true
  ids : l.Pairwise fun a b => a.id ≠ b.id
  range : ∀ p ∈ l, 1 ≤ p.id ∧ p.id ≤ 239 ∧ p.id ≠ own

theorem peersOrdered_iff (s : State) : PeersOrdered s ↔
    TableOrdered s.loader.image.id s.peers.entries ∧ (s.active = false → s.peers.entries = []) :=
  ⟨fun h => ⟨⟨h.size, h.order, h.ids, h.range⟩, h.empty⟩, fun ⟨h, empty⟩ => ⟨h.size, h.order, h.ids, h.range, empty⟩⟩

/-- An active station's table needs to be ordered and no more. -/
theorem PeersOrdered.of_table {s : State} (act : s.active = true) (h : TableOrdered s.loader.image.id s.peers.entries) : PeersOrdered s :=
  (peersOrdered_iff s).mpr ⟨h, fun idle => by rw [act] at idle; cases idle⟩

/-- An empty table is in order. -/
theorem PeersOrdered.of_empty {s : State} (h : s.peers.entries = []) : PeersOrdered s := by
  constructor <;> simp [h]

/-- The order is of the seats alone. -/
theorem TableOrdered.of_seats {own : Nat} {l m : List Peer} (h : TableOrdered own l)
    (e : m.map Peer.seat = l.map Peer.seat) : TableOrdered own m where
  size := by
    have length := congrArg List.length e
    simp only [List.length_map] at length
    exact length ▸ h.size
  order := by
    have seated : ∀ l : List Peer, (l.Pairwise fun a b => a.before b = true) ↔
        (l.map Peer.seat).Pairwise fun a b => a.1 < b.1 ∨ (a.1 = b.1 ∧ a.2 < b.2) := fun l => by
      simp [List.pairwise_map, Peer.before, Peer.seat]
    rw [seated, e, ← seated]
    exact h.order
  ids := by
    have seated : ∀ l : List Peer, (l.Pairwise fun a b => a.id ≠ b.id) ↔
        (l.map Peer.seat).Pairwise fun a b => a.2 ≠ b.2 := fun l => by simp [List.pairwise_map, Peer.seat]
    rw [seated, e, ← seated]
    exact h.ids
  range p hp := by
    have seat : p.seat ∈ l.map Peer.seat := e ▸ List.mem_map_of_mem hp
    obtain ⟨q, hq, same⟩ := List.mem_map.mp seat
    have id : q.id = p.id := congrArg Prod.snd same
    exact id ▸ h.range q hq

/-- What leaves the seats, the configuration and an active station as they are keeps the table's invariant. -/
theorem PeersOrdered.of_seats {s t : State} (h : PeersOrdered s) (e : t.peers.seats = s.peers.seats)
    (image : t.loader.image = s.loader.image) (act : s.active = true → t.active = true) : PeersOrdered t := by
  obtain ⟨table, empty⟩ := (peersOrdered_iff s).mp h
  refine (peersOrdered_iff t).mpr ⟨image ▸ table.of_seats e, fun idle => ?_⟩
  have idle' : s.active = false := by
    by_contra running
    rw [act (by simpa using running)] at idle
    cases idle
  have none : t.peers.seats = [] := by rw [e, PeerTable.seats, empty idle', List.map_nil]
  exact List.map_eq_nil_iff.mp none

/-! ## The station stays configured (R2, R8) -/

theorem active_of_state {s t : State} (e : t.station.state = s.station.state) : t.active = s.active := by rw [State.active, State.active, e]

/-- What halts or stays is as active as before. -/
theorem Keeps.active {h : Prop} {s t : State} (k : Keeps h s t) : t.active = s.active := by
  rcases k.moves with e | ⟨-, serves, e⟩
  · exact active_of_state e
  · rw [State.active, State.active, e]
    cases hs : s.station.state <;> simp_all [StationState.serves]

/-- A frame taken by the command unit leaves no station unconfigured. -/
theorem requestMoves.active {s t : State} (m : requestMoves s.station.state t.station.state) (h : s.active = true) :
    t.active = true := by
  simp only [State.active, decide_eq_true_eq] at h ⊢
  rcases m with e | ⟨-, e⟩ | ⟨-, e⟩ <;> simp [e, h]

theorem frameEvent_active {act : RxFrame → State → State} (hact : ∀ f t, t.active = true → (act f t).active = true) (dt : Nat)
    (wave : List Bool) (want : FrameEnd) {s : State} (h : s.active = true) : (frameEvent dt wave want act s).active = true := by
  rcases frameEvent_cases dt wave want act s with e | ⟨f, crc, -, -, e⟩ <;> rw [e]
  · exact h
  · exact hact f _ h

theorem requestEvent_active (dt : Nat) (wave : List Bool) (want : FrameEnd) {s : State} (h : s.active = true) :
    (requestEvent dt wave want s).active = true := by
  refine frameEvent_active (fun f t ht => ?_) dt wave want h
  unfold dispatchRequest
  split
  · exact ht
  · exact (takeRequest_moves f t).active ht

theorem peerReport_active (f : RxFrame) {s : State} (h : s.active = true) : (peerReport f s).active = true := by
  rcases peerReport_cases (h := False) f s with e | k | ⟨-, -, running⟩
  · exact e ▸ (duplicateId_moves s).active h
  · exact k.active.trans h
  · simp [State.active, running]

theorem peerNotice_active (f : RxFrame) {s : State} (h : s.active = true) : (peerNotice f s).active = true := by
  rcases peerNotice_cases (h := False) f s with e | k
  · exact e ▸ (duplicateId_moves s).active h
  · exact k.active.trans h

theorem loadImage_active (bytes : List Byte) {s : State} (h : s.active = true) : (loadImage bytes s).active = true := by
  rcases loadImage_state bytes s with e | e
  · simp [State.active, e]
  · exact (active_of_state e).trans h

/-- Only the supply makes a station unconfigured (R2). -/
theorem effect_active {c : Instr} {s : State} (hon : c ≠ .powerOn) (hoff : c ≠ .supplyFailure) (h : s.active = true) :
    (effect c s).active = true := by
  cases c
  case powerOn => exact absurd rfl hon
  case supplyFailure => exact absurd rfl hoff
  case configReadComplete dt bytes =>
    simp only [effect]
    split
    · exact loadImage_active bytes h
    · exact h
  case configPortRefusal dt =>
    simp only [effect]
    split <;> exact h
  case configReadTimeout =>
    simp only [effect, readTimeout]
    (repeat' split) <;> exact h
  case listenIntervalExpiry =>
    rcases listenEnds_state s with e | ⟨-, e⟩
    · exact (active_of_state e).trans h
    · simp [effect, State.active, e]
  case isolationTimeoutExpiry =>
    rcases isolationEnds_state s with e | ⟨-, e⟩
    · exact (active_of_state e).trans h
    · simp [effect, State.active, e]
  case lineIdle => exact (lineIdle_keeps (h := True) _).active.trans h
  case frameStart => exact (frameStart_keeps (h := True) _).active.trans h
  case frameC0Check => exact (checkC0_keeps (h := True) _).active.trans h
  case framePrefilter => exact (prefilter_keeps (h := True) _).active.trans h
  case framingError => exact (framingError_keeps (h := True) _).active.trans h
  case skippedFrameEnd => exact (skippedEnd_keeps (h := True) _).active.trans h
  case frameBadCrc | completedFrameLost | answer => exact frameEvent_active (fun _ _ ht => by exact ht) _ _ _ h
  case report => exact frameEvent_active (fun f _ => peerReport_active f) _ _ _ h
  case faultNotice => exact frameEvent_active (fun f _ => peerNotice_active f) _ _ _ h
  case transmitStart => exact (transmitHead_keeps (h := True) _).active.trans h
  case arbitrationLost dt bit => exact (loseArbitration_keeps (h := True) bit _).active.trans h
  case bitError dt bit dominant => exact (takeBitError_keeps (h := True) bit dominant _).active.trans h
  case transmitComplete dt residual => exact (transmitEnds_moves residual (s.advance dt)).active h
  case reportTimerExpiry => exact (reportDue_keeps (h := True) s).active.trans h
  case staleExpiry id => exact (staleEnds_keeps (h := True) id s).active.trans h
  case lostExpiry id => exact (lostEnds_keeps (h := True) id s).active.trans h
  case removalExpiry id => exact (removalEnds_keeps (h := True) id s).active.trans h
  case flowInputChange dt low => exact (flowInput_keeps (h := True) low _).active.trans h
  case flowDebounceExpiry => exact (flowSettles_keeps (h := True) s).active.trans h
  case roundTimerExpiry => exact (roundTick_keeps (h := True) s).active.trans h
  case conversionEnd raw =>
    rcases conversionEnds_cases (h := True) raw s with k | ⟨-, -, e⟩
    · exact k.active.trans h
    · simp [effect, State.active, e]
  case roundComplete raw => exact (roundEnds_keeps (h := True) raw s).active.trans h
  case temperatureAgeExpiry sensor => exact (ageExpires_keeps (h := True) sensor s).active.trans h
  case halfCycleMidpoint residual => exact (midpoint_keeps (h := True) residual s).active.trans h
  case checkRequestTimeout c => exact (checkTimesOut_keeps (h := True) c s).active.trans h
  case zeroCrossEdge e => exact (edge_keeps (h := True) trivial (edgeAccepted (s.advance e.dt)) e s).active.trans h
  case periodEnd e => exact (edge_keeps (h := True) trivial (edgeAccepted (s.advance e.dt) && atPeriodEnd s) e s).active.trans h
  case mainsLost residual => exact (mainsEnds_keeps (h := True) residual s).active.trans h
  case slotChoiceIntervalExpiry => exact (slotChoiceEnds_keeps (h := True) s).active.trans h
  case holdExpiry c => exact (holdEnds_keeps (h := True) c s).active.trans h
  case recloseTimerExpiry c => exact (recloseEnds_keeps (h := True) c s).active.trans h
  case trialTimerExpiry c => exact (trialEnds_keeps (h := True) c s).active.trans h
  case cleanPeriodExpiry c => exact (cleanEnds_keeps (h := True) c s).active.trans h
  case leakageWatchExpiry => exact (watchEnds_keeps (h := True) trivial s).active.trans h
  case confirmationCountEnd => exact (countEnds_keeps (h := True) s).active.trans h
  case confirmationTimerExpiry residual => exact (confirmEnds_keeps (h := True) residual s).active.trans h
  case resetTrip dt residual wave => exact requestEvent_active dt wave _ (s := s.showResidual residual) h
  all_goals exact requestEvent_active _ _ _ h

/-! ## What leaves the seats as they are -/

/-- The phase differences are no part of a seat (R83). -/
@[simp] theorem clearPhases_seats (s : State) : (clearPhases s).peers.seats = s.peers.seats := by
  simp [clearPhases, PeerTable.seats, Peer.seat]

@[simp] theorem setFlow_seats (s : State) : (setFlow s).peers.seats = s.peers.seats := by
  unfold setFlow
  split <;> rfl

@[simp] theorem controlStep_seats (s : State) : (controlStep s).peers.seats = s.peers.seats := by
  rw [controlStep_peers, setFlow_seats]

theorem closeAndStep_seats (closeFirst : Bool) (s : State) : (closeAndStep closeFirst s).peers.seats = s.peers.seats := by
  rw [closeAndStep_peers, setFlow_seats]

theorem periodWork_seats (e : EdgeIn) (s : State) : (periodWork e s).peers.seats = s.peers.seats := by
  have ended : ∀ t, (endPeriod e.closeFirst t).peers.seats = t.peers.seats := fun t => by
    simp [endPeriod, closeAndStep_seats, alignment]
  unfold periodWork
  split <;> simp [ended]

theorem nextHalfCycle_seats (s : State) : (nextHalfCycle s).peers.seats = s.peers.seats := by
  have begun : ∀ t, (beginPeriod t).peers.seats = t.peers.seats := fun t => by
    unfold beginPeriod
    split <;> simp
  unfold nextHalfCycle
  split <;> simp [begun]

theorem takeEdge_seats (e : EdgeIn) (s : State) : (takeEdge e s).peers.seats = s.peers.seats := by
  unfold takeEdge settleHalfCycle
  split <;> simp [periodWork_seats, nextHalfCycle_seats]

theorem loseMains_seats (s : State) : (loseMains s).peers.seats = s.peers.seats := by
  simp [loseMains, abandonPeriod, abandonSamples, zeroShare]

theorem takeRestart_seats (f : RxFrame) (s : State) : (takeRestart f s).peers.seats = s.peers.seats := by
  rw [takeRestart_eq, enterListening_peers, restarted_blocks]
  simp [PeerTable.seats, Peer.seat, restartBlocks, PeerTable.restart]

/-- Of the requests RESTART alone touches the table, and only its phase differences (R83). -/
theorem takeRequest_seats (f : RxFrame) (s : State) : (takeRequest f s).peers.seats = s.peers.seats := by
  have carried : ∀ r, (carryOut r f s).peers.seats = s.peers.seats := fun r => by
    cases r
    case restart => exact takeRestart_seats f s
    all_goals simp [carryOut]
  unfold takeRequest
  (repeat' split) <;> simp [carried]

theorem takeSlot_seats (s : State) : (takeSlot s).peers.seats = s.peers.seats := by
  unfold takeSlot
  (repeat' split)
  · rfl
  · exact takeRequest_seats _ _
  · rfl

theorem frameEvent_seats {act : RxFrame → State → State} (hact : ∀ f s, (act f s).peers.seats = s.peers.seats) (dt : Nat)
    (wave : List Bool) (want : FrameEnd) (s : State) : (frameEvent dt wave want act s).peers.seats = s.peers.seats :=
  frameEvent_keeps (fun s => s.peers.seats) (fun _ _ _ => rfl) (fun _ _ => rfl) hact dt wave want s

theorem requestEvent_seats (dt : Nat) (wave : List Bool) (want : FrameEnd) (s : State) :
    (requestEvent dt wave want s).peers.seats = s.peers.seats := by
  refine frameEvent_seats (fun f t => ?_) dt wave want s
  unfold dispatchRequest
  split
  · rfl
  · exact takeRequest_seats f t

theorem duplicateId_seats (s : State) : (duplicateId s).peers.seats = s.peers.seats := by
  have noted : (duplicateId s).peers = (setMute s).peers := by simp [duplicateId]
  rw [noted, setMute_eq]
  (repeat' split)
  · rfl
  · exact takeSlot_seats (muted s)
  · rfl

theorem completeHead_seats (residual : Nat) (s : State) : (completeHead residual s).peers.seats = s.peers.seats := by
  unfold completeHead
  (repeat' split)
  · simp [takeSlot_seats]
  · simp
  · rfl

/-- A change in place that keeps the seat of the one entry. -/
theorem modPeer_seats {id : Nat} {f : Peer → Peer} {l : List Peer}
    (hf : ∀ p ∈ l, p.id = id → (f p).seat = p.seat) : (modPeer id f l).map Peer.seat = l.map Peer.seat := by
  rw [modPeer, List.map_map]
  refine List.map_congr_left fun p hp => ?_
  by_cases e : p.id = id
  · simp [e, hf p hp e]
  · simp [e]

/-! ## The table's own events (R70 to R77) -/

@[simp] theorem putEntries_entries (l : List Peer) (s : State) : (putEntries l s).peers.entries = l := by rw [putEntries_eq]

@[simp] theorem putEntries_seats (l : List Peer) (s : State) : (putEntries l s).peers.seats = l.map Peer.seat := by
  rw [PeerTable.seats, putEntries_entries]

/-- A change of age keeps the seat (R76). -/
theorem staleEnds_seats (id : Nat) (s : State) : (staleEnds id s).peers.seats = s.peers.seats := by
  unfold staleEnds
  (repeat' split)
  · exact (putEntries_seats _ _).trans (modPeer_seats fun _ _ _ => rfl)
  · rfl
  · rfl

theorem lostEnds_seats (id : Nat) (s : State) : (lostEnds id s).peers.seats = s.peers.seats := by
  unfold lostEnds
  (repeat' split)
  · exact (putEntries_seats _ _).trans (modPeer_seats fun _ _ _ => rfl)
  · rfl
  · rfl

/-- A FAULT_NOTICE writes neither position nor id (R73). -/
theorem noticeTaken_seats (id : Nat) (n : NoticeFields) (p : Peer) (s : State) :
    (noticeTaken id n p s).peers.seats = s.peers.seats := by
  have written : (takeNotice s.now id n s.peers.entries).map Peer.seat = s.peers.seats :=
    modPeer_seats fun _ _ _ => rfl
  unfold noticeTaken
  dsimp only
  split <;> simpa [PeerTable.seats] using written

theorem peerNotice_seats (f : RxFrame) (s : State) : (peerNotice f s).peers.seats = s.peers.seats := by
  unfold peerNotice
  dsimp only
  (repeat' split)
  · exact duplicateId_seats s
  · rfl
  · exact noticeTaken_seats _ _ _ s
  · rfl

/-- A removal leaves the others as they stand (R77). -/
theorem TableOrdered.remove {own : Nat} {l : List Peer} (h : TableOrdered own l) (id : Nat) : TableOrdered own (removePeer id l) where
  size := (List.length_filter_le _ _).trans h.size
  order := h.order.filter _
  ids := h.ids.filter _
  range p hp := h.range p ((mem_removePeer id p l).mp hp).1

/-- A newcomer with an id of its own takes its place where there is room (R69, R74). -/
theorem TableOrdered.insert {own : Nat} {l : List Peer} (h : TableOrdered own l) {p : Peer} (room : l.length < 16)
    (new : ∀ q ∈ l, q.id ≠ p.id) (range : 1 ≤ p.id ∧ p.id ≤ 239 ∧ p.id ≠ own) : TableOrdered own (insertPeer p l) where
  size := by rw [length_insertPeer]; omega
  order := insertPeer_sorted p h.order new
  ids := insertPeer_distinct p h.ids new
  range q hq := by
    rcases (mem_insertPeer p q l).mp hq with rfl | hq
    · exact range
    · exact h.range q hq

theorem victim_mem {img : Image} {feeder position : Nat} {l : List Peer} {v : Peer} (h : victim img feeder position l = some v) :
    v ∈ l := by
  unfold victim at h
  dsimp only at h
  split at h
  · rename_i p lost
    cases h
    exact (List.mem_filter.mp (pickPeer_mem lost)).1
  · split at h
    · rename_i p far
      split at h
      · cases h
        exact (List.mem_filter.mp (pickPeer_mem far)).1
      · cases h
    · cases h

theorem writtenPeer_seat (img : Image) (now : Nat) (stamp : Option Nat) (id : Nat) (r : ReportFields) (d : Option Nat) :
    (writtenPeer img now stamp id r d).seat = (r.position, id) := by
  rw [writtenPeer_eq]
  rfl

/-- A REPORT finds its entry or room, displaces an entry, or is refused (R71, R74, R75). -/
theorem takeReport_cases {img : Image} {now : Nat} {stamp : Option Nat} {id : Nat} {r : ReportFields} {old new : List Peer}
    (h : takeReport img now stamp id r old = some new) :
    (∃ p, findPeer id old = some p ∧ p.position = r.position ∧
      new = modPeer id (fun p => writtenPeer img now stamp id r p.delta) old) ∨
    (∃ p, findPeer id old = some p ∧ new = insertPeer (writtenPeer img now stamp id r none) (removePeer id old)) ∨
    (findPeer id old = none ∧ old.length < 16 ∧ new = insertPeer (writtenPeer img now stamp id r none) old) ∨
    (findPeer id old = none ∧ ∃ v ∈ old, new = insertPeer (writtenPeer img now stamp id r none) (removePeer v.id old)) := by
  unfold takeReport at h
  dsimp only at h
  split at h
  · rename_i p known
    split at h
    · rename_i same
      cases h
      exact .inl ⟨p, known, same.2, rfl⟩
    · cases h
      exact .inr (.inl ⟨p, known, rfl⟩)
  · rename_i unknown
    split at h
    · rename_i room
      cases h
      exact .inr (.inr (.inl ⟨unknown, room, rfl⟩))
    · obtain ⟨v, chosen, e⟩ := Option.map_eq_some_iff.mp h
      exact .inr (.inr (.inr ⟨unknown, v, victim_mem chosen, e.symm⟩))

theorem takeReport_ordered {img : Image} {now : Nat} {stamp : Option Nat} {id own : Nat} {r : ReportFields} {old new : List Peer}
    (h : TableOrdered own old) (range : 1 ≤ id ∧ id ≤ 239 ∧ id ≠ own) (taken : takeReport img now stamp id r old = some new) :
    TableOrdered own new := by
  have written : (writtenPeer img now stamp id r none).id = id := congrArg Prod.snd (writtenPeer_seat img now stamp id r none)
  have freed : ∀ {v : Peer}, v ∈ old → (removePeer v.id old).length < 16 := fun hv => by
    have shorter := length_removePeer h.ids hv
    have size := h.size
    omega
  rcases takeReport_cases taken with ⟨p, known, place, rfl⟩ | ⟨p, known, rfl⟩ | ⟨unknown, room, rfl⟩ | ⟨unknown, v, hv, rfl⟩
  · obtain ⟨hp, rfl⟩ := findPeer_some known
    refine h.of_seats (modPeer_seats fun q hq e => ?_)
    obtain rfl := peer_eq_of_id h.ids hp hq e
    rw [writtenPeer_seat, ← place]
    rfl
  · obtain ⟨hp, rfl⟩ := findPeer_some known
    exact (h.remove _).insert (freed hp) (fun q hq => by rw [written]; exact ((mem_removePeer _ q old).mp hq).2) (by rwa [written])
  · exact h.insert room (fun q hq => by rw [written]; exact findPeer_none unknown q hq) (by rwa [written])
  · exact (h.remove _).insert (freed hv)
      (fun q hq => by rw [written]; exact findPeer_none unknown q ((mem_removePeer _ q old).mp hq).1) (by rwa [written])

theorem peerReport_ordered (f : RxFrame) {s : State} (h : PeersOrdered s) (act : s.active = true) : PeersOrdered (peerReport f s) := by
  have stays := peerReport_active f act
  have loader : (peerReport f s).loader = s.loader := by simp
  have seated : (peerReport f s).peers.seats = s.peers.seats → PeersOrdered (peerReport f s) := fun e =>
    h.of_seats e (by rw [loader]) fun _ => stays
  by_cases own : f.c1.toNat = s.loader.image.id
  · exact seated (by rw [peerReport_own own, duplicateId_seats])
  cases known : strangeId f.c1.toNat with
  | true => exact seated (by rw [peerReport_discarded own (.inl known)])
  | false =>
    cases read : readReport f.payload with
    | none => exact seated (by rw [peerReport_discarded own (.inr read)])
    | some r =>
      cases taken : takeReport s.loader.image s.now f.stamp f.c1.toNat r s.peers.entries with
      | none =>
        refine seated ?_
        rw [peerReport_refused own known read taken]
        split <;> simp
      | some l =>
        refine .of_table stays ?_
        rw [loader, peerReport_taken own known read taken, (reportTaken_rest ..).1]
        refine takeReport_ordered ((peersOrdered_iff s).mp h).1 ⟨?_, ?_, own⟩ taken <;> simp [strangeId] at known <;> omega

theorem removalEnds_ordered (id : Nat) {s : State} (h : PeersOrdered s) : PeersOrdered (removalEnds id s) := by
  obtain ⟨table, empty⟩ := (peersOrdered_iff s).mp h
  unfold removalEnds
  split
  · rename_i p found
    have act : s.active = true := by
      by_contra idle
      have none := (findPeer_some found).1
      simp [empty (by simpa using idle)] at none
    refine .of_table ((putEntries_keeps (h := False) _ _).active.trans act) ?_
    simpa using table.remove id
  · exact h

/-! ## Every effect -/

/-- The commands at which the entries may change their places: a REPORT, a removal, the supply and a load. -/
def seatsStand : Instr → Bool
  | .report _ _ => false
  | .removalExpiry _ => false
  | .powerOn => false
  | .supplyFailure => false
  | .configReadComplete _ _ => false
  | _ => true

theorem effect_seats {c : Instr} (h : seatsStand c = true) (s : State) : (effect c s).peers.seats = s.peers.seats := by
  cases c
  case report | removalExpiry | powerOn | supplyFailure | configReadComplete => cases h
  case faultNotice => exact frameEvent_seats peerNotice_seats _ _ _ s
  case frameBadCrc | completedFrameLost | answer => exact frameEvent_seats (fun _ _ => by rfl) _ _ _ s
  case staleExpiry id => exact staleEnds_seats id s
  case lostExpiry id => exact lostEnds_seats id s
  case configPortRefusal | configReadTimeout | listenIntervalExpiry | isolationTimeoutExpiry =>
    simp only [effect, readTimeout, listenEnds, isolationEnds]
    (repeat' split) <;> simp
  case lineIdle | frameStart | frameC0Check | framePrefilter | framingError | skippedFrameEnd =>
    simp only [effect, lineIdle, frameStart, checkC0, prefilter, framingError, skippedEnd]
    (repeat' split) <;> simp
  case transmitStart | arbitrationLost | bitError | transmitComplete | reportTimerExpiry =>
    simp only [effect, loseArbitration, takeBitError, transmitEnds, reportDue]
    (repeat' split) <;> simp [completeHead_seats]
  case flowInputChange | flowDebounceExpiry =>
    simp only [effect, flowInput, restartDebounce, flowSettles]
    (repeat' split) <;> rfl
  case roundTimerExpiry | conversionEnd | roundComplete | temperatureAgeExpiry | halfCycleMidpoint | checkRequestTimeout =>
    simp only [effect, roundTick, conversionEnds, roundEnds, ageExpires, midpoint, checkTimesOut]
    (repeat' split) <;> simp
  case zeroCrossEdge | periodEnd =>
    simp only [effect]
    split <;> simp [takeEdge_seats]
  case mainsLost | slotChoiceIntervalExpiry =>
    simp only [effect, mainsEnds, slotChoiceEnds]
    (repeat' split) <;> simp [loseMains_seats]
  case holdExpiry | recloseTimerExpiry | trialTimerExpiry | cleanPeriodExpiry =>
    simp only [effect, holdEnds, recloseEnds, trialEnds, cleanEnds]
    (repeat' split) <;> simp
  case leakageWatchExpiry | confirmationCountEnd | confirmationTimerExpiry =>
    simp only [effect, watchEnds, countEnds, confirmEnds]
    (repeat' split) <;> simp
  case resetTrip dt residual wave => exact requestEvent_seats dt wave _ (s.showResidual residual)
  all_goals exact requestEvent_seats _ _ _ s

/-- A load finds a table with no entries: the station is unconfigured while it runs (R8). -/
theorem configRead_ordered (dt : Nat) (bytes : List Byte) {s : State} (h : PeersOrdered s)
    (loaded : s.loader.status = .passed ↔ s.active = true) : PeersOrdered (effect (.configReadComplete dt bytes) s) := by
  simp only [effect]
  split
  · rename_i loading
    have idle : s.active = false := by
      have unpassed : s.loader.status ≠ .passed := fun e => by rw [loading_of_passed e] at loading; cases loading
      simpa using fun act => unpassed (loaded.mpr act)
    refine .of_empty ?_
    unfold loadImage
    split
    · rw [enterListening_peers]
      exact h.empty idle
    · exact h.empty idle
  · exact h.of_seats rfl rfl id

/-- Every effect keeps the peer table in order (R68, R69). -/
theorem effect_ordered (c : Instr) {s : State} (h : PeersOrdered s) (loaded : s.loader.status = .passed ↔ s.active = true) :
    PeersOrdered (effect c s) := by
  cases hc : seatsStand c with
  | true =>
    have image : (effect c s).loader.image = s.loader.image := by
      cases c
      case powerOn | supplyFailure | configReadComplete => cases hc
      case configPortRefusal | configReadTimeout =>
        simp only [effect, readTimeout]
        (repeat' split) <;> rfl
      all_goals exact congrArg Loader.image (effect_frame rfl s).2
    exact h.of_seats (effect_seats hc s) image (effect_active (by rintro rfl; cases hc) (by rintro rfl; cases hc))
  | false =>
    cases c
    case powerOn | supplyFailure => exact .of_empty rfl
    case configReadComplete dt bytes => exact configRead_ordered dt bytes h loaded
    case removalExpiry id => exact removalEnds_ordered id h
    case report dt wave =>
      rcases frameEvent_cases dt wave .report peerReport s with e | ⟨f, crc, ended, named, e⟩
      · rw [effect, e]
        exact h.of_seats rfl rfl id
      · rw [effect, e]
        exact peerReport_ordered f (h.of_seats rfl rfl id) (active_of_arrives (s := s) ⟨crc, ended, named⟩)
    all_goals cases hc

/-- Settles O40. -/
theorem peersOrderedAfterEveryStep : Obligations.PeersOrderedAfterEveryStep := by
  unfold Obligations.PeersOrderedAfterEveryStep
  intro s t h loaded taken
  cases hp : s.pending with
  | nil =>
    obtain rfl : s = t := by simpa [step, hp] using taken
    exact h
  | cons c rest =>
    rw [step_effect hp taken]
    exact effect_ordered c (h.of_seats rfl rfl id) loaded

end Sys2Proof.Machine
end

section
/-! The choices of an entry, each the best of a list in an order of entries: the neighbours and the adopted flow status (O39), and the
entry that a newcomer displaces from a full table (O35). -/

namespace Sys2Proof.Machine

/-! ## The choice of an entry -/

/-- An order of entries: neither of two is better than itself or both ways, what is not better chains, and of two ids one is. -/
structure Ranks (better : Peer → Peer → Bool) : Prop where
  asymm : ∀ a b, better a b = true → better b a = false
  chain : ∀ a b c, better a b = false → better b c = false → better a c = false
  total : ∀ a b, a.id ≠ b.id → better a b = true ∨ better b a = true

/-- Among entries of distinct ids the choice takes the one that is better than every other. -/
theorem Ranks.pickPeer_iff {better : Peer → Peer → Bool} (ranks : Ranks better) {l : List Peer}
    (ids : l.Pairwise fun a b => a.id ≠ b.id) {p : Peer} :
    pickPeer better l = some p ↔ p ∈ l ∧ ∀ q ∈ l, q ≠ p → better p q = true := by
  constructor
  · intro h
    have hp := pickPeer_mem h
    refine ⟨hp, fun q hq ne => ?_⟩
    have worse : better q p = false := pickPeer_best ranks.asymm ranks.chain h q hq
    exact (ranks.total p q fun e => ne (peer_eq_of_id ids hp hq e.symm)).resolve_right (by simp [worse])
  · rintro ⟨hp, best⟩
    cases h : pickPeer better l with
    | none => rw [pickPeer_none.mp h] at hp; cases hp
    | some q =>
      by_contra ne
      have better := best q (pickPeer_mem h) fun e => ne (by rw [e])
      rw [pickPeer_best ranks.asymm ranks.chain h p hp] at better
      cases better

/-- The choice among the entries that are kept. -/
theorem Ranks.pickPeer_filter_iff {better : Peer → Peer → Bool} (ranks : Ranks better) {l : List Peer}
    (ids : l.Pairwise fun a b => a.id ≠ b.id) (keep : Peer → Bool) {p : Peer} :
    pickPeer better (l.filter keep) = some p ↔
      p ∈ l ∧ keep p = true ∧ ∀ q ∈ l, keep q = true → q ≠ p → better p q = true := by
  rw [ranks.pickPeer_iff (ids.filter keep)]
  simp only [List.mem_filter, and_assoc, and_imp]

theorem pickPeer_filter_none {better : Peer → Peer → Bool} {l : List Peer} {keep : Peer → Bool} :
    pickPeer better (l.filter keep) = none ↔ ∀ q ∈ l, ¬keep q = true := by
  rw [pickPeer_none, List.filter_eq_nil_iff]

/-- An order by a number that decides, and among equals by another. -/
theorem ranks_of_keys {better : Peer → Peer → Bool} (key : Peer → Int) (tie : Peer → Int) (ties : ∀ a b, a.id ≠ b.id → tie a ≠ tie b)
    (h : ∀ a b, better a b = true ↔ key a < key b ∨ (key a = key b ∧ tie a < tie b)) : Ranks better := by
  have worse : ∀ a b, better a b = false ↔ ¬(key a < key b ∨ (key a = key b ∧ tie a < tie b)) := fun a b => by
    rw [← h, Bool.not_eq_true]
  refine ⟨fun a b g => ?_, fun a b c g g' => ?_, fun a b ne => ?_⟩
  · rw [h] at g
    rw [worse]
    omega
  · rw [worse] at g g' ⊢
    omega
  · rw [h, h]
    have := ties a b ne
    omega

theorem nearerUp_ranks : Ranks nearerUp :=
  ranks_of_keys (fun p => -p.position) (fun p => p.id) (fun _ _ ne => by simpa using ne) fun a b => by
    simp only [nearerUp, decide_eq_true_eq]
    omega

theorem nearerDown_ranks : Ranks nearerDown :=
  ranks_of_keys (fun p => p.position) (fun p => p.id) (fun _ _ ne => by simpa using ne) fun a b => by
    simp only [nearerDown, decide_eq_true_eq]
    omega

/-- Longest silent, the higher id among equals (R75). -/
theorem longestSilent_ranks : Ranks fun a b => decide (a.last < b.last ∨ (a.last = b.last ∧ b.id < a.id)) :=
  ranks_of_keys (fun p => p.last) (fun p => -p.id) (fun _ _ ne => by simpa using ne) fun a b => by
    simp only [decide_eq_true_eq]
    omega

/-- Farthest, the higher id among equals (R75). -/
theorem farthest_ranks (img : Image) : Ranks fun a b => decide (distance img b.position < distance img a.position ∨
    (distance img a.position = distance img b.position ∧ b.id < a.id)) :=
  ranks_of_keys (fun p => -distance img p.position) (fun p => -p.id) (fun _ _ ne => by simpa using ne) fun a b => by
    simp only [decide_eq_true_eq]
    omega

/-! ## The neighbours and the adopted flow status (R78, R81) -/

theorem upNeighbour_iff {s : State} (h : PeersOrdered s) (p : Peer) : upNeighbour s = some p ↔
    (p ∈ s.peers.entries ∧ p.age = .fresh ∧ p.position < s.loader.image.position ∧
      ∀ q ∈ s.peers.entries, q.age = .fresh → q.position < s.loader.image.position → q ≠ p →
        q.position < p.position ∨ (q.position = p.position ∧ p.id < q.id)) := by
  rw [upNeighbour, nearerUp_ranks.pickPeer_filter_iff h.ids]
  simp only [nearerUp, decide_eq_true_eq, and_assoc, and_imp, eq_comm (a := p.position)]

theorem downNeighbour_iff {s : State} (h : PeersOrdered s) (p : Peer) : downNeighbour s = some p ↔
    (p ∈ s.peers.entries ∧ p.age = .fresh ∧ s.loader.image.position < p.position ∧
      ∀ q ∈ s.peers.entries, q.age = .fresh → s.loader.image.position < q.position → q ≠ p →
        p.position < q.position ∨ (q.position = p.position ∧ p.id < q.id)) := by
  rw [downNeighbour, nearerDown_ranks.pickPeer_filter_iff h.ids]
  simp only [nearerDown, decide_eq_true_eq, and_assoc, and_imp, eq_comm (a := p.position)]

/-- An entry in FRESH or STALE that has a flow input and knows its status lends it (R81). -/
theorem lendsFlow_iff (p : Peer) : lendsFlow p = true ↔
    (p.age = .fresh ∨ p.age = .stale) ∧ p.ownInput = true ∧ (p.flow = .flowing ∨ p.flow = .stagnant) := by
  have age : p.age ≠ .lost ↔ p.age = .fresh ∨ p.age = .stale := by cases p.age <;> decide
  have flow : p.flow ≠ .unknown ↔ p.flow = .flowing ∨ p.flow = .stagnant := by cases p.flow <;> decide
  rw [lendsFlow, decide_eq_true_eq, age, flow]

/-- The entries whose flow status may be adopted (R81). -/
def Lends (s : State) (p : Peer) : Prop := p ∈ s.peers.entries ∧ lendsFlow p = true

/-- The upstream entry that lends its flow status, and the downstream one (R81). -/
def upLender (s : State) : Option Peer :=
  pickPeer nearerUp (s.peers.entries.filter fun p => lendsFlow p && decide (p.position < s.loader.image.position))

def downLender (s : State) : Option Peer :=
  pickPeer nearerDown (s.peers.entries.filter fun p => lendsFlow p && decide (s.loader.image.position < p.position))

theorem upLender_iff {s : State} (h : PeersOrdered s) (p : Peer) : upLender s = some p ↔
    (Lends s p ∧ p.position < s.loader.image.position ∧ ∀ q, Lends s q → q.position < s.loader.image.position → q ≠ p →
      q.position < p.position ∨ (q.position = p.position ∧ p.id < q.id)) := by
  rw [upLender, nearerUp_ranks.pickPeer_filter_iff h.ids]
  simp only [Lends, nearerUp, Bool.and_eq_true, decide_eq_true_eq, and_assoc, and_imp, eq_comm (a := p.position)]

theorem downLender_iff {s : State} (h : PeersOrdered s) (p : Peer) : downLender s = some p ↔
    (Lends s p ∧ s.loader.image.position < p.position ∧ ∀ q, Lends s q → s.loader.image.position < q.position → q ≠ p →
      p.position < q.position ∨ (q.position = p.position ∧ p.id < q.id)) := by
  rw [downLender, nearerDown_ranks.pickPeer_filter_iff h.ids]
  simp only [Lends, nearerDown, Bool.and_eq_true, decide_eq_true_eq, and_assoc, and_imp, eq_comm (a := p.position)]

theorem upLender_none {s : State} : upLender s = none ↔ ∀ q, Lends s q → ¬q.position < s.loader.image.position := by
  rw [upLender, pickPeer_filter_none]
  simp only [Lends, Bool.and_eq_true, decide_eq_true_eq, not_and, and_imp]

theorem downLender_none {s : State} : downLender s = none ↔ ∀ q, Lends s q → ¬s.loader.image.position < q.position := by
  rw [downLender, pickPeer_filter_none]
  simp only [Lends, Bool.and_eq_true, decide_eq_true_eq, not_and, and_imp]

/-- The status of the upstream lender, else of the downstream one, else UNKNOWN (R81). -/
theorem adoptedFlow_eq (s : State) : adoptedFlow s = (((upLender s).or (downLender s)).map Peer.flow).getD .unknown := by
  unfold adoptedFlow upLender downLender
  split
  · rename_i p upper
    rw [upper]
    rfl
  · rename_i noUpper
    split
    · rename_i p lower
      rw [noUpper, lower]
      rfl
    · rename_i noLower
      rw [noUpper, noLower]
      rfl

theorem setFlow_enabled {s : State} (h : s.loader.image.flowEnabled = true) :
    setFlow s = { s with peers := { s.peers with flow := s.peers.debounced, ownInput := true } } := if_pos h

theorem setFlow_disabled {s : State} (h : s.loader.image.flowEnabled = false) :
    setFlow s = { s with peers := { s.peers with flow := adoptedFlow s, ownInput := false } } := if_neg (by simp [h])

/-- Settles O39. -/
theorem neighboursAreNearestFreshEntries : Obligations.NeighboursAreNearestFreshEntries := by
  unfold Obligations.NeighboursAreNearestFreshEntries
  refine ⟨fun s h => ?_, fun s h => ⟨upNeighbour_iff h, downNeighbour_iff h⟩⟩
  intro own lends up down flow
  have lender : ∀ q, lends q ↔ Lends s q := fun q => and_congr_right fun _ => (lendsFlow_iff q).symm
  simp only [up, down, lender]
  simp only [flow, controlStep_peers]
  refine ⟨fun enabled => ?_, fun disabled => ?_, ?_⟩
  · rw [setFlow_enabled enabled]
    exact ⟨rfl, rfl⟩
  · rw [setFlow_disabled disabled]
    simp only [adoptedFlow_eq]
    refine ⟨trivial, fun p hp => ?_, fun nobody => ⟨fun p hp => ?_, fun nobody' => ?_⟩⟩
    · rw [(upLender_iff h p).mpr hp]
      rfl
    · rw [upLender_none.mpr nobody, (downLender_iff h p).mpr hp]
      rfl
    · rw [upLender_none.mpr nobody, downLender_none.mpr nobody']
      rfl
  · cases enabled : s.loader.image.flowEnabled with
    | true => rw [setFlow_enabled enabled]
    | false => rw [setFlow_disabled enabled]

/-! ## Displacement from a full table (R75) -/

theorem distance_eq (img : Image) (position : Nat) : distance img position = ((position : Int) - img.position).natAbs := by
  unfold distance absDiff
  omega

/-- A newcomer to a full table takes the place of its victim, or is refused (R75). -/
theorem takeReport_full {img : Image} {now : Nat} {stamp : Option Nat} {id : Nat} {r : ReportFields} {old : List Peer}
    (unknown : findPeer id old = none) (full : old.length = 16) : takeReport img now stamp id r old =
      (victim img r.feeder r.position old).map fun v => insertPeer (writtenPeer img now stamp id r none) (removePeer v.id old) := by
  unfold takeReport
  dsimp only
  rw [unknown]
  exact if_neg (by omega)

theorem victim_of_lost {img : Image} {feeder position : Nat} {l : List Peer} {v : Peer}
    (h : lostVictim img (decide (feeder = img.feeder)) l = some v) : victim img feeder position l = some v := by
  rw [victim, h]

theorem victim_of_far {img : Image} {feeder position : Nat} {l : List Peer} {v : Peer}
    (unlost : lostVictim img (decide (feeder = img.feeder)) l = none) (h : farVictim img l = some v) : victim img feeder position l =
      if feeder = img.feeder ∨ distance img position < distance img v.position then some v else none := by
  rw [victim, unlost, h]
  simp

theorem victim_none {img : Image} {feeder position : Nat} {l : List Peer}
    (unlost : lostVictim img (decide (feeder = img.feeder)) l = none) (near : farVictim img l = none) :
    victim img feeder position l = none := by
  rw [victim, unlost, near]

/-- The table after a displacement: the newcomer stands in it for the victim. -/
theorem displaced {old : List Peer} (ids : old.Pairwise fun a b => a.id ≠ b.id) {v w : Peer} (hv : v ∈ old)
    (new : ∀ q ∈ old, q.id ≠ w.id) : (insertPeer w (removePeer v.id old)).length = old.length ∧
      ∀ q, (q ∈ insertPeer w (removePeer v.id old) ∧ q.id ≠ w.id) ↔ (q ∈ old ∧ q ≠ v) := by
  refine ⟨by rw [length_insertPeer, length_removePeer ids hv], fun q => ?_⟩
  have only : q ∈ old → (q.id = v.id ↔ q = v) := fun hq => ⟨peer_eq_of_id ids hv hq, fun e => by rw [e]⟩
  rw [mem_insertPeer, mem_removePeer]
  constructor
  · rintro ⟨rfl | ⟨hq, ne⟩, other⟩
    · exact absurd rfl other
    · exact ⟨hq, fun e => ne ((only hq).mpr e)⟩
  · rintro ⟨hq, ne⟩
    exact ⟨.inr ⟨hq, fun e => ne ((only hq).mp e)⟩, new q hq⟩

section
variable {img : Image} {l : List Peer} (ids : l.Pairwise fun a b => a.id ≠ b.id) {v : Peer}
include ids

/-- The LOST entry longest silent that the newcomer may displace (R75 step 1). -/
theorem lostVictim_eq {same : Bool} (hv : v ∈ l ∧ v.age = .lost ∧ (same = true ∨ v.feeder ≠ img.feeder))
    (longest : ∀ w, (w ∈ l ∧ w.age = .lost ∧ (same = true ∨ w.feeder ≠ img.feeder)) → w ≠ v →
      v.last < w.last ∨ (v.last = w.last ∧ w.id < v.id)) : lostVictim img same l = some v := by
  rw [lostVictim, longestSilent_ranks.pickPeer_filter_iff ids]
  simp only [Bool.and_eq_true, Bool.or_eq_true, Bool.not_eq_true', onFeeder, decide_eq_true_eq, decide_eq_false_iff_not]
  exact ⟨hv.1, hv.2, fun w hw may => longest w ⟨hw, may⟩⟩

/-- The farthest entry of another feeder (R75 step 2). -/
theorem farVictim_eq (hv : v ∈ l ∧ v.feeder ≠ img.feeder)
    (farthest : ∀ w, (w ∈ l ∧ w.feeder ≠ img.feeder) → w ≠ v → distance img w.position < distance img v.position ∨
      (distance img w.position = distance img v.position ∧ w.id < v.id)) : farVictim img l = some v := by
  rw [farVictim, (farthest_ranks img).pickPeer_filter_iff ids]
  simp only [Bool.not_eq_true', onFeeder, decide_eq_true_eq, decide_eq_false_iff_not, eq_comm (a := distance img v.position)]
  exact ⟨hv.1, hv.2, fun w hw other => farthest w ⟨hw, other⟩⟩

end

theorem lostVictim_none {img : Image} {same : Bool} {l : List Peer}
    (nobody : ∀ w, ¬(w ∈ l ∧ w.age = .lost ∧ (same = true ∨ w.feeder ≠ img.feeder))) : lostVictim img same l = none := by
  rw [lostVictim, pickPeer_filter_none]
  simp only [Bool.and_eq_true, Bool.or_eq_true, Bool.not_eq_true', onFeeder, decide_eq_true_eq, decide_eq_false_iff_not]
  exact fun w hw may => nobody w ⟨hw, may⟩

theorem farVictim_none {img : Image} {l : List Peer} (nobody : ∀ w, ¬(w ∈ l ∧ w.feeder ≠ img.feeder)) : farVictim img l = none := by
  rw [farVictim, pickPeer_filter_none]
  simp only [Bool.not_eq_true', onFeeder, decide_eq_false_iff_not]
  exact fun w hw other => nobody w ⟨hw, other⟩

/-- A refused newcomer of the own feeder raises FEEDER_CROWDED and changes no more than the fault unit and the line (R75). -/
theorem crowded_raised (s : State) :
    (occur ⟨.feederCrowded, none, none⟩ s).hasCond .feederCrowded none = true ∧
    (occur ⟨.feederCrowded, none, none⟩ s).peers = s.peers ∧ (occur ⟨.feederCrowded, none, none⟩ s).station = s.station ∧
    (occur ⟨.feederCrowded, none, none⟩ s).chans = s.chans ∧ (occur ⟨.feederCrowded, none, none⟩ s).burst = s.burst := by
  have note : occur ⟨.feederCrowded, none, none⟩ s = occurNote ⟨.feederCrowded, none, none⟩ s := rfl
  rw [note]
  exact ⟨occurNote_cond _ s, by simp⟩

section
variable {f : RxFrame} {r : ReportFields} {s : State} (other : f.c1.toNat ≠ s.loader.image.id)
  (known : strangeId f.c1.toNat = false) (read : readReport f.payload = some r) (full : s.peers.entries.length = 16)
  (new : ∀ p ∈ s.peers.entries, p.id ≠ f.c1.toNat)
include other known read full new

/-- The newcomer stands FRESH in the full table for its victim (R74, R75). -/
theorem peerReport_displaces (ids : s.peers.entries.Pairwise fun a b => a.id ≠ b.id) {v : Peer}
    (chosen : victim s.loader.image r.feeder r.position s.peers.entries = some v) :
    ((peerReport f s).peers.entries.length = 16 ∧
      ∀ q, (q ∈ (peerReport f s).peers.entries ∧ q.id ≠ f.c1.toNat) ↔ (q ∈ s.peers.entries ∧ q ≠ v)) ∧
    ∃ p ∈ (peerReport f s).peers.entries, p.id = f.c1.toNat ∧ p.age = .fresh := by
  have taken := takeReport_full (img := s.loader.image) (now := s.now) (stamp := f.stamp) (r := r) (findPeer_eq_none.mpr new) full
  rw [chosen] at taken
  have entries : (peerReport f s).peers.entries = _ :=
    congrArg (fun t => t.peers.entries) (peerReport_taken other known read taken)
  rw [(reportTaken_rest ..).1] at entries
  have seated : (writtenPeer s.loader.image s.now f.stamp f.c1.toNat r none).id = f.c1.toNat ∧
      (writtenPeer s.loader.image s.now f.stamp f.c1.toNat r none).age = .fresh := by
    rw [writtenPeer_eq]
    exact ⟨rfl, rfl⟩
  obtain ⟨length, members⟩ := displaced ids (victim_mem chosen) (w := writtenPeer s.loader.image s.now f.stamp f.c1.toNat r none) (by
    rwa [seated.1])
  rw [seated.1] at members
  rw [entries]
  exact ⟨⟨length.trans full, members⟩, _, (mem_insertPeer _ _ _).mpr (.inl rfl), seated⟩

/-- With no victim the newcomer is refused (R75). -/
theorem peerReport_crowded (nobody : victim s.loader.image r.feeder r.position s.peers.entries = none) :
    peerReport f s = if r.feeder = s.loader.image.feeder then occur ⟨.feederCrowded, none, none⟩ s else s :=
  peerReport_refused other known read (by rw [takeReport_full (findPeer_eq_none.mpr new) full, nobody, Option.map_none])

end

/-- Settles O35. -/
theorem fullTableIsSettledByDisplacement : Obligations.FullTableIsSettledByDisplacement := by
  unfold Obligations.FullTableIsSettledByDisplacement
  intro dt wave f r s ordered h id img own dist low high other read full new old mayLose far replaced
  have known : strangeId id = false := by simp [strangeId]; omega
  have admitted := fun v (chosen : victim img r.feeder r.position old = some v) =>
    peerReport_displaces (s := frameEnded dt wave s) other known read full new ordered.ids chosen
  have refused := peerReport_crowded (s := frameEnded dt wave s) other known read full new
  have lost : ∀ w, (w ∈ old ∧ w.age = .lost ∧ (decide own = true ∨ w.feeder ≠ img.feeder)) ↔ mayLose w := fun w => by
    simp only [mayLose, decide_eq_true_eq]
  refine ⟨_, exec_report h, fun v hv longest => ?_, fun unlost v hv farthest => ?_, fun unlost near => ?_⟩
  · exact admitted v (victim_of_lost (lostVictim_eq ordered.ids ((lost v).mpr hv) fun w hw => longest w ((lost w).mp hw)))
  · have unlost' : lostVictim img (decide own) old = none := lostVictim_none fun w hw => unlost w ((lost w).mp hw)
    have chosen := victim_of_far (position := r.position) unlost'
      (farVictim_eq ordered.ids hv (by simpa only [distance_eq] using farthest))
    simp only [distance_eq] at chosen
    refine ⟨fun wins => admitted v (chosen.trans (if_pos wins)), fun loses => ?_⟩
    exact (refused (chosen.trans (if_neg loses))).trans (if_neg fun same => loses (.inl same))
  · have unlost' : lostVictim img (decide own) old = none := lostVictim_none fun w hw => unlost w ((lost w).mp hw)
    rw [refused (victim_none unlost' (farVictim_none near))]
    obtain ⟨crowded, peers, station, chans, burst⟩ := crowded_raised (frameEnded dt wave s)
    by_cases same : own
    · rw [if_pos (show r.feeder = (frameEnded dt wave s).loader.image.feeder from same)]
      exact ⟨peers, station, fun _ => ⟨crowded, chans, burst⟩, fun away => absurd same away⟩
    · rw [if_neg (show ¬r.feeder = (frameEnded dt wave s).loader.image.feeder from same)]
      exact ⟨rfl, rfl, fun own => absurd own same, fun _ => rfl⟩

end Sys2Proof.Machine
end

section
/-! The end of a conversion, and the samples that follow one another by the arbiter's order (O41). -/

namespace Sys2Proof.Machine

/-! ## The end of a conversion (R87, R88) -/

/-- The state at the end `e` of a conversion, before the sequencer makes anything of it. -/
def conversionOver (e : Nat) (s : State) : State :=
  { s with now := max s.now e, meas := { s.meas with conv := none, convEnd := some (max s.now e) } }

section
variable {cv : Conversion} {s : State} (converting : s.meas.conv = some cv) (raw : Word16)
include converting

theorem exec_conversionEnd : exec (.conversionEnd raw) s = .next (endConversion cv raw.toNat (s.reach cv.ends)) := by
  show Host.Outcome.next (conversionEnds raw s) = _
  rw [conversionEnds, converting]

theorem exec_conversionEnd_abandoned (abandoned : cv.fate = .abandoned) :
    exec (.conversionEnd raw) s = .next (startNext (conversionOver cv.ends s)) := by
  rw [exec_conversionEnd converting]
  exact congrArg Host.Outcome.next (if_pos abandoned)

/-- The second conversion of a current sample: it is counted unless its half-cycle has ended (R101). -/
theorem exec_conversionEnd_current {c : Chan} {k : CurrentKind} (sample : cv.sample = .current c k) (kept : cv.kept = true)
    (going : cv.fate ≠ .abandoned) : exec (.conversionEnd raw) s = .next (startNext
      (if cv.fate = .live then countSample c k raw.toNat (conversionOver cv.ends s) else conversionOver cv.ends s)) := by
  rw [exec_conversionEnd converting, endConversion]
  simp only [going, kept, sample, if_false, if_true]
  rfl

/-- The second conversion of a temperature reading (R90). -/
theorem exec_conversionEnd_reading {r : Reading} (sample : cv.sample = .reading r) (kept : cv.kept = true)
    (going : cv.fate ≠ .abandoned) :
    exec (.conversionEnd raw) s = .next (storeReading r raw.toNat (conversionOver cv.ends s)) := by
  rw [exec_conversionEnd converting, endConversion]
  simp only [going, kept, sample, if_false, if_true]
  rfl

/-- The first conversion of a sample: the second follows, unless a current request interrupts a temperature reading (R87, R88). -/
theorem exec_conversionEnd_first (first : cv.kept = false) (going : cv.fate ≠ .abandoned) :
    ((∀ r, cv.sample = .reading r → ∀ c, NoRequest (s.meas.chans.get c)) →
      exec (.conversionEnd raw) s = .next ((conversionOver cv.ends s).convertKept cv)) ∧
    ∀ r c, cv.sample = .reading r → ¬NoRequest (s.meas.chans.get c) →
      exec (.conversionEnd raw) s = .next (startNext (conversionOver cv.ends s)) := by
  rw [exec_conversionEnd converting]
  cases sample : cv.sample with
  | current c k =>
    have ended : endConversion cv raw.toNat (s.reach cv.ends) = (conversionOver cv.ends s).convertKept cv := by
      rw [endConversion]
      simp only [going, first, sample, if_false, Bool.false_eq_true]
      rfl
    exact ⟨fun _ => congrArg Host.Outcome.next ended, fun r c h => nomatch h⟩
  | reading r =>
    have ended : endConversion cv raw.toNat (s.reach cv.ends) = if (pendingChan (conversionOver cv.ends s)).isSome = true
        then startNext (conversionOver cv.ends s) else (conversionOver cv.ends s).convertKept cv := by
      rw [endConversion]
      simp only [going, first, sample, if_false, Bool.false_eq_true]
      rfl
    have pending := pendingChan_none (conversionOver cv.ends s)
    rw [ended]
    refine ⟨fun free => ?_, fun _ c _ wanting => ?_⟩
    · rw [pending.mpr (free r rfl)]
      rfl
    · have some : (pendingChan (conversionOver cv.ends s)).isSome = true :=
        Option.isSome_iff_ne_none.mpr fun none => wanting (pending.mp none c)
      rw [if_pos some]

end

/-! ## Readings (R89, R90) -/

/-- A kept reading but AMB is stored, and the arbiter goes on. -/
theorem storeReading_inner {r : Reading} (inner : r ≠ .ambient) (raw : Nat) (s : State) : storeReading r raw s =
    startNext { s with meas := { s.meas with
      remaining := s.meas.remaining.tail
      rawLo := if r = .refLo then raw else s.meas.rawLo
      rawHi := if r = .refHi then raw else s.meas.rawHi
      rawWall := .of fun c => if r = .wall c then raw else s.meas.rawWall.get c } } := by
  cases r with
  | refLo => rfl
  | refHi => rfl
  | wall c =>
    have walls : s.meas.rawWall.set c raw = .of fun d => if Reading.wall c = .wall d then raw else s.meas.rawWall.get d := by
      refine Four.ext_get fun d => ?_
      by_cases same : d = c
      · simp [same]
      · simp [Four.get_set_other _ _ same, Ne.symm same]
    simp only [storeReading, walls, reduceCtorEq, if_false]
  | ambient => exact absurd rfl inner

/-- The arbiter with no current request and a round in progress (R88). -/
theorem startNext_reading {s : State} {r : Reading} {behind : List Reading} (idle : s.meas.conv = none)
    (free : ∀ c, NoRequest (s.meas.chans.get c)) (on : s.meas.roundOn = true) (next : s.meas.remaining = r :: behind) :
    startNext s = firstConversion s (.reading r) none s.meas.chans :=
  (startNext_takes s idle).reading r behind free on next

/-- The arbiter goes on with a conversion in progress. -/
theorem startNext_busy {s : State} {cv : Conversion} (busy : s.meas.conv = some cv) : startNext s = s := by
  simp [startNext, busy]

/-- The state at the expiry `e` of the round timer, which goes on with its period (R89). -/
def roundDue (e : Nat) (s : State) : State :=
  { s with now := max s.now e, meas := { s.meas with roundTimer := some (e + 500000) } }

/-- The state with a round begun, before the arbiter takes its first reading (R90, R99). -/
def roundBegun (s : State) : State :=
  { s with meas := { s.meas with
    roundOn := true
    remaining := [.refLo, .refHi] ++ (Chan.list.filter s.enabled).map .wall ++ [.ambient]
    measure := if s.meas.measure = .waiting then .serving else s.meas.measure } }

theorem exec_roundTimerExpiry {e : Nat} {s : State} (due : s.meas.roundTimer = some e) :
    exec .roundTimerExpiry s = .next (beginRound (roundDue e s)) := by
  show Host.Outcome.next (roundTick s) = _
  rw [roundTick, due]
  rfl

theorem beginRound_idle {s : State} (idle : s.meas.roundOn = false) : beginRound s = startNext (roundBegun s) :=
  if_neg (by simp [idle])

/-- Settles O41. What the arbiter takes at each of these moments is read off `startNext_takes`. -/
theorem converterFollowsTheArbiter : Obligations.ConverterFollowsTheArbiter := by
  unfold Obligations.ConverterFollowsTheArbiter
  refine ⟨fun e s due => ⟨fun on => ?_, fun off idle free => ?_, fun cv off busy => ?_⟩,
    fun raw cv s converting first going => ⟨fun c k sample => ?_, fun r sample free => ?_, fun r c sample before => ?_⟩,
    fun raw r next behind limit fate e s converting going on queue free inner => ?_⟩
  · rw [exec_roundTimerExpiry due]
    exact congrArg Host.Outcome.next (if_pos on)
  · rw [exec_roundTimerExpiry due, beginRound_idle (s := roundDue e s) off,
      startNext_reading (s := roundBegun (roundDue e s)) idle free rfl rfl]
    rfl
  · rw [exec_roundTimerExpiry due, beginRound_idle (s := roundDue e s) off, startNext_busy (s := roundBegun (roundDue e s)) busy]
    rfl
  · exact (exec_conversionEnd_first converting raw first going).1 fun r reading => by simp [sample] at reading
  · exact (exec_conversionEnd_first converting raw first going).1 fun _ _ => free
  · have interrupted (wanting : ¬NoRequest (s.meas.chans.get c)) :=
      (exec_conversionEnd_first converting raw first going).2 r c sample wanting
    have taken := startNext_takes (conversionOver cv.ends s) rfl
    refine ⟨fun check => ?_, fun unchecked off => ?_, fun unchecked unasked on => ?_⟩
    · rw [interrupted fun none => by simp [none.2.2] at check, (taken.check c before).1 check]
      rfl
    · rw [interrupted fun none => by simp [none.2.1] at off, (taken.half c before unchecked).1 off]
      rfl
    · rw [interrupted fun none => by simp [none.1] at on, (taken.half c before unchecked).2 unasked on]
      rfl
  · have tail : (conversionOver e s).meas.remaining.tail = next :: behind := congrArg List.tail queue
    rw [exec_conversionEnd_reading converting raw rfl rfl going, storeReading_inner inner, tail]
    exact congrArg Host.Outcome.next (startNext_reading rfl free on rfl)

end Sys2Proof.Machine
end

section
/-! The expiries of the sequencer's timers: accepted temperatures that grow too old, and check requests that are not served in time
(O43). -/

namespace Sys2Proof.Machine

/-! ## The age limit (R91, R95) -/

theorem SensorState.ageOut_eq (x : SensorState) (since : Nat) : x.ageOut since =
    if x.accepted.map (·.since) = some since then { x with accepted := none, valid := 0 } else x := by
  unfold SensorState.ageOut
  cases accepted : x.accepted <;> simp

theorem exec_temperatureAgeExpiry {sensor : Sensor} {a : Accepted} {s : State} (accepted : (s.sensor sensor).accepted = some a) :
    exec (.temperatureAgeExpiry sensor) s = .next { s with
      now := max s.now (a.since + 5000000)
      meas := { s.meas with wall := s.meas.wall.map (·.ageOut a.since), amb := s.meas.amb.ageOut a.since } } := by
  show Host.Outcome.next (ageExpires sensor s) = _
  rw [ageExpires, accepted]
  rfl

/-! ## A check request on the crystal time base (R100, R204) -/

theorem Four.set_set {α : Type} (x : Four α) (c : Chan) (a b : α) : (x.set c a).set c b = x.set c b := by cases c <;> rfl

/-- The state at the expiry `e` of a channel's check request, which is dropped. -/
def checkDropped (c : Chan) (e : Nat) (s : State) : State :=
  { s with
    now := max s.now e
    meas := { s.meas with chans := s.meas.chans.set c { s.meas.chans.get c with reqCheck := .none } } }

theorem exec_checkRequestTimeout {c : Chan} {e : Nat} {s : State} (due : (s.meas.chans.get c).reqCheck = .crystal e) :
    exec (.checkRequestTimeout c) s = .next (askAgain c (checkDropped c e s)) := by
  show Host.Outcome.next (checkTimesOut c s) = _
  rw [checkTimesOut, due]
  rfl

/-- A request dropped and made anew is the channel's request with a new end. -/
theorem askCrystal_dropped (c : Chan) (e : Nat) (s : State) : askCrystal c (checkDropped c e s) = { s with
    now := max s.now e
    meas := { s.meas with
      chans := s.meas.chans.set c { s.meas.chans.get c with reqCheck := .crystal (max s.now e + 10000) } }
    halt := { s.halt with checks := s.halt.checks.set c .requested } } := by
  simp only [askCrystal, checkDropped, State.modMeas, Four.set_set, Four.get_set_same]

/-- Settles O43. With no period running the request is made anew at once, and `startRequested_served` says what the arbiter makes of
it. -/
theorem ageAndCheckRequestsRunOut : Obligations.AgeAndCheckRequestsRunOut := by
  unfold Obligations.AgeAndCheckRequestsRunOut
  refine ⟨fun sensor a s accepted => ?_, fun c e s due => ?_⟩
  · rw [exec_temperatureAgeExpiry accepted]
    simp only [SensorState.ageOut_eq]
    rfl
  · rw [exec_checkRequestTimeout due]
    refine ⟨fun other => ?_, fun checking running => ?_, fun checking stopped => ?_⟩
    · exact congrArg Host.Outcome.next (if_neg other)
    · exact congrArg Host.Outcome.next ((if_pos checking).trans (if_pos running))
    · refine ⟨_, congrArg Host.Outcome.next ((if_pos checking).trans (if_neg stopped)), ?_⟩
      rw [askCrystal_dropped]
      exact startRequested_served _

end Sys2Proof.Machine
end

section
/-! The confirmation time and the check of the contactor (O60). -/

namespace Sys2Proof.Machine

/-! ## The end of the confirmation time (R204) -/

/-- The halt unit at the entry to CHECKING, with the check of every enabled channel as `how`. -/
def checkingHalt (how : CheckState) (s : State) : Halt :=
  { s.halt with proc := .checking, mode := .none, checks := .of fun c => if s.enabled c = true then how else .none }

theorem startChecking_eq (how : CheckState) (s : State) : startChecking how s = { s with halt := checkingHalt how s } := rfl

theorem exec_confirmationTimerExpiry {e : Nat} {s : State} (confirming : s.halt.proc = .confirming) (mode : s.halt.mode = .crystal e)
    (residual : Nat) :
    exec (.confirmationTimerExpiry residual) s = .next (confirmCrystal ((s.showResidual residual).reach e)) := by
  show Host.Outcome.next (confirmEnds residual s) = _
  rw [confirmEnds, mode]
  exact congrArg Host.Outcome.next (if_pos confirming)

/-- With no period running every check is asked at once and the comparator is read, before the arbiter takes the first of them. -/
theorem confirmCrystal_asks {s : State} (stopped : s.burst.period ≠ .running) (unread : s.halt.compRead = false) :
    confirmCrystal s = startRequested { s with
      meas := { s.meas with chans := .of (fun c =>
        if s.enabled c = true then { s.meas.chans.get c with reqCheck := .crystal (s.now + 10000) } else s.meas.chans.get c) }
      halt := { checkingHalt .requested s with compRead := true, leakSeen := s.comparator } } := by
  have wanted (c : Chan) : (checkingHalt .wanted s).checks.get c = if s.enabled c = true then .wanted else .none := Four.get_of ..
  have outstanding (c : Chan) : ((checkingHalt .wanted s).checks.get c).outstanding = s.enabled c := by
    rw [wanted]
    cases s.enabled c <;> rfl
  have asked (c : Chan) : (if s.enabled c = true then CheckState.requested else (checkingHalt .wanted s).checks.get c) =
      if s.enabled c = true then .requested else .none := by
    rw [wanted]
    split <;> rfl
  have read : (startChecking .wanted s).halt.compRead = false := unread
  rw [confirmCrystal, if_neg stopped, askAllCrystal_eq, if_pos read]
  simp only [startChecking_eq, outstanding, asked]
  rfl

/-! ## The check of the contactor (R204, R205) -/

theorem checksDone_iff (s : State) : checksDone s = true ↔ ∀ c, s.enabled c = true → s.halt.checks.get c = .counted := by
  simp only [checksDone, List.all_eq_true, Chan.mem_list, true_imp_iff, Bool.or_eq_true, Bool.not_eq_true', decide_eq_true_eq,
    ← Bool.not_eq_true, ← imp_iff_not_or]

/-- The halt unit after the check sample of `c`, which saw current where `seen`. -/
def sampleChecked (c : Chan) (seen : Bool) (s : State) : State :=
  { s with halt := { s.halt with checks := s.halt.checks.set c .counted, currentSeen := s.halt.currentSeen || seen } }

/-- The last check sample decides. -/
theorem countSample_lastCheck {c : Chan} {s : State} (checking : s.halt.proc = .checking)
    (others : ∀ d, d ≠ c → s.enabled d = true → s.halt.checks.get d = .counted) (raw : Nat) :
    countSample c .check raw s = checkDecision (sampleChecked c (decide (s.loader.image.iNom.get c / 8 < raw / 32)) s) := by
  refine if_pos ⟨checking, (checksDone_iff _).mpr fun d enabled => ?_⟩
  by_cases same : d = c
  · subst same
    exact Four.get_set_same ..
  · exact (Four.get_set_other _ _ same).trans (others d same enabled)

/-- The check decision: CONTACTOR_FAIL where something was seen and the field is empty, HALTED, and a report instant. -/
theorem checkDecision_eq (s : State) : checkDecision s = reportInstant { s with
    halt := { s.halt with
      proc := .complete, mode := .none
      record := { s.halt.record with second :=
        if s.halt.record.second = none ∧ (s.halt.currentSeen = true ∨ s.halt.leakSeen = true) then some .contactorFail
        else s.halt.record.second } }
    station := { s.station with state := .halted } } := by
  have test : ((s.halt.currentSeen || s.halt.leakSeen) && s.halt.record.second.isNone) = true ↔
      s.halt.record.second = none ∧ (s.halt.currentSeen = true ∨ s.halt.leakSeen = true) := by
    rw [Bool.and_eq_true, Bool.or_eq_true, Option.isNone_iff_eq_none, and_comm]
  unfold checkDecision
  by_cases fails : s.halt.record.second = none ∧ (s.halt.currentSeen = true ∨ s.halt.leakSeen = true)
  · simp only [if_pos (test.mpr fails), if_pos fails]
    rfl
  · simp only [if_neg (mt test.mp fails), if_neg fails]

/-- Settles O60. The last check sample makes the check decision, with a report instant; the arbiter after it changes the converter and
its requests alone. -/
theorem confirmationEndsInHalted : Obligations.ConfirmationEndsInHalted := by
  unfold Obligations.ConfirmationEndsInHalted
  refine ⟨fun s confirming => ?_, fun raw c limit e s converting checking others => ?_⟩
  · refine ⟨fun mode => congrArg Host.Outcome.next (if_pos ⟨confirming, mode⟩), fun e residual mode running => ?_,
      fun e residual mode stopped unread => ?_⟩
    · rw [exec_confirmationTimerExpiry confirming mode]
      exact congrArg Host.Outcome.next (if_pos running)
    · refine ⟨_, exec_confirmationTimerExpiry confirming mode residual, ?_⟩
      rw [confirmCrystal_asks (s := (s.showResidual residual).reach e) stopped unread, comparator_eq]
      exact startRequested_served _
  · have decided := countSample_lastCheck (s := conversionOver e s) checking others raw.toNat
    have counted := exec_conversionEnd_current converting raw (c := c) (k := .check) rfl rfl nofun
    rw [if_pos rfl, decided, checkDecision_eq] at counted
    have seen : (s.halt.currentSeen || decide (s.loader.image.iNom.get c / 8 < raw.toNat / 32)) = true ↔
        s.halt.currentSeen = true ∨ s.loader.image.iNom.get c / 8 < raw.toNat / 32 :=
      Bool.or_eq_true_iff.trans (or_congr_right decide_eq_true_iff)
    obtain ⟨conv, chans, rest⟩ := startNext_rest (reportInstant _)
    refine ⟨_, counted.trans (congrArg Host.Outcome.next rest), rfl, rfl, seen, rfl, rfl, fun free saw => ?_, fun free unseen => ?_,
      fun x taken => ?_, reportInstant_timer _, rfl, rfl, rfl, rfl, rfl, rfl, rfl⟩
    · exact if_pos ⟨free, saw.imp_left seen.mpr⟩
    · exact (if_neg fun fails => unseen (fails.2.imp_left seen.mp)).trans free
    · exact (if_neg fun fails => Option.some_ne_none x (taken.symm.trans fails.1)).trans taken

end Sys2Proof.Machine
end

section
/-! Current samples (O45): the off-checks and on-samples that are counted, and the second on-sample over the threshold, which trips or
locks its channel. -/

namespace Sys2Proof.Machine

/-! ## What the arbiter leaves of the figures -/

theorem takeRequest_figures (m : ChanMeas) (k : CurrentKind) : (m.takeRequest k).figures = m.figures := by cases k <;> rfl

theorem startNext_figures (s : State) (c : Chan) : ((startNext s).meas.chans.get c).figures = (s.meas.chans.get c).figures := by
  unfold startNext
  (repeat' split)
  · rfl
  · exact (modMeas_aside s _ fun m => takeRequest_figures m _).figures c
  all_goals rfl

/-- The figures of an on-sample stand where the figures stand. -/
theorem ChanMeas.onFigures {m n : ChanMeas} (h : m.figures = n.figures) :
    m.onSum = n.onSum ∧ m.onCount = n.onCount ∧ m.overCount = n.overCount :=
  ⟨(congrArg ChanMeas.onSum h :), (congrArg ChanMeas.onCount h :), (congrArg ChanMeas.overCount h :)⟩

/-! ## The count of samples over the threshold (R103) -/

theorem overDue_iff (m : ChanMeas) (iNom v : Nat) : m.overDue iNom v = true ↔ iNom * 5 / 4 < v ∧ m.overCount = 1 := by
  simp only [ChanMeas.overDue, overThreshold, decide_eq_true_eq, Nat.reduceEqDiff]

/-- An on-sample that is no detection raises the count or sets it back. -/
theorem addOn_undetected {m : ChanMeas} {iNom v : Nat} (undetected : v ≤ iNom * 5 / 4 ∨ m.overCount ≠ 1) : m.addOn iNom v =
    { m with onSum := m.onSum + v, onCount := m.onCount + 1
             overCount := if v ≤ iNom * 5 / 4 then 0 else m.overCount + 1 } := by
  unfold ChanMeas.addOn overThreshold
  by_cases low : v ≤ iNom * 5 / 4
  · rw [if_pos low, if_neg (not_lt.mpr low)]
  · have other : ¬m.overCount + 1 = 2 := fun second => undetected.resolve_left low (Nat.succ.inj second)
    rw [if_neg low, if_pos (not_le.mp low), if_neg other]

theorem overDue_of_undetected {m : ChanMeas} {iNom v : Nat} (undetected : v ≤ iNom * 5 / 4 ∨ m.overCount ≠ 1) :
    ¬m.overDue iNom v = true := fun due => by
  obtain ⟨exceeds, second⟩ := (overDue_iff ..).mp due
  exact undetected.elim (not_le.mpr exceeds) (· second)

/-- A detection sets the count back. -/
theorem addOn_detected {m : ChanMeas} {iNom v : Nat} (exceeds : iNom * 5 / 4 < v) (second : m.overCount = 1) :
    (m.addOn iNom v).overCount = 0 := by
  simp [ChanMeas.addOn, overThreshold, exceeds, second]

/-! ## An OVERCURRENT occurrence (R174, R178), case by case -/

/-- What the record of an occurrence and the notice of a due one come to, read off the state `s` before it. -/
def Recorded (d : Detection) (cls : FaultClass) (trial : Bool) (s t : State) : Prop :=
  let n := settleNotice ⟨d.kind, d.chan, cls⟩ s
  t.fault.queue = queueAfter s.fault.queue t.uptime d cls trial ∧ t.line = n.line ∧ t.fault.placed = n.fault.placed ∧
  t.fault.pendingNotice = n.fault.pendingNotice ∧ t.fault.awaiting = n.fault.awaiting

theorem recordOccurrence_uptime (d : Detection) (cls : FaultClass) (trial due : Bool) (s : State) :
    (recordOccurrence d cls trial due s).uptime = s.uptime := by
  rw [State.uptime, State.uptime]
  simp

/-- A due occurrence recorded after changes that no notice reads. -/
theorem recordOccurrence_recorded {s u : State} (station : u.station = s.station) (budget : u.budget = s.budget)
    (line : u.line = s.line) (notes : u.fault.notes = s.fault.notes) (d : Detection) (cls : FaultClass) (trial : Bool) :
    Recorded d cls trial s (recordOccurrence d cls trial true u) := by
  simp only [FaultUnit.notes, Prod.mk.injEq] at notes
  obtain ⟨queue, -, awaiting, placed, pending⟩ := notes
  have alike : noteView u = noteView s := by simp only [noteView, station, budget, line, awaiting, placed, pending]
  have settled := recordOccurrence_noteView d cls trial true u
  rw [if_pos rfl] at settled
  obtain ⟨tLine, tPlaced, tPending, tAwaiting⟩ :=
    noteView_parts (settled.trans (settleNotice_alike alike ⟨d.kind, d.chan, cls⟩))
  exact ⟨by rw [recordOccurrence_queue, recordOccurrence_uptime, queue], tLine, tPlaced, tPending, tAwaiting⟩

/-- The channel's trip counted. -/
def tripCounted (c : Chan) (s : State) : State := s.modChan c fun ch => { ch with trips := min ((s.chans.get c).trips + 1) 3 }

section
variable {d : Detection} {c : Chan} {s : State} (live : ¬(d.kind = .heaterOpen ∧ s.burst.contactor = false))
include live

theorem occurCounted_repeat (old : s.hasCond d.kind (some c) = true) :
    occurCounted d c s = recordOccurrence d .trip false false s := by
  rw [occurCounted, if_neg live]
  exact if_pos (by simp [old])

theorem occurCounted_out (new : s.hasCond d.kind (some c) = false) (out : (s.chans.get c).state.inService = false) :
    occurCounted d c s = recordOccurrence d .trip false true (s.addCond ⟨d.kind, some c, .trip⟩) := by
  rw [occurCounted, if_neg live]
  simp only [new, out, Bool.not_false, Bool.not_true, Bool.false_eq_true, if_true, if_false]

theorem occurCounted_locks (new : s.hasCond d.kind (some c) = false) (serves : (s.chans.get c).state.inService = true)
    (last : (s.chans.get c).trial ≠ none ∨ 2 ≤ (s.chans.get c).trips) : occurCounted d c s =
      recordOccurrence d .lock (s.chans.get c).trial.isSome true (lockChan d.kind c (tripCounted c s)) := by
  rw [occurCounted, if_neg live]
  simp only [new, serves, Bool.not_false, Bool.not_true, Bool.false_eq_true, if_false]
  cases trial : (s.chans.get c).trial with
  | some e => rfl
  | none =>
    have third : min ((s.chans.get c).trips + 1) 3 = 3 := by
      have := last.resolve_left (not_not_intro trial)
      omega
    exact if_pos third

theorem occurCounted_trips (new : s.hasCond d.kind (some c) = false) (serves : (s.chans.get c).state.inService = true)
    (trial : (s.chans.get c).trial = none) (few : (s.chans.get c).trips < 2) : occurCounted d c s =
      recordOccurrence d .trip false true
        (tripChan d.kind (some (s.now + seconds 600)) c ((tripCounted c s).addCond ⟨d.kind, some c, .trip⟩)) := by
  have early : ¬min ((s.chans.get c).trips + 1) 3 = 3 := by omega
  rw [occurCounted, if_neg live]
  simp only [new, serves, trial, early, Bool.not_false, Bool.not_true, Bool.false_eq_true, Option.isSome_none, if_false]
  rfl

end

/-! ## The channel it is for, the others, and the rest -/

theorem occurCounted_alarming (c : Chan) (s : State) (k : FaultKind) (v : Option Int) :
    Alarming s (occurCounted ⟨k, some c, v⟩ c s) := by
  unfold occurCounted
  dsimp only
  (repeat' split)
  · exact .refl s
  · exact recordOccurrence_alarming s ..
  · exact (addCond_alarming c s ..).trans (recordOccurrence_alarming _ ..)
  · exact ((modChan_alarming c s _).trans (lockChan_alarming c _ _)).trans (recordOccurrence_alarming _ ..)
  · exact ((modChan_alarming c s _).trans (lockChan_alarming c _ _)).trans (recordOccurrence_alarming _ ..)
  · exact (((modChan_alarming c s _).trans (addCond_alarming c _ ..)).trans (tripChan_alarming c _ ..)).trans
      (recordOccurrence_alarming _ ..)

theorem occurCounted_beside {c x : Chan} (ne : c ≠ x) (s : State) (k : FaultKind) (v : Option Int) :
    chanView c (occurCounted ⟨k, some x, v⟩ x s) = chanView c s := by
  unfold occurCounted
  dsimp only
  (repeat' split)
  · rfl
  · exact recordOccurrence_view ..
  · rw [recordOccurrence_view, addCond_beside ne]
  · rw [recordOccurrence_view, lockChan_beside ne, modChan_beside ne]
  · rw [recordOccurrence_view, lockChan_beside ne, modChan_beside ne]
  · rw [recordOccurrence_view, tripChan_beside ne, addCond_beside ne, modChan_beside ne]

/-! ## What an OVERCURRENT occurrence comes to -/

theorem tripChan_recloses (k : FaultKind) (reclose : Option Nat) (c : Chan) (s : State) : chanView c (tripChan k reclose c s) =
    { (chanView c s).tripped k s.atPeriodStart s.now with
      chan := { (s.chans.get c).stopped .tripped none with reclose := reclose } } := by
  have later : tripChan k reclose c s = (tripChan k none c s).modChan c fun ch => { ch with reclose := reclose } := by
    simp only [tripChan, State.modChan, Four.set_set, Four.get_set_same]
  have chan : (tripChan k none c s).chans.get c = ((chanView c s).tripped k s.atPeriodStart s.now).chan :=
    congrArg ChanView.chan (tripChan_view c s k)
  rw [later, modChan_view, tripChan_view, chan]
  rfl

theorem tripCounted_view (c : Chan) (s : State) : chanView c (tripCounted c s) =
    { chanView c s with chan := { s.chans.get c with trips := min ((s.chans.get c).trips + 1) 3 } } := modChan_view c s _

/-- What is recorded reads of the state before it what a notice reads, and the fault queue. -/
theorem Recorded.of_alike {d : Detection} {cls : FaultClass} {trial : Bool} {s u t : State} (alike : noteView u = noteView s)
    (queue : u.fault.queue = s.fault.queue) (h : Recorded d cls trial u t) : Recorded d cls trial s t := by
  obtain ⟨line, placed, pending, awaiting⟩ := noteView_parts (settleNotice_alike alike ⟨d.kind, d.chan, cls⟩)
  obtain ⟨tQueue, tLine, tPlaced, tPending, tAwaiting⟩ := h
  exact ⟨queue ▸ tQueue, tLine.trans line, tPlaced.trans placed, tPending.trans pending, tAwaiting.trans awaiting⟩

section
variable {c : Chan} {v : Option Int} {s : State} (new : s.hasCond .overcurrent (some c) = false)

theorem overcurrent_repeat (old : s.hasCond .overcurrent (some c) = true) :
    occurCounted ⟨.overcurrent, some c, v⟩ c s = writeQueue ⟨.overcurrent, some c, v⟩ .trip false s :=
  occurCounted_repeat nofun old

include new

/-- A channel that is TRIPPED or LOCKED keeps its state. -/
theorem overcurrent_out (out : (s.chans.get c).state.inService = false) :
    let t := occurCounted ⟨.overcurrent, some c, v⟩ c s
    t.chans = s.chans ∧ t.hasCond .overcurrent (some c) = true ∧ t.fault.tripCause = s.fault.tripCause ∧
    t.fault.locks = s.fault.locks ∧ Recorded ⟨.overcurrent, some c, v⟩ .trip false s t := by
  have occurred := occurCounted_out (d := ⟨.overcurrent, some c, v⟩) nofun new out
  obtain ⟨conds, locks, causes, -⟩ :=
    recordOccurrence_marks ⟨.overcurrent, some c, v⟩ .trip false true (s.addCond ⟨.overcurrent, some c, .trip⟩)
  dsimp only
  rw [occurred]
  refine ⟨by simp, ?_, causes, locks, recordOccurrence_recorded (s := s) (u := s.addCond _) rfl rfl rfl rfl ..⟩
  rw [State.hasCond_of conds, State.hasCond_addCond]
  simp

/-- The first and the second trip of a channel in service that is not on trial. -/
theorem overcurrent_trips (serves : (s.chans.get c).state.inService = true) (trial : (s.chans.get c).trial = none)
    (few : (s.chans.get c).trips < 2) :
    let t := occurCounted ⟨.overcurrent, some c, v⟩ c s
    chanView c t = { (chanView c s).tripped .overcurrent s.atPeriodStart s.now with
      chan := { (s.chans.get c).stopped .tripped none with
        trips := (s.chans.get c).trips + 1, reclose := some (s.now + 600000000) }
      conds := raised .overcurrent (chanView c s).conds } ∧
    t.fault.locks = s.fault.locks ∧ Recorded ⟨.overcurrent, some c, v⟩ .trip false s t := by
  have occurred := occurCounted_trips (d := ⟨.overcurrent, some c, v⟩) nofun new serves trial few
  have count : min ((s.chans.get c).trips + 1) 3 = (s.chans.get c).trips + 1 := by omega
  dsimp only
  rw [occurred]
  refine ⟨?_, ?_, recordOccurrence_recorded ?_ ?_ ?_ ?_ ..⟩
  · rw [recordOccurrence_view, tripChan_recloses, addCond_view, tripCounted_view, count]
    simp only [tripCounted, State.modChan_chans, State.addCond_chans, Four.get_set_same, count]
    rfl
  · rw [(recordOccurrence_marks ..).2.1]
    simp [tripChan, tripCounted]
  all_goals simp [tripChan, tripCounted, FaultUnit.notes]

/-- The third trip, and one during a trial. -/
theorem overcurrent_locks (serves : (s.chans.get c).state.inService = true)
    (last : (s.chans.get c).trial ≠ none ∨ 2 ≤ (s.chans.get c).trips) :
    let t := occurCounted ⟨.overcurrent, some c, v⟩ c s
    chanView c t = { (chanView c s).locked .overcurrent s.atPeriodStart s.now with
      chan := { (s.chans.get c).stopped .locked none with
        trips := min ((s.chans.get c).trips + 1) 3, reclose := none, trial := none } } ∧
    Recorded ⟨.overcurrent, some c, v⟩ .lock (s.chans.get c).trial.isSome s t := by
  have occurred := occurCounted_locks (d := ⟨.overcurrent, some c, v⟩) nofun new serves last
  have unlocked : ((tripCounted c s).chans.get c).state ≠ .locked := by
    simpa [tripCounted] using ((inService_iff _).mp serves).2
  dsimp only
  rw [occurred]
  refine ⟨?_, recordOccurrence_recorded ?_ ?_ ?_ ?_ ..⟩
  · rw [recordOccurrence_view, lockChan_view c _ _ unlocked, tripCounted_view]
    rfl
  · simp [tripCounted]
  · simp [tripCounted]
  · simp [tripCounted]
  · exact lockChan_notes ..

/-- A channel in service stops firing, its output to the end of the half-cycle (R115, R117, R145). -/
theorem overcurrent_stops (serves : (s.chans.get c).state.inService = true) :
    (occurCounted ⟨.overcurrent, some c, v⟩ c s).burst.chans.get c = (s.burst.chans.get c).stopped s.atPeriodStart s.now := by
  by_cases last : (s.chans.get c).trial ≠ none ∨ 2 ≤ (s.chans.get c).trips
  · exact congrArg ChanView.burst (overcurrent_locks new serves last).1
  · obtain ⟨trial, few⟩ := not_or.mp last
    exact congrArg ChanView.burst (overcurrent_trips new serves (not_not.mp trial) (not_le.mp few)).1

/-- Its output: firing counts and remainder 0, and off at once only where a period begins at this moment. -/
theorem overcurrent_output (serves : (s.chans.get c).state.inService = true) :
    let t := occurCounted ⟨.overcurrent, some c, v⟩ c s
    (t.burst.chans.get c).h = 0 ∧ (t.burst.chans.get c).r = 0 ∧
    (t.heaterPin c = true ↔ s.heaterPin c = true ∧
      ¬(s.burst.period = .running ∧ s.burst.idx = some 0 ∧ s.burst.lastEdge = some s.now)) := by
  obtain ⟨h, r, out⟩ := ChanBurst.stopped_spec (s.burst.chans.get c) s.atPeriodStart s.now
  dsimp only
  rw [State.heaterPin, overcurrent_stops new serves]
  exact ⟨h, r, out.trans (and_congr Iff.rfl (not_congr (atPeriodStart_iff s)))⟩

/-- The kinds that lock the channel (R178). -/
theorem overcurrent_lockList (serves : (s.chans.get c).state.inService = true)
    (last : (s.chans.get c).trial ≠ none ∨ 2 ≤ (s.chans.get c).trips) (k : FaultKind) :
    k ∈ (occurCounted ⟨.overcurrent, some c, v⟩ c s).fault.locks.get c ↔
      k ∈ s.fault.locks.get c ∨ k = .overcurrent ∨ s.fault.tripCause.get c = some k := by
  have listed := congrArg ChanView.locks (overcurrent_locks (v := v) new serves last).1
  refine (iff_of_eq (congrArg (k ∈ ·) listed)).trans ?_
  show k ∈ joinLock .overcurrent (joinCause (s.fault.tripCause.get c) (s.fault.locks.get c)) ↔ _
  rw [mem_joinLock, mem_joinCause]
  tauto

end

/-! ## A counted on-sample -/

/-- The state at the end `e` of a kept on-sample of a channel, which counts as `v`. -/
def onSampled (c : Chan) (v e : Nat) (s : State) : State :=
  (conversionOver e s).modMeas c fun m => m.addOn (s.loader.image.iNom.get c) v

/-- The detection of an on-sample that is the second in a row over the threshold. -/
def overcurrentOf (c : Chan) (v : Nat) : Detection := ⟨.overcurrent, some c, some (v : Int)⟩

/-- What the end of a kept on-sample comes to: `u` is the state before the arbiter, `t` the one after it. -/
structure OnSampleEnded (c : Chan) (v e : Nat) (s u t : State) : Prop where
  undetected : (v ≤ s.loader.image.iNom.get c * 5 / 4 ∨ (s.meas.chans.get c).overCount ≠ 1) → u = onSampled c v e s
  detected : s.loader.image.iNom.get c * 5 / 4 < v → (s.meas.chans.get c).overCount = 1 →
    u = occurCounted (overcurrentOf c v) c (onSampled c v e s)
  figures : (t.meas.chans.get c).figures = ((s.meas.chans.get c).addOn (s.loader.image.iNom.get c) v).figures
  steady : Steady (onSampled c v e s) u
  beside : ∀ d, d ≠ c → chanView d u = chanView d s
  rest : ∃ conv chans, t = { u with meas := { u.meas with conv := conv, chans := chans } }

/-- The count of the sample is nothing that a notice reads. -/
theorem Recorded.beforeSample {d : Detection} {cls : FaultClass} {trial : Bool} {c : Chan} {v e : Nat} {s t : State}
    (h : Recorded d cls trial (onSampled c v e s) t) : Recorded d cls trial s t :=
  h.of_alike (u := onSampled c v e s) rfl rfl

theorem exec_onSample {c : Chan} {limit : Option Nat} {e : Nat} {s : State}
    (converting : s.meas.conv = some ⟨.current c .onSample, true, .live, limit, e⟩) (raw : Word16) :
    ∃ u t, exec (.conversionEnd raw) s = .next t ∧ OnSampleEnded c (raw.toNat / 32) e s u t := by
  have ended := exec_conversionEnd_current converting raw (c := c) (k := .onSample) rfl rfl nofun
  rw [if_pos rfl] at ended
  have counted : ((onSampled c (raw.toNat / 32) e s).meas.chans.get c) =
      (s.meas.chans.get c).addOn (s.loader.image.iNom.get c) (raw.toNat / 32) := Four.get_set_same ..
  by_cases due : (s.meas.chans.get c).overDue (s.loader.image.iNom.get c) (raw.toNat / 32) = true
  · have occurred : countSample c .onSample raw.toNat (conversionOver e s) =
        occurCounted (overcurrentOf c (raw.toNat / 32)) c (onSampled c (raw.toNat / 32) e s) := if_pos due
    rw [occurred] at ended
    refine ⟨_, _, ended, fun undetected => absurd due (overDue_of_undetected undetected), fun _ _ => rfl, ?_,
      (occurCounted_alarming ..).toSteady, fun d other => occurCounted_beside other .., startNext_rest _⟩
    rw [startNext_figures, (occurCounted_aside ..).figures c, counted]
  · have single : countSample c .onSample raw.toNat (conversionOver e s) = onSampled c (raw.toNat / 32) e s := if_neg due
    rw [single] at ended
    refine ⟨_, _, ended, fun _ => rfl, fun exceeds second => absurd ((overDue_iff ..).mpr ⟨exceeds, second⟩) due, ?_, .refl _,
      fun d _ => rfl, startNext_rest _⟩
    rw [startNext_figures, counted]

/-! ## The statement -/

/-- Settles O45. All that the arbiter leaves after a kept on-sample is that of the state before it; a detection is one of the four cases
of an OVERCURRENT occurrence, on a state in which only the sample is counted. -/
theorem onSampleCountsAndTripsOnOvercurrent : Obligations.OnSampleCountsAndTripsOnOvercurrent := by
  unfold Obligations.OnSampleCountsAndTripsOnOvercurrent
  refine ⟨fun raw c cv k s converting sample => ⟨fun kept live off => ?_, fun kept live on undetected => ?_, fun dropped => ?_⟩,
    fun raw c limit e s converting => ?_⟩
  · subst off
    have ended := exec_conversionEnd_current converting raw sample kept (by simp [live])
    rw [if_pos live] at ended
    exact ⟨_, ended, startNext_takes _ rfl⟩
  · subst on
    have ended := exec_conversionEnd_current converting raw sample kept (by simp [live])
    have single : countSample c .onSample raw.toNat (conversionOver cv.ends s) = onSampled c (raw.toNat / 32) cv.ends s :=
      if_neg (overDue_of_undetected undetected)
    rw [if_pos live, single] at ended
    refine ⟨_, ended, ?_⟩
    rw [← addOn_undetected undetected]
    exact startNext_takes _ rfl
  · refine ⟨startNext (conversionOver cv.ends s), ?_, startNext_takes _ rfl⟩
    rcases dropped with ⟨stale, kept⟩ | abandoned
    · have ended := exec_conversionEnd_current converting raw sample kept (by simp [stale])
      rwa [if_neg (by simp [stale])] at ended
    · exact exec_conversionEnd_abandoned converting raw abandoned
  · obtain ⟨u, t, ended, sampled⟩ := exec_onSample converting raw
    obtain ⟨conv, chans, rfl⟩ := sampled.rest
    have steady := sampled.steady
    obtain ⟨sum, count, inRow⟩ := ChanMeas.onFigures sampled.figures
    refine ⟨_, ended, steady.now, sum, count, fun low => ?_, fun exceeds other => ?_, fun undetected => ?_, fun exceeds second => ?_,
      fun d other => ⟨congrArg ChanView.chan (sampled.beside d other), congrArg ChanView.burst (sampled.beside d other)⟩,
      steady.station, steady.budget, steady.peers, steady.halt, steady.pins, steady.loader⟩
    · refine inRow.trans ?_
      rw [addOn_undetected (.inl low)]
      exact if_pos low
    · refine inRow.trans ?_
      rw [addOn_undetected (.inr other)]
      exact if_neg (not_le.mpr exceeds)
    · rw [sampled.undetected undetected]
      exact ⟨rfl, rfl, rfl⟩
    · have detected := sampled.detected exceeds second
      clear sampled steady ended
      subst detected
      refine ⟨inRow.trans (addOn_detected exceeds second), fun old => ?_, fun new out => ?_, fun new untripped unlocked => ?_⟩
      · have repeated := overcurrent_repeat (v := some ((raw.toNat / 32 : Nat) : Int)) (s := onSampled c (raw.toNat / 32) e s) old
        rw [overcurrentOf, repeated]
        exact ⟨rfl, rfl, rfl⟩
      · have idle : (s.chans.get c).state.inService = false := by
          rcases out with state | state <;> rw [state] <;> rfl
        obtain ⟨same, cond, causes, locks, recorded⟩ := overcurrent_out (s := onSampled c (raw.toNat / 32) e s) new idle
        have noted := recorded.beforeSample
        exact ⟨same, cond, causes, locks, noted⟩
      · have serves := (inService_iff _).mpr ⟨untripped, unlocked⟩
        refine ⟨fun trial few => ?_, fun last => ?_, overcurrent_output (s := onSampled c (raw.toNat / 32) e s) new serves⟩
        · obtain ⟨view, locks, recorded⟩ := overcurrent_trips (s := onSampled c (raw.toNat / 32) e s) new serves trial few
          have cond := congrFun (congrArg ChanView.conds view) .overcurrent
          have noted := recorded.beforeSample
          exact ⟨congrArg ChanView.chan view, congrArg ChanView.cause view, locks, cond.trans (by simp [raised]), noted⟩
        · obtain ⟨view, recorded⟩ := overcurrent_locks (s := onSampled c (raw.toNat / 32) e s) new serves last
          have cond := congrFun (congrArg ChanView.conds view) .overcurrent
          have noted := recorded.beforeSample
          exact ⟨congrArg ChanView.chan view, congrArg ChanView.cause view,
            overcurrent_lockList (s := onSampled c (raw.toNat / 32) e s) new serves last, cond.trans (Bool.and_false _), noted⟩

end Sys2Proof.Machine
end
